-- ==== Sys2Proof/Word.lean ====
section
/-! DEFINITION. The bytes and words of the motion loop, and the small name sets (motions, drive groups,
drums) with one storage cell for each name. -/

namespace Sys2Proof

/-- A byte of a motion-loop frame. -/
abbrev Byte := BitVec 8

/-- A payload word: 16 bits, sent high byte first (chapter 0, Words and frames). -/
abbrev Word := BitVec 16

/-- A run of bytes between the frame delimiters. -/
abbrev Bytes := List Byte

/-- The four names HOIST, DRAG, SWING, WALK: tracking channels 0 to 3 (chapter 1) and motion groups
0 to 3 (R88). -/
inductive Axis where
  | hoist | drag | swing | walk
  deriving DecidableEq, Repr

/-- The three drive groups of T9 (R51); WALK has none of its own. -/
inductive Drive where
  | hoist | drag | swing
  deriving DecidableEq, Repr

/-- The two drums with a rope payout (chapter 2). -/
inductive Drum where
  | hoist | drag
  deriving DecidableEq, Repr

def Axis.all : List Axis := [.hoist, .drag, .swing, .walk]
def Drive.all : List Drive := [.hoist, .drag, .swing]

/-- The number a name has as a channel or a motion group. -/
def Axis.code : Axis → Nat
  | .hoist => 0 | .drag => 1 | .swing => 2 | .walk => 3

/-- The name a channel or group number has; numbers above 3 have none (R1, R88). -/
def Axis.ofCode : Nat → Option Axis
  | 0 => some .hoist | 1 => some .drag | 2 => some .swing | 3 => some .walk | _ => none

def Drive.code : Drive → Nat
  | .hoist => 0 | .drag => 1 | .swing => 2

def Drive.ofCode : Nat → Option Drive
  | 0 => some .hoist | 1 => some .drag | 2 => some .swing | _ => none

/-- The motion group a drive group serves first (DRAG's members also serve WALK, chapter 3). -/
def Drive.axis : Drive → Axis
  | .hoist => .hoist | .drag => .drag | .swing => .swing

/-- The drive group whose converters carry a motion's reference: WALK borrows DRAG's (R57). -/
def Axis.drive : Axis → Drive
  | .hoist => .hoist | .drag => .drag | .swing => .swing | .walk => .drag

def Drum.axis : Drum → Axis
  | .hoist => .hoist | .drag => .drag

def Drum.drive : Drum → Drive
  | .hoist => .hoist | .drag => .drag

/-- One value for each of HOIST, DRAG, SWING, WALK. -/
structure PerAxis (α : Type) where
  hoist : α
  drag : α
  swing : α
  walk : α
  deriving DecidableEq, Repr

/-- One value for each of the drive groups HOIST, DRAG, SWING. -/
structure PerDrive (α : Type) where
  hoist : α
  drag : α
  swing : α
  deriving DecidableEq, Repr

/-- One value for each of the two drums. -/
structure PerDrum (α : Type) where
  hoist : α
  drag : α
  deriving DecidableEq, Repr

def PerAxis.get {α : Type} (p : PerAxis α) : Axis → α
  | .hoist => p.hoist | .drag => p.drag | .swing => p.swing | .walk => p.walk

def PerAxis.set {α : Type} (p : PerAxis α) (a : Axis) (v : α) : PerAxis α :=
  match a with
  | .hoist => { p with hoist := v }
  | .drag => { p with drag := v }
  | .swing => { p with swing := v }
  | .walk => { p with walk := v }

def PerAxis.all {α : Type} (v : α) : PerAxis α := ⟨v, v, v, v⟩

def PerAxis.map {α β : Type} (f : α → β) (p : PerAxis α) : PerAxis β :=
  ⟨f p.hoist, f p.drag, f p.swing, f p.walk⟩

def PerDrive.get {α : Type} (p : PerDrive α) : Drive → α
  | .hoist => p.hoist | .drag => p.drag | .swing => p.swing

def PerDrive.set {α : Type} (p : PerDrive α) (d : Drive) (v : α) : PerDrive α :=
  match d with
  | .hoist => { p with hoist := v }
  | .drag => { p with drag := v }
  | .swing => { p with swing := v }

def PerDrive.all {α : Type} (v : α) : PerDrive α := ⟨v, v, v⟩

def PerDrive.map {α β : Type} (f : α → β) (p : PerDrive α) : PerDrive β :=
  ⟨f p.hoist, f p.drag, f p.swing⟩

def PerDrum.get {α : Type} (p : PerDrum α) : Drum → α
  | .hoist => p.hoist | .drag => p.drag

def PerDrum.set {α : Type} (p : PerDrum α) (d : Drum) (v : α) : PerDrum α :=
  match d with
  | .hoist => { p with hoist := v }
  | .drag => { p with drag := v }

end Sys2Proof
end

