-- ==== Sys2Proof/Config.lean ====
section
/-! DEFINITION. What is fixed for the part: capacities and divisors the spec states as numbers, and the one value the spec
leaves open that a command could show. -/

namespace Sys2Proof.Config

/-- The transmit queue holds up to 8 frames (R173). -/
def queueCapacity : Nat := 8

/-- An inserted frame enters while the queue holds 6 frames or fewer (R173): below this count. -/
def insertedThreshold : Nat := 7

/-- The alarm list never holds more than 32 entries (R154). -/
def alarmCapacity : Nat := 32

/-- The number of conditions (R166). -/
def conditionCount : Nat := 60

/-- Counts in one electrical revolution. -/
def revolution : Int := 65536

/-- Counts per revolution times tenths of a millimetre per centimetre (R36). -/
def payoutDivisor : Int := 6553600

/-- Centidegrees in one revolution of the house (R38). -/
def circle : Int := 36000

/-- The largest payload, in bytes (chapter 9.2). -/
def maxPayload : Nat := 48

/-- The load FIFO holds 8 torques (R109). -/
def loadFifoDepth : Nat := 8

/-- FREE VALUE (assumption 20). The kind field that a bad frame of no bytes at all is reported with: BAD_FRAME's detail
holds the kind as received (R170), and such a frame has none. -/
opaque kindOfEmptyFrame : Byte

end Sys2Proof.Config
end

