-- ==== Sys2Proof/Syntax.lean ====
section
/-! DEFINITION. The commands of the 7140: one constructor for each row of spec/opcode_table.json, with the operands the
frame, pin or event of that row carries. -/

namespace Sys2Proof

/-- What a frame carries besides the payload its kind defines: its destination and source bytes, and any payload
bytes beyond the kind's payload size, which are ignored but forwarded (R168, R169). -/
structure Link where
  dest : Byte
  src : Byte
  surplus : Bytes
  deriving DecidableEq, Repr

/-- The payload of a SAMPLE frame (R1, chapter 12.2). -/
structure SampleData where
  channel : Byte
  sequence : Byte
  sine : Word
  cosine : Word
  excitation : Word
  deriving DecidableEq, Repr

/-- The payload of a DRIVE_STATUS frame (R54, chapter 12.2). -/
structure DriveData where
  ready : Word
  fault : Word
  torque : Word
  speed : Word
  forms : Word
  feedback : Word
  deriving DecidableEq, Repr

/-- Who sent a MGMT_REQUEST to this node, and the tag its response returns (R172, R184). -/
structure Req where
  src : Byte
  tag : Word
  deriving DecidableEq, Repr

/-- The three items of the FIXED_ITEMS row. -/
inductive FixedItem where
  | sinOffset | cosOffset | gain
  deriving DecidableEq, Repr

/-- One command: one row of spec/opcode_table.json (LAWS.json gives each constructor's mnemonic). -/
inductive Instr where
  -- resets and bypass (chapters 9 and 10)
  | powerOnReset
  | pinReset
  | resetComplete (straps : BitVec 5)
  | bypassStart
  | softReset
  -- frames of the loop (chapter 9)
  | cycle (l : Link) (number : Word)
  | cab (l : Link) (selector pushes : Word)
  | command (l : Link) (group lever : Word)
  | sample (l : Link) (d : SampleData)
  | discrete (l : Link) (low high : Word)
  | driveStatus (l : Link) (d : DriveData)
  | forwardedFrame (bytes : Bytes)
  | ownFrameRemoval (bytes : Bytes)
  | badFrame (bytes : Bytes)
  -- port B and the silence timer
  | frameTransmitted
  | loopSilent
  -- management requests (chapter 10)
  | read (r : Req) (item index : Word) (count : Byte)
  | write (r : Req) (item index : Word) (values : List Word)
  | openTable (r : Req) (table : Word)
  | loadTable (r : Req) (table first : Word) (mode : Byte) (words : List Word)
  | closeTable (r : Req) (table : Word)
  | abandonTable (r : Req) (table : Word)
  | readTable (r : Req) (table first : Word) (count : Byte)
  | start (r : Req)
  | stop (r : Req)
  | learn (r : Req) (channel : Word)
  | zero (r : Req) (channel : Word) (values : List Word)
  | force (r : Req) (condition : Word)
  | ack (r : Req) (target : Word)
  | readAlarms (r : Req) (position : Word) (count : Byte)
  | reset (r : Req)
  | unknownCode (r : Req) (code : Byte)
  -- a READ over DISCARD_COUNT, and WRITEs of items with a behaviour of their own
  | discardCountRead (r : Req) (item index : Word) (count : Byte)
  | crossingFlags (r : Req) (values : List Word)
  | pitHeading (r : Req) (values : List Word)
  | correctionMode (r : Req) (channel : Word) (values : List Word)
  | speedLimit (r : Req) (channel : Word) (values : List Word)
  | offsetLimit (r : Req) (channel : Word) (values : List Word)
  | gainLimit (r : Req) (channel : Word) (values : List Word)
  | gainMode (r : Req) (channel : Word) (values : List Word)
  | gainLow (r : Req) (channel : Word) (values : List Word)
  | gainHigh (r : Req) (channel : Word) (values : List Word)
  | swingGear (r : Req) (values : List Word)
  | hoistRopeK (r : Req) (values : List Word)
  | dragRopeK (r : Req) (values : List Word)
  | camZero (r : Req) (values : List Word)
  -- events a marker or a frame brings about, each with the frame that brings it
  | channelStale (l : Link) (number : Word) (channel : Axis)
  | memberAbsent (l : Link) (number : Word) (group : Drive) (member : Fin 4)
  | discreteStale (l : Link) (number : Word)
  | cmdLost (l : Link) (number : Word) (group : Axis)
  | transferTimeout (l : Link) (number : Word)
  | shoeMismatch (l : Link) (number : Word)
  | shoeDisagree (l : Link) (number : Word)
  | brakeDelayExpiry (l : Link) (group : Axis) (lever : Word)
  | stuck (l : Link) (d : SampleData)
  | settled (l : Link) (d : SampleData)
  | fixedItems (r : Req) (item : FixedItem) (channel : Word) (values : List Word)
  deriving DecidableEq, Repr

end Sys2Proof
end

