-- ==== Sys2Proof/Machine/Operands.lean ====
section
/-! DEFINITION. The arithmetic of the manual (chapter 0.5), words and their fields, the check of a frame (R168), the frame
layout (chapter 12.1), and the measured angle (R18). -/

namespace Sys2Proof.Machine

/-! ### Arithmetic -/

/-- "clamp to a range takes the nearest value inside it" (chapter 0.5). -/
def clamp (lo hi v : Int) : Int := max lo (min hi v)

/-- Clamp of a count. -/
def clampNat (lo hi v : Nat) : Nat := max lo (min hi v)

/-- Division truncating toward zero (chapter 0.5). -/
def trunc (a b : Int) : Int := Int.tdiv a b

/-- Division rounding toward minus infinity (chapter 0.5). -/
def floorDiv (a b : Int) : Int := Int.fdiv a b

/-- The sign of a value: 1, 0 or −1. -/
def sign (v : Int) : Int := if v > 0 then 1 else if v < 0 then -1 else 0

/-- The magnitude of a value. -/
def mag (v : Int) : Int := if v < 0 then -v else v

/-- A saturating increment of a count. -/
def satInc (top n : Nat) : Nat := if n < top then n + 1 else top

/-! ### Words and bytes -/

/-- A word as an unsigned number. -/
def unsigned (w : Word) : Int := (w.toNat : Int)

/-- A word as a two's-complement number. -/
def signed (w : Word) : Int := w.toInt

/-- A number as a word, in two's complement where it is negative. -/
def wordOf (v : Int) : Word := BitVec.ofInt 16 v

def natWord (n : Nat) : Word := BitVec.ofNat 16 n

/-- The word a field shows when its value is absent. -/
def absentWord : Word := 0xFFFF#16

def highByte (w : Word) : Byte := BitVec.ofNat 8 (w.toNat / 256)
def lowByte (w : Word) : Byte := BitVec.ofNat 8 w.toNat

/-- Two bytes as one word, the high one first. -/
def joinBytes (h l : Byte) : Word := BitVec.ofNat 16 (h.toNat * 256 + l.toNat)

/-- A word of two byte fields given as numbers. -/
def packBytes (h l : Nat) : Word := BitVec.ofNat 16 ((h % 256) * 256 + l % 256)

def bit (w : Word) (i : Nat) : Bool := w.getLsbD i

/-- A flag as a one-bit number. -/
def flag (b : Bool) : Nat := if b then 1 else 0

/-- "zero is false, any other value true". -/
def truthy (w : Word) : Bool := w != 0#16

/-- The payload bytes of a run of words, high byte first. -/
def wordsToBytes : List Word → Bytes
  | [] => []
  | w :: ws => highByte w :: lowByte w :: wordsToBytes ws

/-- The payload words of a run of bytes; a trailing odd byte is ignored (R193). -/
def bytesToWords : Bytes → List Word
  | h :: l :: rest => joinBytes h l :: bytesToWords rest
  | _ => []

/-! ### The check and the frame (R168, chapter 12.1) -/

/-- One shift of the check register: polynomial x^16 + x^12 + x^5 + 1, most significant bit first. -/
def crcShift (c : Word) : Word :=
  if c.msb then (c <<< 1) ^^^ 0x1021#16 else c <<< 1

def crcByte (c : Word) (b : Byte) : Word :=
  let c0 := c ^^^ (BitVec.ofNat 16 (b.toNat * 256))
  crcShift (crcShift (crcShift (crcShift (crcShift (crcShift (crcShift (crcShift c0)))))))

/-- The check over a run of bytes: initial value FFFFh, no final inversion (R168). -/
def crc (bs : Bytes) : Word := bs.foldl crcByte 0xFFFF#16

/-- Frame kinds and their codes (chapter 12.1). -/
def kindCycle : Byte := 0x01#8
def kindCab : Byte := 0x02#8
def kindCommand : Byte := 0x03#8
def kindReference : Byte := 0x04#8
def kindSample : Byte := 0x05#8
def kindDiscrete : Byte := 0x06#8
def kindDriveStatus : Byte := 0x07#8
def kindState : Byte := 0x08#8
def kindRequest : Byte := 0x09#8
def kindResponse : Byte := 0x0A#8

/-- The broadcast destination, 63 (chapter 9.2). -/
def broadcast : Byte := 63#8

/-- A frame's bytes: kind, destination, source, length, payload and a check formed over them. -/
def frame (kind dest src : Byte) (payload : Bytes) : Bytes :=
  let body := kind :: dest :: src :: BitVec.ofNat 8 payload.length :: payload
  let c := crc body
  body ++ [highByte c, lowByte c]

/-- The kind field of received bytes; a frame of no bytes has none (assumption 20). -/
def frameKind : Bytes → Byte
  | k :: _ => k
  | [] => Config.kindOfEmptyFrame

def frameDest (bs : Bytes) : Byte := bs.getD 1 0
def frameSrc (bs : Bytes) : Byte := bs.getD 2 0
def frameLen (bs : Bytes) : Nat := (bs.getD 3 0).toNat

/-- The payload: what stands between the four header bytes and the two check bytes. -/
def framePayload (bs : Bytes) : Bytes := (bs.drop 4).take (bs.length - 6)

/-- The received check agrees with the one computed over the bytes before it (R168). -/
def checkAgrees (bs : Bytes) : Bool :=
  decide (2 ≤ bs.length) &&
    joinBytes (bs.getD (bs.length - 2) 0) (bs.getD (bs.length - 1) 0) == crc (bs.take (bs.length - 2))

/-- The byte count is the length field plus six, with the length at most 48 (R168). -/
def lengthAgrees (bs : Bytes) : Bool :=
  decide (4 ≤ bs.length) && bs.length == frameLen bs + 6 && decide (frameLen bs ≤ Config.maxPayload)

/-- A good frame (R168). -/
def goodFrame (bs : Bytes) : Bool := checkAgrees bs && lengthAgrees bs

/-- The payload size of each kind the 7140 acts on (chapter 12.1); other kinds have none. A REFERENCE, STATE or
MGMT_RESPONSE frame is only forwarded or removed, so no size applies to it. -/
def payloadSize (kind : Byte) : Option Nat :=
  if kind = kindCycle then some 2
  else if kind = kindCab then some 4
  else if kind = kindCommand then some 4
  else if kind = kindSample then some 8
  else if kind = kindDiscrete then some 4
  else if kind = kindDriveStatus then some 12
  else if kind = kindRequest then some 8
  else none

/-- A good frame of a kind the 7140 acts on whose length is below that kind's size (R168). -/
def shortFrame (bs : Bytes) : Bool :=
  match payloadSize (frameKind bs) with
  | some n => decide (frameLen bs < n)
  | none => false

/-- Why a frame is bad: 0 check fault, 1 length fault, 2 short (R170); none for a frame that is acted on. -/
def badReason (bs : Bytes) : Option Nat :=
  if !checkAgrees bs then some 0
  else if !lengthAgrees bs then some 1
  else if shortFrame bs then some 2
  else none

/-! ### Frames of the loop, and which of them this node acts on (R169) -/

/-- Whether a frame's payload, the kind's own size with its surplus, keeps to 48 bytes (chapter 9.2). -/
def fits (l : Link) (size : Nat) : Bool := decide (size + l.surplus.length ≤ Config.maxPayload)

/-- The bytes of a received frame of the given kind. -/
def received (kind : Byte) (l : Link) (words : List Word) : Bytes :=
  frame kind l.dest l.src (wordsToBytes words ++ l.surplus)

/-- The words of a SAMPLE frame (chapter 12.2). -/
def sampleWords (d : SampleData) : List Word := [joinBytes d.channel d.sequence, d.sine, d.cosine, d.excitation]

/-- The words of a DRIVE_STATUS frame (chapter 12.2). -/
def driveWords (d : DriveData) : List Word := [d.ready, d.fault, d.torque, d.speed, d.forms, d.feedback]

/-- The kinds delivered to a block of this device wherever they come from. -/
def deliveredKind (k : Byte) : Bool :=
  k == kindCycle || k == kindCab || k == kindCommand || k == kindSample || k == kindDiscrete || k == kindDriveStatus

/-- The kinds this device itself sends. -/
def ownKind (k : Byte) : Bool := k == kindReference || k == kindState || k == kindResponse

/-- A frame this device sent, back from the ring (R169). -/
def returnsOwn (own : Byte) (bs : Bytes) : Bool := ownKind (frameKind bs) && frameSrc bs == own

/-- A good frame that is only forwarded: a kind not acted on, a request for another node, another node's REFERENCE, STATE or
MGMT_RESPONSE (R169). -/
def onlyForwarded (own : Byte) (bs : Bytes) : Bool :=
  let k := frameKind bs
  badReason bs == none && !deliveredKind k && !returnsOwn own bs && !(k == kindRequest && frameDest bs == own)

/-! ### The measured angle (R18) -/

/-- Whether a vector lies in the lower half turn, from 32768 counts up to a full revolution. -/
def lowerHalf (c s : Int) : Bool := decide (s < 0) || (s == 0 && decide (c < 0))

/-- The leading `n` binary digits of the vector's angle as a fraction of a revolution: each doubling of the angle (the
square of c + i s) brings the next digit, so every digit is exact for every integer vector. -/
def angleDigits : Nat → Int → Int → Nat → Nat
  | 0, _, _, acc => acc
  | n + 1, c, s, acc => angleDigits n (c * c - s * s) (2 * c * s) (acc * 2 + flag (lowerHalf c s))

/-- The measured angle θm of the point (c′, s′): in counts, rounded to the nearest count, halves upward, 65536 taken as 0
(R18). The 17 digits are the floor of the angle in half counts. -/
def measuredAngle (c s : Int) : Int := (((angleDigits 17 c s 0 + 1) / 2 % 65536 : Nat) : Int)

end Sys2Proof.Machine
end

