-- ==== Sys2Proof/Machine/State.lean ====
section
/-! DEFINITION. Every piece of state the manual gives the 7140, block by block (chapter 0.3), the queue of waiting commands,
the reasons a step can stop, and the state after power-on reset. All of it is plain data. -/

namespace Sys2Proof.Machine

/-! ### Tracking unit (chapter 1) -/

/-- The four states of a tracking channel (R2). -/
inductive ChanState where
  | unlocked | acquire | tracking | fault
  deriving DecidableEq, Repr

/-- Fault causes of a channel (R2). -/
inductive Cause where
  | loss | clip | stuck | stale
  deriving DecidableEq, Repr

/-- Learning state (R2, R13). -/
inductive LearnState where
  | idle | waitingIndex | gathering
  deriving DecidableEq, Repr

/-- A raw sample pair. -/
structure Pair where
  s : Int
  c : Int
  deriving DecidableEq, Repr

/-- The accumulators of a learning (R13). -/
structure Accum where
  smax : Int
  smin : Int
  cmax : Int
  cmin : Int
  deriving DecidableEq, Repr

/-- Correction values So, Co, G (R10). -/
structure Correction where
  so : Int
  co : Int
  g : Int
  deriving DecidableEq, Repr

/-- The record of a tracking channel (R2). The raw state of OVERSPEED_x is held in the condition record of 16 to 19. -/
structure Channel where
  state : ChanState
  /-- Present in FAULT only. -/
  cause : Option Cause
  phase : Int
  speed : Int
  gain : Nat
  /-- Completed turns; WALK keeps none, and its field stays 0. -/
  turns : Int
  /-- The last accepted pair. -/
  last : Option Pair
  /-- The second-last accepted pair. -/
  second : Option Pair
  lastSeq : Option Nat
  note : Bool
  rejects : Nat
  stuckCount : Nat
  stale : Nat
  settle : Nat
  boost : Bool
  used : Correction
  learn : LearnState
  acc : Option Accum
  deriving DecidableEq, Repr

/-! ### Position unit (chapter 2) -/

/-- What a channel hands to the POS (R30). -/
structure Handed where
  state : ChanState
  phase : Int
  turns : Int
  deriving DecidableEq, Repr

/-- The position record (R32). The raw states of PAYOUT_RANGE_x are held in the condition records 25 and 26. -/
structure Pos where
  handed : PerAxis Handed
  payoutZero : PerDrum Int
  payout : PerDrum Int
  houseZero : Int
  house : Int
  relative : Int
  cam : Int
  /-- DOUBTFUL_H, DOUBTFUL_D, DOUBTFUL_S. -/
  doubtful : PerDrive Bool
  headingConfirmed : Bool
  /-- Last state of each reference mark: made (true), open (false) or absent. -/
  marks : PerDrive (Option Bool)
  lastConfirm : Option Bool
  deriving DecidableEq, Repr

/-! ### Drive group unit (chapter 3) -/

/-- Presence of a member (R53). -/
inductive Presence where
  | absent | present | ready | faulted
  deriving DecidableEq, Repr

/-- A converter's ability (R53). -/
structure Ability where
  full : Bool
  plain : Bool
  regen : Bool
  deriving DecidableEq, Repr

/-- Motor-set feedback of a converter (R53). -/
inductive Feedback where
  | none | drag | walk | both
  deriving DecidableEq, Repr

/-- One member of the member set with its record (R51 to R53). -/
structure Member where
  address : Nat
  presence : Presence
  ready : Option Bool
  fault : Option Nat
  torque : Option Int
  speed : Option Int
  ability : Option Ability
  feedback : Option Feedback
  note : Bool
  silence : Nat
  deriving DecidableEq, Repr

/-- Desired forms of a T9 entry (R51). -/
inductive Desired where
  | both | fullOnly | plainOnly
  deriving DecidableEq, Repr

/-- The resolved form of a group (R57). -/
inductive Form where
  | full | plain | unresolved
  deriving DecidableEq, Repr

/-- The contactor feedback summary (R63). -/
inductive Summary where
  | drag | walk | none | incomplete | mixed | conflict
  deriving DecidableEq, Repr

/-- The values derived for a drive group (R57 to R62). -/
structure GroupValues where
  form : Form
  ready : Nat
  configured : Nat
  torque : Int
  speed : Int
  regen : Bool
  deriving DecidableEq, Repr

/-- State of the input image (R66). -/
inductive ImageState where
  | unloaded | fresh | stale
  deriving DecidableEq, Repr

/-- The input image (R66): input n is bit n, made is 1. -/
structure Image where
  inputs : BitVec 32
  state : ImageState
  stale : Nat
  note : Bool
  deriving DecidableEq, Repr

/-- Brake wear state (R69). -/
inductive Brake where
  | unknown | good | worn | failed
  deriving DecidableEq, Repr

/-- The state of the DGU. -/
structure Dgu where
  /-- The member set and its records, in table order; the configured count is the length. -/
  members : PerDrive (List Member)
  desired : PerDrive Desired
  values : PerDrive GroupValues
  summary : Summary
  image : Image
  brakes : PerDrive Brake
  deriving DecidableEq, Repr

/-! ### Envelope unit (chapter 4) -/

/-- How the profile in force was selected (R75). -/
inductive Selection where
  | none | cell | doubtful
  deriving DecidableEq, Repr

/-- The envelope record (R75). -/
structure Env where
  band : PerDrum (Option Nat)
  cellProfile : Option Nat
  selection : Selection
  selected : Option Nat
  lastPayout : PerDrum Int
  lastDoubt : PerDrum Bool
  deriving DecidableEq, Repr

/-! ### Motion groups (chapter 5) -/

/-- State of a motion group (R86). -/
inductive GroupState where
  | held | active | stopping | cut
  deriving DecidableEq, Repr

/-- The content of a REFERENCE frame kept as the last reference (R86). The form UNRESOLVED stands for NONE. -/
structure Reference where
  enable : Bool
  speed : Int
  motoring : Int
  regen : Int
  form : Form
  deriving DecidableEq, Repr

/-- The motion group record (R86). -/
structure Group where
  state : GroupState
  q : Int
  neutralSeen : Bool
  idle : Nat
  note : Bool
  loss : Nat
  lastLever : Option Int
  lastRef : Reference
  /-- DRAG only; stays false in the other records. -/
  tightline : Bool
  deriving DecidableEq, Repr

/-! ### Swing unit (chapter 6) -/

/-- Direction of a crossing (R122). -/
inductive CrossDir where
  | cw | ccw
  deriving DecidableEq, Repr

/-- The record of one crossing mark (R109). -/
structure Mark where
  latched : Bool
  pulse : Bool
  dir : Option CrossDir
  deriving DecidableEq, Repr

/-- The SWU record (R109). The raw states of SWING_AT_EDGE and SWING_INSIDE_FORBIDDEN are held in the condition records 45
and 46. -/
structure Swu where
  heldHr : Int
  heldDoubt : Bool
  heldHeading : Bool
  fifo : List Int
  heldTorque : Int
  computed : Option Int
  applied : Option Int
  /-- Clockwise and counter-clockwise window caps of the last SWING frame; none is unrestricted. -/
  capCw : Option Int
  capCcw : Option Int
  /-- Indices of the T6 windows that contain the held Hr, rising. -/
  inside : List Nat
  marks : List Mark
  deriving DecidableEq, Repr

/-! ### Walk sequencer (chapter 7) -/

/-- Sequencer states (R129). -/
inductive SeqState where
  | unsettled | digging | openingDrag | closingWalk | walkReady
  | stepping | finishing | openingWalk | closingDrag | transferFault
  deriving DecidableEq, Repr

/-- Contactor command (R129). -/
inductive Contactor where
  | keep | none | drag | walk
  deriving DecidableEq, Repr

/-- Direction of a step (R129). -/
inductive StepDir where
  | forward | back
  deriving DecidableEq, Repr

/-- CAB mode selector (R131). -/
inductive Selector where
  | dig | walk
  deriving DecidableEq, Repr

/-- Shoe state (R145). -/
inductive Shoe where
  | seated | partly | lifted | unknown
  deriving DecidableEq, Repr

/-- The sequencer record (R129). The raw states of SHOE_MISMATCH, SHOE_DISAGREE and WALK_INTERLOCK are held in the condition
records 51 to 53. -/
structure Wsq where
  state : SeqState
  command : Contactor
  transfer : Nat
  steps : Int
  offPark : Bool
  returnPending : Bool
  dir : Option StepDir
  heldCam : Int
  heldSector : Option Nat
  heldWalk : ChanState
  brake : Bool
  selector : Option Selector
  left : Shoe
  right : Shoe
  mismatch : Nat
  disagree : Nat
  deriving DecidableEq, Repr

/-! ### Alarm unit (chapter 8) -/

/-- Severities in rising order (R149). -/
inductive Severity where
  | note | warn | limit | stop | trip
  deriving DecidableEq, Repr

/-- Listing states (R149). -/
inductive Listing where
  | quiet | activeNew | activeSeen | goneNew | unlisted
  deriving DecidableEq, Repr

/-- A condition record (R149). The effective severity and mask are read from T10 and the condition list when asked for
(R151); kind, floor and affected groups are those of the condition list (R166). -/
structure Cond where
  raised : Bool
  detail : Option Nat
  listing : Listing
  forced : Bool
  deriving DecidableEq, Repr

/-- An alarm list entry (R155). Its severity, state, forced flag and detail are those of its condition's record. -/
structure Entry where
  cond : Nat
  count : Nat
  seq : Nat
  cycle : Nat
  deriving DecidableEq, Repr

/-- The state of the ALU. -/
structure Alu where
  /-- One record for each condition 0 to 59. -/
  conds : List Cond
  /-- The alarm list, front first. -/
  list : List Entry
  seq : Nat
  lastAck : Option Bool
  /-- Group severity last handed to each shaper; absent is NONE (R162). -/
  severity : PerAxis (Option Severity)
  deriving DecidableEq, Repr

/-! ### Loop port unit (chapter 9) -/

/-- The silence timer (R167, R175). -/
inductive Timer where
  /-- not yet started: in the bypass of a power-on or pin reset -/
  | stopped
  | running
  | expired
  deriving DecidableEq, Repr

/-- Whether port A is relayed straight to port B, and why (R176, R177). -/
inductive Bypass where
  /-- in the loop: frames are taken -/
  | off
  /-- power-on or pin reset not yet complete -/
  | reset
  /-- reset complete with a strapped address of 0, 1 or 31 -/
  | strapped
  /-- the bypass of a soft reset -/
  | soft
  deriving DecidableEq, Repr

/-- The loop port record (R167). The raw state of LOOP_SILENT is held in condition record 0. -/
structure Lpu where
  ownAddress : Nat
  /-- Frames awaiting or in transmission at port B, front first, as bytes. -/
  queue : List Bytes
  discard : Nat
  lastCycle : Nat
  timer : Timer
  /-- LOOP_SILENCE_TIME as it stood when the timer was last started, in ms (R175). -/
  timerLength : Nat
  trafficSeen : Bool
  bypass : Bypass
  deriving DecidableEq, Repr

/-! ### Management unit (chapter 10) -/

/-- Part mode (R179). -/
inductive Mode where
  | standby | run | halted
  deriving DecidableEq, Repr

/-- The part mode record (R179). -/
structure Mgu where
  mode : Mode
  tripStanding : Bool
  lastLevers : PerAxis (Option Int)
  lastReset : Option Bool
  /-- A RESET request was answered and its soft reset has not begun its bypass (R177, R190). -/
  resetPending : Bool
  deriving DecidableEq, Repr

inductive NoiseMode where
  | one | two
  deriving DecidableEq, Repr

inductive CorrectionMode where
  | none | fixed | learnOnce | learnEachRev
  deriving DecidableEq, Repr

inductive GainMode where
  | scheduled | fixed
  deriving DecidableEq, Repr

inductive RecoveryGain where
  | high | keep
  deriving DecidableEq, Repr

inductive AckMethod where
  | operator | read | both
  deriving DecidableEq, Repr

inductive AdaptMode where
  | off | light | medium | strong
  deriving DecidableEq, Repr

/-- The items of one channel (R3). -/
structure ChannelItems where
  sampleSource : Nat
  noiseThreshold : Int
  noiseMode : NoiseMode
  correctionMode : CorrectionMode
  fixedSin : Int
  fixedCos : Int
  fixedGain : Int
  offsetLimit : Int
  gainLimit : Int
  lossLevel : Int
  speedLimit : Int
  gainMode : GainMode
  gainLow : Nat
  gainHigh : Nat
  bandUp : Int
  bandDown : Int
  recoveryGain : RecoveryGain
  staleLimit : Nat
  deriving DecidableEq, Repr

/-- The items of one motion group (R87). -/
structure GroupItems where
  deadband : Int
  accel : Int
  decel : Int
  stop : Int
  brakeDelay : Nat
  deriving DecidableEq, Repr

/-- The item store but for DISCARD_COUNT, which is the LPU's discard count (chapter 12.7). -/
structure Items where
  silenceTime : Nat
  ackMethod : AckMethod
  channels : PerAxis ChannelItems
  swingGear : Int
  ropeK : PerDrum Int
  markPayout : PerDrum Int
  markAngle : Int
  camZero : Int
  pitHeading : Int
  doubtCreep : Int
  headingCreep : Int
  memberSilenceLimit : Nat
  inputNode : Nat
  discreteStaleLimit : Nat
  hysteresis : Int
  groups : PerAxis GroupItems
  commandLossLimit : Nat
  limitCreep : Int
  noDumpCap : Int
  tightlineFloor : Int
  pullbackGain : Int
  adaptMode : AdaptMode
  adaptBase : Int
  adaptFloor : Int
  adaptStep : Int
  transferLimit : Nat
  finishSpeed : Int
  shoeLimit : Nat
  deriving DecidableEq, Repr

/-- Table states (R187). -/
inductive TableState where
  | empty | edit | live
  deriving DecidableEq, Repr

/-- A table: its state and its words (R187). -/
structure Table where
  state : TableState
  words : List Word
  deriving DecidableEq, Repr

/-- The tables T0 to T10. -/
structure Tables where
  t0 : Table
  t1 : Table
  t2 : Table
  t3 : Table
  t4 : Table
  t5 : Table
  t6 : Table
  t7 : Table
  t8 : Table
  t9 : Table
  t10 : Table
  deriving DecidableEq, Repr

/-! ### The machine -/

/-- The whole device, with the commands that wait to be taken. -/
structure State where
  lpu : Lpu
  mgu : Mgu
  items : Items
  tables : Tables
  tru : PerAxis Channel
  pos : Pos
  dgu : Dgu
  env : Env
  groups : PerAxis Group
  swu : Swu
  wsq : Wsq
  alu : Alu
  /-- The MODEL's own field (assumption 4): whether, after a reset, the DGU's reports reach the ALU before the POS's. The
  manual leaves that order open (R149). -/
  dguReportsFirst : Bool
  /-- Commands waiting, first in, first out. -/
  pending : List Instr
  deriving DecidableEq, Repr

/-- Faults. No command of this block faults: the manual gives every one of them an effect in every state, so nothing raises
the one constructor, and its absence is safe. -/
inductive Fault where
  /-- Raised by nothing (safe): kept so that the type names what a fault of this block would be. -/
  | noCommandFaults
  deriving DecidableEq, Repr

/-- Refusals. -/
inductive Refusal where
  /-- Raised only by an arm of exec whose command has no meaning in the model yet (safe: the run stops). -/
  | notModelled (mnemonic : String)
  deriving DecidableEq, Repr

/-! ### The state after power-on reset -/

/-- A table's number of words (chapter 12.6). -/
def emptyTable (capacity : Nat) : Table := ⟨.empty, List.replicate capacity 0#16⟩

/-- Every table EMPTY, every word 0 (R191). -/
def Tables.reset : Tables :=
  { t0 := emptyTable 289, t1 := emptyTable 417, t2 := emptyTable 17, t3 := emptyTable 17, t4 := emptyTable 17,
    t5 := emptyTable 17, t6 := emptyTable 57, t7 := emptyTable 9, t8 := emptyTable 49, t9 := emptyTable 18,
    t10 := emptyTable 60 }

/-- The defaults of one channel's items (R3). -/
def ChannelItems.reset (source : Nat) : ChannelItems :=
  { sampleSource := source, noiseThreshold := 128, noiseMode := .one, correctionMode := .none, fixedSin := 0,
    fixedCos := 0, fixedGain := 1024, offsetLimit := 64, gainLimit := 200, lossLevel := 256, speedLimit := 4096,
    gainMode := .scheduled, gainLow := 2, gainHigh := 6, bandUp := 4096, bandDown := 512, recoveryGain := .high,
    staleLimit := 3 }

/-- The defaults of one group's items (R87). -/
def GroupItems.reset : GroupItems := { deadband := 30, accel := 20, decel := 25, stop := 50, brakeDelay := 50 }

/-- Every item at its default (R191; chapter 12.7). -/
def Items.reset : Items :=
  { silenceTime := 20, ackMethod := .operator,
    channels := ⟨.reset 20, .reset 21, .reset 22, .reset 23⟩,
    swingGear := 1000, ropeK := ⟨2500, 2500⟩, markPayout := ⟨0, 0⟩, markAngle := 0, camZero := 0, pitHeading := 0,
    doubtCreep := 100, headingCreep := 150, memberSilenceLimit := 4, inputNode := 24, discreteStaleLimit := 3,
    hysteresis := 50, groups := .all .reset, commandLossLimit := 3, limitCreep := 250, noDumpCap := 100,
    tightlineFloor := 200, pullbackGain := 500, adaptMode := .off, adaptBase := 300, adaptFloor := 300, adaptStep := 8,
    transferLimit := 50, finishSpeed := 200, shoeLimit := 10 }

/-- The values in use after a reset: those of the fixed items, or 0, 0, 1024 in NONE mode (R2). -/
def ChannelItems.initialCorrection (it : ChannelItems) : Correction :=
  match it.correctionMode with
  | .none => ⟨0, 0, 1024⟩
  | _ => ⟨it.fixedSin, it.fixedCos, it.fixedGain⟩

/-- A channel's record after any reset, its items as given (R2). -/
def Channel.reset (it : ChannelItems) : Channel :=
  { state := .unlocked, cause := none, phase := 0, speed := 0, gain := it.gainHigh, turns := 0, last := none,
    second := none, lastSeq := none, note := false, rejects := 0, stuckCount := 0, stale := 0, settle := 0, boost := true,
    used := it.initialCorrection, learn := .idle, acc := none }

/-- The position record after any reset, with the kept PIT_HEADING and CAM_ZERO (R32). -/
def Pos.reset (pitHeading camZero : Int) : Pos :=
  { handed := .all ⟨.unlocked, 0, 0⟩, payoutZero := ⟨0, 0⟩, payout := ⟨0, 0⟩, houseZero := 0, house := 0,
    relative := (0 - pitHeading) % 36000, cam := camZero % 360, doubtful := .all true, headingConfirmed := false,
    marks := .all none, lastConfirm := none }

/-- The input image after any reset (R66). -/
def Image.reset : Image := { inputs := 0#32, state := .unloaded, stale := 0, note := false }

/-- The derived values of a group with no member (R57 to R62). -/
def GroupValues.reset : GroupValues :=
  { form := .unresolved, ready := 0, configured := 0, torque := 0, speed := 0, regen := false }

/-- The DGU with an empty member set (R52, R66, R69). -/
def Dgu.reset : Dgu :=
  { members := .all [], desired := .all .both, values := .all .reset, summary := .incomplete, image := .reset,
    brakes := .all .unknown }

/-- The envelope record while T0 is not LIVE after a reset (R75). -/
def Env.reset : Env :=
  { band := ⟨none, none⟩, cellProfile := none, selection := .none, selected := none, lastPayout := ⟨0, 0⟩,
    lastDoubt := ⟨true, true⟩ }

/-- A motion group record after any reset (R86). -/
def Group.reset : Group :=
  { state := .held, q := 0, neutralSeen := false, idle := 0, note := false, loss := 0, lastLever := none,
    lastRef := ⟨false, 0, 0, 0, .unresolved⟩, tightline := false }

def Mark.reset : Mark := ⟨false, false, none⟩

/-- The SWU record after any reset, with the Hr the POS hands at it (R109). -/
def Swu.reset (hr : Int) : Swu :=
  { heldHr := hr, heldDoubt := true, heldHeading := false, fifo := [], heldTorque := 0, computed := none, applied := none,
    capCw := none, capCcw := none, inside := [], marks := List.replicate 4 .reset }

/-- The sequencer record after any reset, with the cam angle handed at it and its sector (R129). -/
def Wsq.reset (cam : Int) (sector : Option Nat) : Wsq :=
  { state := .unsettled, command := .keep, transfer := 0, steps := 0, offPark := false, returnPending := false,
    dir := none, heldCam := cam, heldSector := sector, heldWalk := .unlocked, brake := false, selector := none,
    left := .unknown, right := .unknown, mismatch := 0, disagree := 0 }

/-- A condition record before any report (R149). -/
def Cond.reset : Cond := ⟨false, none, .quiet, false⟩

/-- The ALU before the owners' reports of a reset (R149). -/
def Alu.reset : Alu :=
  { conds := List.replicate 60 .reset, list := [], seq := 0, lastAck := none, severity := .all none }

/-- The part mode record after any reset (R179). -/
def Mgu.reset : Mgu :=
  { mode := .standby, tripStanding := false, lastLevers := .all none, lastReset := none, resetPending := false }

/-- The LPU in the bypass of a power-on or pin reset (R167, R176). The straps are read in that interval; until they are the
address is held as 0 (assumption 2), and nothing reads it in bypass. -/
def Lpu.reset (bypass : Bypass) : Lpu :=
  { ownAddress := 0, queue := [], discard := 0, lastCycle := 0, timer := .stopped, timerLength := 20,
    trafficSeen := false, bypass := bypass }

/-- A raised, listed condition. -/
def Cond.raisedNew (detail : Option Nat) : Cond := ⟨true, detail, .activeNew, false⟩

/-- The condition records after power-on: DOUBTFUL_H, _D, _S (13 to 15), UNRESOLVED_x with detail 0 (27 to 29), GROUP_DEAD_x
(33 to 35) and HEADING_UNCONFIRMED (47) stand raised (R32, R58, R61, R149). -/
def Alu.resetConds : List Cond :=
  List.replicate 13 .reset ++ List.replicate 3 (.raisedNew none) ++ List.replicate 11 .reset
    ++ List.replicate 3 (.raisedNew (some 0)) ++ List.replicate 3 .reset ++ List.replicate 3 (.raisedNew none)
    ++ List.replicate 11 .reset ++ [.raisedNew none] ++ List.replicate 12 .reset

/-- The alarm list after power-on, in the order the reports arrive: the POS's first here (assumption 4). -/
def Alu.resetList : List Entry :=
  [⟨13, 1, 0, 0⟩, ⟨14, 1, 1, 0⟩, ⟨15, 1, 2, 0⟩, ⟨47, 1, 3, 0⟩, ⟨27, 1, 4, 0⟩, ⟨28, 1, 5, 0⟩, ⟨29, 1, 6, 0⟩,
    ⟨33, 1, 7, 0⟩, ⟨34, 1, 8, 0⟩, ⟨35, 1, 9, 0⟩]

/-- The ALU after power-on: ten conditions listed, every group held by UNRESOLVED_x and GROUP_DEAD_x. -/
def Alu.powerOn : Alu :=
  { conds := Alu.resetConds, list := Alu.resetList, seq := 10, lastAck := none, severity := .all (some .stop) }

/-- The device right after power-on reset: in bypass until the reset completes (R176, R191), every item at its default,
every table EMPTY, every block at its power-on value, the reset's own conditions raised. -/
def State.reset : State :=
  { lpu := .reset .reset, mgu := .reset, items := .reset, tables := .reset,
    tru := Items.reset.channels.map Channel.reset,
    pos := .reset 0 0, dgu := .reset, env := .reset, groups := .all .reset, swu := .reset 0, wsq := .reset 0 none,
    alu := .powerOn, dguReportsFirst := false, pending := [] }

end Sys2Proof.Machine
end

