-- ==== Sys2Proof/Machine/Flags.lean ====
section
/-! DEFINITION. The conditions (the flags of this block) and the alarm unit that lists them: the condition list (R166), effective
severities and masks (R151, R152), listing, eviction and relisting (R154 to R157), owners' reports (R150), forcing (R161),
acknowledgement (R158, R159), group severities (R162) and the digest (R164). -/

namespace Sys2Proof.Machine

/-! ### The condition list (R166) -/

def Severity.code : Severity → Nat
  | .note => 0 | .warn => 1 | .limit => 2 | .stop => 3 | .trip => 4

/-- A severity code; one above 4 is taken as TRIP (R152). -/
def Severity.ofCode : Nat → Severity
  | 0 => .note | 1 => .warn | 2 => .limit | 3 => .stop | _ => .trip

def Listing.code : Listing → Nat
  | .quiet => 0 | .activeNew => 1 | .activeSeen => 2 | .goneNew => 3 | .unlisted => 4

/-- One row of the condition list: kind, default severity, floor, affected groups. -/
structure CondSpec where
  event : Bool
  default : Severity
  floor : Severity
  affects : List Axis
  deriving DecidableEq, Repr

/-- The groups a drive condition affects: its own, and for DRAG also WALK (R58, R61). -/
def withWalk : Drive → List Axis
  | .hoist => [.hoist] | .drag => [.drag, .walk] | .swing => [.swing]

/-- The groups a channel condition affects (R166): HOIST and DRAG each both drums. -/
def channelGroups : Axis → List Axis
  | .hoist | .drag => [.hoist, .drag] | .swing => [.swing] | .walk => [.walk]

/-- A level condition's row. -/
def level (dflt floor : Severity) (affects : List Axis) : CondSpec := ⟨false, dflt, floor, affects⟩

/-- The condition list, numbers 0 to 59 (R166). -/
def condTable : List CondSpec :=
  [level .trip .trip Axis.all, ⟨true, .note, .note, []⟩]
    ++ Axis.all.map (fun a => level .stop .stop [a])
    ++ [level .stop .stop Axis.all, level .trip .trip Axis.all, level .trip .trip Axis.all]
    ++ Axis.all.map (fun a => level .stop .stop (channelGroups a))
    ++ List.replicate 3 (level .warn .note [])
    ++ Axis.all.map (fun a => level .stop .warn (channelGroups a))
    ++ List.replicate 5 ⟨true, .note, .note, []⟩
    ++ List.replicate 2 (level .warn .note [])
    ++ Drive.all.map (fun d => level .stop .stop (withWalk d))
    ++ Drive.all.map (fun d => level .limit .note (withWalk d))
    ++ Drive.all.map (fun d => level .stop .stop (withWalk d))
    ++ List.replicate 3 (level .warn .note [])
    ++ Drive.all.map (fun d => level .stop .stop [d.axis])
    ++ List.replicate 4 (level .note .note [])
    ++ List.replicate 2 (level .warn .note [])
    ++ [⟨true, .note, .note, []⟩, ⟨true, .stop, .stop, [.drag, .walk]⟩, level .trip .trip Axis.all]
    ++ List.replicate 3 (level .stop .stop [.walk])
    ++ List.replicate 6 (level .warn .note Axis.all)

/-- The row of a condition number; numbers above 59 name no condition. -/
def condSpec (n : Nat) : CondSpec := condTable.getD n (level .note .note [])

/-! The condition numbers by name (R166). -/
def cLoopSilent : Nat := 0
def cBadFrame : Nat := 1
def cCmdLost (a : Axis) : Nat := 2 + a.code
def cDiscreteStale : Nat := 6
def cEstop : Nat := 7
def cBoomLimit : Nat := 8
def cTrackFault (a : Axis) : Nat := 9 + a.code
def cDoubtful (d : Drive) : Nat := 13 + d.code
def cOverspeed (a : Axis) : Nat := 16 + a.code
def cNoiseBurst (a : Axis) : Nat := 20 + a.code
def cLearnFail : Nat := 24
def cPayoutRange : Drum → Nat
  | .hoist => 25 | .drag => 26
def cUnresolved (d : Drive) : Nat := 27 + d.code
def cMemberLost (d : Drive) : Nat := 30 + d.code
def cGroupDead (d : Drive) : Nat := 33 + d.code
def cBrakeWorn (d : Drive) : Nat := 36 + d.code
def cBrakeFailed (d : Drive) : Nat := 39 + d.code
def cTightline : Nat := 42
def cHoistTopLimit : Nat := 43
def cDragInLimit : Nat := 44
def cSwingAtEdge : Nat := 45
def cInsideForbidden : Nat := 46
def cHeadingUnconfirmed : Nat := 47
def cWalkDenied : Nat := 48
def cTransferTimeout : Nat := 49
def cContactorConflict : Nat := 50
def cShoeMismatch : Nat := 51
def cShoeDisagree : Nat := 52
def cWalkInterlock : Nat := 53
def cExternal (k : Nat) : Nat := 54 + k

/-! ### Effective severity and mask (R151) -/

/-- What the ALU reads besides its own record: T10 and the last cycle number. -/
structure AluCtx where
  t10 : Table
  cycle : Nat
  deriving DecidableEq, Repr

/-- Whether a floor forbids masking (R151). -/
def floorHard (n : Nat) : Bool := decide (Severity.stop.code ≤ (condSpec n).floor.code)

/-- The severity a T10 word holds, bits 2–0 (chapter 12.6). -/
def wordSeverity (w : Word) : Severity := Severity.ofCode (w.toNat % 8)

/-- The mask a T10 word holds, bit 15. -/
def wordMask (w : Word) : Bool := w.getLsbD 15

/-- The effective severity: from T10 while it is LIVE, else the default; never below the floor (R151). -/
def effSeverity (t10 : Table) (n : Nat) : Severity :=
  match t10.state with
  | .live => Severity.ofCode (max (wordSeverity (t10.words.getD n 0)).code (condSpec n).floor.code)
  | _ => (condSpec n).default

/-- The effective mask: from T10 while it is LIVE, else clear; never set under a floor of STOP or TRIP (R151). -/
def effMask (t10 : Table) (n : Nat) : Bool :=
  match t10.state with
  | .live => wordMask (t10.words.getD n 0) && !floorHard n
  | _ => false

/-! ### The listing (R154 to R157) -/

def Alu.cond (a : Alu) (n : Nat) : Cond := a.conds.getD n .reset

def Alu.setCond (a : Alu) (n : Nat) (c : Cond) : Alu := { a with conds := a.conds.set n c }

def Alu.setListing (a : Alu) (n : Nat) (l : Listing) : Alu := a.setCond n { a.cond n with listing := l }

/-- The condition is appended at the end of the list as a new entry (R155). -/
def Alu.append (ctx : AluCtx) (n : Nat) (a : Alu) : Alu :=
  let a := a.setListing n .activeNew
  { a with list := a.list ++ [⟨n, 1, a.seq, ctx.cycle⟩], seq := (a.seq + 1) % 65536 }

def Alu.remove (n : Nat) (a : Alu) : Alu := { a with list := a.list.filter (fun e => e.cond != n) }

/-- Of two UNLISTED conditions the one to relist: higher effective severity, then lower number; `best` has the lower number
(R157). -/
def betterUnlisted (t10 : Table) (best : Option Nat) (n : Nat) : Option Nat :=
  match best with
  | none => some n
  | some b => if (effSeverity t10 b).code < (effSeverity t10 n).code then some n else some b

/-- The UNLISTED condition that a removal relists, if any stands (R157). -/
def Alu.nextUnlisted (t10 : Table) (a : Alu) : Option Nat :=
  ((List.range Config.conditionCount).filter (fun n => (a.cond n).listing == .unlisted)).foldl (betterUnlisted t10) none

/-- What follows each removal of an entry: one UNLISTED condition is relisted, in the place the removal left (R157); the list
never passes its capacity (R154). -/
def Alu.relist (ctx : AluCtx) (a : Alu) : Alu :=
  match a.nextUnlisted ctx.t10 with
  | some n => if a.list.length < Config.alarmCapacity then a.append ctx n else a
  | none => a

/-- The lowest effective severity among the entries, as a code (R156). -/
def Alu.lowest (t10 : Table) (a : Alu) : Nat :=
  (a.list.map (fun e => (effSeverity t10 e.cond).code)).foldl min 4

/-- A condition raised from QUIET into a full list competes for a place (R156). -/
def Alu.compete (ctx : AluCtx) (n : Nat) (a : Alu) : Alu :=
  let m := a.lowest ctx.t10
  if m < (effSeverity ctx.t10 n).code then
    match a.list.find? (fun e => (effSeverity ctx.t10 e.cond).code == m) with
    | some e =>
      let out := if (a.cond e.cond).raised then Listing.unlisted else .quiet
      ((a.remove e.cond).setListing e.cond out).append ctx n
    | none => a.setListing n .unlisted
  else a.setListing n .unlisted

/-- A raise into the listing (R154); the record's detail and forced flag have been taken already. -/
def Alu.raiseListing (ctx : AluCtx) (n : Nat) (a : Alu) : Alu :=
  match (a.cond n).listing with
  | .quiet => if a.list.length < Config.alarmCapacity then a.append ctx n else a.compete ctx n
  | .goneNew =>
    let a := a.setListing n .activeNew
    { a with list := a.list.map (fun e => if e.cond = n then { e with count := satInc 255 e.count } else e) }
  | .activeNew | .activeSeen | .unlisted => a

/-- A fall in the listing (R154). -/
def Alu.fallListing (ctx : AluCtx) (n : Nat) (a : Alu) : Alu :=
  match (a.cond n).listing with
  | .activeNew => a.setListing n .goneNew
  | .activeSeen => ((a.remove n).setListing n .quiet).relist ctx
  | .unlisted => a.setListing n .quiet
  | .quiet | .goneNew => a

/-- An acknowledgement of one condition's entry (R154, R159). -/
def Alu.acknowledge (ctx : AluCtx) (n : Nat) (a : Alu) : Alu :=
  match (a.cond n).listing with
  | .activeNew => a.setListing n .activeSeen
  | .goneNew => ((a.remove n).setListing n .quiet).relist ctx
  | .quiet | .activeSeen | .unlisted => a

/-- An acknowledgement of the given entries, in order (R158: every entry as the list stands when it is taken). -/
def Alu.acknowledgeAll (ctx : AluCtx) (ns : List Nat) (a : Alu) : Alu := ns.foldl (fun a n => a.acknowledge ctx n) a

/-! ### Reports (R150) -/

/-- What an owner reports of one condition. -/
inductive Report where
  /-- a level condition's raw state and detail -/
  | level (n : Nat) (raised : Bool) (detail : Option Nat)
  /-- an event condition's occasion -/
  | event (n : Nat) (detail : Option Nat)
  deriving DecidableEq, Repr

def Report.number : Report → Nat
  | .level n _ _ | .event n _ => n

/-- What the events of a report do to the motions (R162, R163): the groups stopped once, and a TRIP report. -/
structure Effect where
  stops : List Axis
  trip : Bool
  deriving DecidableEq, Repr

def Effect.none : Effect := ⟨[], false⟩

/-- The action of an unmasked event on its occasion (R162, R163). -/
def Effect.ofEvent (t10 : Table) (n : Nat) (e : Effect) : Effect :=
  let s := (effSeverity t10 n).code
  ⟨if Severity.stop.code ≤ s then e.stops ++ (condSpec n).affects else e.stops, e.trip || s == Severity.trip.code⟩

/-- One occasion of a condition raised as an event: listed, acted on once, and fallen (R150, R161). A masked event changes
only its detail. -/
def Alu.occasion (ctx : AluCtx) (n : Nat) (detail : Option Nat) (forced : Bool) (a : Alu) : Alu :=
  if effMask ctx.t10 n then a.setCond n { a.cond n with detail := detail }
  else ((a.setCond n { a.cond n with detail := detail, forced := forced }).raiseListing ctx n).fallListing ctx n

/-- A level condition is reported raised (R150). -/
def Alu.raiseLevel (ctx : AluCtx) (n : Nat) (detail : Option Nat) (a : Alu) : Alu :=
  let c := a.cond n
  if c.raised then a.setCond n { c with detail := detail }
  else
    let a := a.setCond n { c with raised := true, detail := detail, forced := false }
    if effMask ctx.t10 n then a else a.raiseListing ctx n

/-- A level condition is reported not raised (R150). -/
def Alu.fallLevel (ctx : AluCtx) (n : Nat) (a : Alu) : Alu :=
  let c := a.cond n
  if c.raised then (a.setCond n { c with raised := false }).fallListing ctx n else a

/-- One condition of a report. -/
def takeOne (ctx : AluCtx) (p : Alu × Effect) : Report → Alu × Effect
  | .level n true d => (p.1.raiseLevel ctx n d, p.2)
  | .level n false _ => (p.1.fallLevel ctx n, p.2)
  | .event n d =>
    (p.1.occasion ctx n d false, if effMask ctx.t10 n then p.2 else p.2.ofEvent ctx.t10 n)

/-- Insertion by condition number, after those of the same number. -/
def insertReport (r : Report) : List Report → List Report
  | [] => [r]
  | x :: xs => if r.number < x.number then r :: x :: xs else x :: insertReport r xs

/-- "A report that carries several conditions is taken in ascending condition number" (R150). -/
def sortReports (rs : List Report) : List Report := rs.foldl (fun acc r => insertReport r acc) []

/-- A whole report (R150). -/
def Alu.take (ctx : AluCtx) (rs : List Report) (a : Alu) : Alu × Effect :=
  (sortReports rs).foldl (takeOne ctx) (a, Effect.none)

/-! ### Group severities and TRIP (R162, R163) -/

/-- A level condition that is active and not masked. -/
def Alu.standing (t10 : Table) (a : Alu) (n : Nat) : Bool :=
  !(condSpec n).event && (a.cond n).raised && !effMask t10 n

def higher (s : Option Severity) (t : Severity) : Option Severity :=
  match s with
  | none => some t
  | some u => if u.code < t.code then some t else some u

/-- The highest effective severity over the standing level conditions that affect a group; none is NONE (R162). -/
def Alu.groupSeverity (t10 : Table) (a : Alu) (g : Axis) : Option Severity :=
  ((List.range Config.conditionCount).filter (fun n => a.standing t10 n && (condSpec n).affects.contains g)).foldl
    (fun s n => higher s (effSeverity t10 n)) none

def Alu.groupSeverities (t10 : Table) (a : Alu) : PerAxis (Option Severity) :=
  ⟨a.groupSeverity t10 .hoist, a.groupSeverity t10 .drag, a.groupSeverity t10 .swing, a.groupSeverity t10 .walk⟩

/-- Whether a level condition of effective severity TRIP stands active and unmasked (R163). -/
def Alu.tripStanding (t10 : Table) (a : Alu) : Bool :=
  (List.range Config.conditionCount).any (fun n => a.standing t10 n && effSeverity t10 n == .trip)

/-- Whether a group severity is STOP or TRIP (R162). -/
def stops : Option Severity → Bool
  | some .stop | some .trip => true
  | _ => false

/-- The raw state of a condition as its owner last reported it. -/
def Alu.raised (a : Alu) (n : Nat) : Bool := (a.cond n).raised

/-! ### A change of T10 (R153) -/

/-- Steps 1 to 4 of a change of T10 from `old` to `new`. -/
def Alu.retable (old new : Table) (cycle : Nat) (a : Alu) : Alu :=
  let ctx : AluCtx := ⟨new, cycle⟩
  let all := List.range Config.conditionCount
  let masked := all.filter (fun n => !effMask old n && effMask new n)
  let removed := a.list.filter (fun e => masked.contains e.cond)
  let a := masked.foldl (fun a n => (a.remove n).setListing n .quiet) a
  let a := removed.foldl (fun a _ => a.relist ctx) a
  let unmasked := all.filter (fun n => effMask old n && !effMask new n && !(condSpec n).event && (a.cond n).raised)
  unmasked.foldl (fun a n => a.raiseListing ctx n) a

/-! ### The digest (R164) -/

def Alu.isNew (a : Alu) (e : Entry) : Bool :=
  (a.cond e.cond).listing == .activeNew || (a.cond e.cond).listing == .goneNew

/-- The oldest entry of the highest severity. -/
def topOf (t10 : Table) (es : List Entry) : Option Entry :=
  es.foldl (fun best e =>
    match best with
    | none => some e
    | some b => if (effSeverity t10 b.cond).code < (effSeverity t10 e.cond).code then some e else some b) none

/-- The top entry: among the new entries if there are any, else over the whole list (R164). -/
def Alu.top (t10 : Table) (a : Alu) : Option Entry :=
  match a.list.filter a.isNew with
  | [] => topOf t10 a.list
  | new => topOf t10 new

def Alu.newCount (a : Alu) : Nat := (a.list.filter a.isNew).length

def Alu.unlistedCount (a : Alu) : Nat :=
  ((List.range Config.conditionCount).filter (fun n => (a.cond n).listing == .unlisted)).length

def Alu.countOf (t10 : Table) (s : Severity) (a : Alu) : Nat :=
  (a.list.filter (fun e => effSeverity t10 e.cond == s)).length

end Sys2Proof.Machine
end

