-- ==== Sys2Proof/Machine/Ops.lean ====
section
/-! DEFINITION. The named operations over the state that every family uses: the blocks' updates, tables and profile reads, the
transmit queue (R173), the arrival of a good frame (R169, R175), stopping and cutting groups (R93, R95), and what a report to
the ALU does to the shapers and the part mode (R150, R162, R163). -/

namespace Sys2Proof.Machine

/-! ### Updates, one for each block -/

def State.withLpu (s : State) (x : Lpu) : State := { s with lpu := x }
def State.withMgu (s : State) (x : Mgu) : State := { s with mgu := x }
def State.withItems (s : State) (x : Items) : State := { s with items := x }
def State.withTables (s : State) (x : Tables) : State := { s with tables := x }
def State.withTru (s : State) (x : PerAxis Channel) : State := { s with tru := x }
def State.withPos (s : State) (x : Pos) : State := { s with pos := x }
def State.withDgu (s : State) (x : Dgu) : State := { s with dgu := x }
def State.withEnv (s : State) (x : Env) : State := { s with env := x }
def State.withGroups (s : State) (x : PerAxis Group) : State := { s with groups := x }
def State.withSwu (s : State) (x : Swu) : State := { s with swu := x }
def State.withWsq (s : State) (x : Wsq) : State := { s with wsq := x }
def State.withAlu (s : State) (x : Alu) : State := { s with alu := x }

/-- The record of a motion group. -/
def State.group (s : State) (g : Axis) : Group := s.groups.get g

def State.setGroup (s : State) (g : Axis) (r : Group) : State := s.withGroups (s.groups.set g r)

/-- The record of a tracking channel. -/
def State.chan (s : State) (a : Axis) : Channel := s.tru.get a

def State.setChan (s : State) (a : Axis) (c : Channel) : State := s.withTru (s.tru.set a c)

/-! ### Tables -/

/-- The eleven tables by number (chapter 10.3). -/
inductive TableId where
  | t0 | t1 | t2 | t3 | t4 | t5 | t6 | t7 | t8 | t9 | t10
  deriving DecidableEq, Repr

def TableId.all : List TableId := [.t0, .t1, .t2, .t3, .t4, .t5, .t6, .t7, .t8, .t9, .t10]

/-- The table a request names; numbers above 10 name none (R187). -/
def TableId.ofCode (n : Nat) : Option TableId := TableId.all[n]?

def TableId.code : TableId → Nat
  | .t0 => 0 | .t1 => 1 | .t2 => 2 | .t3 => 3 | .t4 => 4 | .t5 => 5 | .t6 => 6 | .t7 => 7 | .t8 => 8 | .t9 => 9
  | .t10 => 10

def Tables.get (t : Tables) : TableId → Table
  | .t0 => t.t0 | .t1 => t.t1 | .t2 => t.t2 | .t3 => t.t3 | .t4 => t.t4 | .t5 => t.t5 | .t6 => t.t6 | .t7 => t.t7
  | .t8 => t.t8 | .t9 => t.t9 | .t10 => t.t10

def Tables.set (t : Tables) (i : TableId) (x : Table) : Tables :=
  match i with
  | .t0 => { t with t0 := x }
  | .t1 => { t with t1 := x }
  | .t2 => { t with t2 := x }
  | .t3 => { t with t3 := x }
  | .t4 => { t with t4 := x }
  | .t5 => { t with t5 := x }
  | .t6 => { t with t6 := x }
  | .t7 => { t with t7 := x }
  | .t8 => { t with t8 := x }
  | .t9 => { t with t9 := x }
  | .t10 => { t with t10 := x }

def State.table (s : State) (i : TableId) : Table := s.tables.get i

def State.setTable (s : State) (i : TableId) (x : Table) : State := s.withTables (s.tables.set i x)

/-- A table word as a number; an index outside the capacity reads 0, and no block reads one. -/
def Table.num (t : Table) (i : Nat) : Nat := (t.words.getD i 0#16).toNat

/-- A table word as an unsigned quantity. -/
def Table.int (t : Table) (i : Nat) : Int := (t.num i : Int)

def Table.isLive (t : Table) : Bool := t.state == .live

/-- The curve table of a motion group: T2 to T5 (R96). -/
def curveTable : Axis → TableId
  | .hoist => .t2 | .drag => .t3 | .swing => .t4 | .walk => .t5

/-! ### The selected profile (R83, R84) -/

/-- The fields of a profile record, in the order of R71. -/
inductive ProfileField where
  | cls | hoistUp | hoistDown | hoistMotoring | hoistRegen | dragIn | dragOut | dragMotoring | dragRegen
  | swingCap | swingTorque | tightline | flags
  deriving DecidableEq, Repr

def ProfileField.index : ProfileField → Nat
  | .cls => 0 | .hoistUp => 1 | .hoistDown => 2 | .hoistMotoring => 3 | .hoistRegen => 4 | .dragIn => 5 | .dragOut => 6
  | .dragMotoring => 7 | .dragRegen => 8 | .swingCap => 9 | .swingTorque => 10 | .tightline => 11 | .flags => 12

/-- A field of the selected profile; while the profile is NONE every cap and limit is 0, the tightline limit absent (0) and
walk not permitted (R84). -/
def State.profile (s : State) (f : ProfileField) : Int :=
  match s.env.selected with
  | some r => s.tables.t1.int (1 + 13 * r + f.index)
  | none => 0

/-! ### The transmit queue (R173) -/

def discardOne (l : Lpu) : Lpu := { l with discard := satInc 65535 l.discard }

/-- A forwarded frame, or the REFERENCE frame written in place of a COMMAND frame, is offered to the queue. -/
def offerForwarded (bs : Bytes) (s : State) : State :=
  if s.lpu.queue.length < Config.queueCapacity then s.withLpu { s.lpu with queue := s.lpu.queue ++ [bs] }
  else s.withLpu (discardOne s.lpu)

/-- Whether an inserted frame may enter. -/
def insertedEnters (s : State) : Bool := decide (s.lpu.queue.length < Config.insertedThreshold)

/-- An inserted frame (STATE or MGMT_RESPONSE) is offered to the queue. -/
def offerInserted (bs : Bytes) (s : State) : State :=
  if insertedEnters s then s.withLpu { s.lpu with queue := s.lpu.queue ++ [bs] }
  else s.withLpu (discardOne s.lpu)

/-- The own address as a source byte. -/
def State.ownByte (s : State) : Byte := BitVec.ofNat 8 s.lpu.ownAddress

/-- The silence timer starts with the length the item has now (R175). -/
def startTimer (s : State) : State :=
  s.withLpu { s.lpu with timer := .running, timerLength := s.items.silenceTime }

/-- Every good frame restarts the silence timer and sets the traffic-seen flag (R169, R175). -/
def goodFrameSeen (s : State) : State :=
  let s := startTimer s
  s.withLpu { s.lpu with trafficSeen := true }

/-- Frames are taken only outside bypass; in bypass port A is relayed straight to port B (R176, R177). -/
def State.inLoop (s : State) : Bool := s.lpu.bypass == .off

/-! ### Motion group transitions -/

/-- An ACTIVE group enters STOPPING; Q keeps its value (R93). -/
def Group.stop (r : Group) : Group :=
  match r.state with
  | .active => { r with state := .stopping, idle := 0 }
  | _ => r

/-- Entry into HELD (R90, R92, R94). -/
def Group.hold (r : Group) : Group := { r with state := .held, q := 0, idle := 0, neutralSeen := false }

/-- Entry into CUT, from any state (R95). -/
def Group.cutOff (r : Group) : Group := { r with state := .cut, q := 0, idle := 0, neutralSeen := false }

def State.stopGroup (s : State) (g : Axis) : State := s.setGroup g (s.group g).stop

def State.stopGroups (s : State) (gs : List Axis) : State := gs.foldl State.stopGroup s

/-- The part enters HALTED, and every group CUT; a report in HALTED leaves the part there (R95, R182). -/
def haltPart (s : State) : State :=
  match s.mgu.mode with
  | .halted => s
  | _ => (s.withMgu { s.mgu with mode := .halted }).withGroups (s.groups.map Group.cutOff)

/-! ### Reports to the ALU and their actions on shapers and part mode -/

def State.aluCtx (s : State) : AluCtx := ⟨s.tables.t10, s.lpu.lastCycle⟩

/-- The group severities are recomputed and handed to the shapers, the TRIP standing flag to the MGU (R162, R163). -/
def handSeverities (s : State) : State :=
  let sev := s.alu.groupSeverities s.tables.t10
  let s := s.withAlu { s.alu with severity := sev }
  let s := s.withMgu { s.mgu with tripStanding := s.alu.tripStanding s.tables.t10 }
  s.stopGroups (Axis.all.filter (fun g => stops (sev.get g)))

/-- The actions of a changed ALU: severities, one-time stops, and HALTED on a TRIP (R162, R163). A standing TRIP keeps the
part in HALTED, so it is reported again without effect. -/
def aluAct (e : Effect) (s : State) : State :=
  let s := (handSeverities s).stopGroups e.stops
  if e.trip || s.mgu.tripStanding then haltPart s else s

/-- One owner's report, and its actions on the shapers and the part mode. -/
def aluTake (rs : List Report) (s : State) : State :=
  let p := s.alu.take s.aluCtx rs
  aluAct p.2 (s.withAlu p.1)

end Sys2Proof.Machine
end

