-- ==== Sys2Proof/Machine/Sequencer.lean ====
section
/-! DEFINITION. The walk sequencer's own transitions (chapter 7): sectors and parking, the transfer and the return, settling, its
reactions to the groups and the contactor summary, and `report`, which takes an owner's report through the ALU and lets the
sequencer react to what it did to the groups. -/

namespace Sys2Proof.Machine

def SeqState.code : SeqState → Nat
  | .unsettled => 0 | .digging => 1 | .openingDrag => 2 | .closingWalk => 3 | .walkReady => 4 | .stepping => 5
  | .finishing => 6 | .openingWalk => 7 | .closingDrag => 8 | .transferFault => 9

/-- What a step of the sequencer leaves: the state, and the reports it makes to the ALU. -/
abbrev Move := State × List Report

/-! ### The cam table (R132, R133) -/

def sectorStart (t8 : Table) (k : Nat) : Int := t8.int (1 + 4 * k)
def sectorCap (t8 : Table) (k : Nat) : Int := t8.int (2 + 4 * k)
def sectorExpects (t8 : Table) (k : Nat) : Nat := t8.num (3 + 4 * k)
def sectorPark (t8 : Table) (k : Nat) : Bool := t8.num (4 + 4 * k) == 1

/-- The existing sector of the LIVE T8 that covers a cam angle; absent while T8 is not LIVE (R132, R133). -/
def sectorOf (t8 : Table) (c : Int) : Option Nat :=
  if t8.isLive then ((List.range (t8.num 0)).filter (fun k => decide (sectorStart t8 k ≤ c))).getLast? else none

/-- Whether T8 is LIVE and a sector is its park sector. -/
def isPark (t8 : Table) (sector : Option Nat) : Bool :=
  t8.isLive && (match sector with
    | some k => sectorPark t8 k
    | none => false)

/-- Whether T8 is LIVE and the held cam sector is the park sector. -/
def State.inPark (s : State) : Bool := isPark s.tables.t8 s.wsq.heldSector

/-! ### Entries into the sequencer's states -/

/-- The forcing handed to HOIST, DRAG and SWING: an ACTIVE group enters STOPPING (R146). -/
def force (s : State) : State := s.stopGroups [.hoist, .drag, .swing]

def clearNeutral (s : State) (g : Axis) : State := s.setGroup g { s.group g with neutralSeen := false }

/-- Entry into DIGGING from a forcing state: the forcing ends, and with it the neutral-seen flags (R146, R147). -/
def enterDigging (s : State) : State :=
  let s := s.withWsq { s.wsq with state := .digging, command := .drag, transfer := 0 }
  [Axis.hoist, .drag, .swing].foldl clearNeutral s

/-- Entry into CLOSING_DRAG, which tests the summary at once (R147); the transfer count as it stands. -/
def enterClosingDrag (s : State) : State :=
  let s := force (s.withWsq { s.wsq with state := .closingDrag, command := .drag })
  if s.dgu.summary = .drag then enterDigging s else s

/-- CLOSING_DRAG entered at the start of the return direction: count 0 (R137). -/
def startClosingDrag (s : State) : State := enterClosingDrag (s.withWsq { s.wsq with transfer := 0 })

/-- Entry into OPENING_WALK with count 0, which tests the summary at once (R137, R147). -/
def enterOpeningWalk (s : State) : State :=
  let s := force (s.withWsq { s.wsq with state := .openingWalk, command := .none, transfer := 0 })
  if s.dgu.summary = .none then enterClosingDrag s else s

/-- The reports of an entry into WALK_READY: both shoe conditions fall (R145). -/
def shoesFall : List Report := [.level cShoeMismatch false none, .level cShoeDisagree false none]

/-- Entry into WALK_READY: the off-park flag tells whether the cam stands outside the park sector, both shoe counts become 0
(R134, R136, R144, R145; assumption 11). -/
def enterWalkReady (s : State) : Move :=
  let w := { s.wsq with state := .walkReady, command := .walk, transfer := 0, offPark := !s.inPark }
  (force (s.withWsq { w with dir := none, mismatch := 0, disagree := 0 }), shoesFall)

/-- Entry into WALK_READY from CLOSING_WALK also clears the WALK group's neutral-seen flag (R136). -/
def readyFromClosing (s : State) : Move :=
  let m := enterWalkReady s
  (clearNeutral m.1 .walk, m.2)

/-- Entry into CLOSING_WALK, which tests the summary at once (R136). -/
def enterClosingWalk (s : State) : Move :=
  let s := force (s.withWsq { s.wsq with state := .closingWalk, command := .walk })
  if s.dgu.summary = .walk then readyFromClosing s else (s, [])

/-- The return begins: the step count is reported to the POS, which clears the heading confirmed flag for a count other than 0
(R50, R147). -/
def beginReturn (s : State) : Move :=
  let moved : Bool := s.wsq.steps != 0
  let s := s.withWsq { s.wsq with returnPending := false }
  let s := if moved then
      (s.withPos { s.pos with headingConfirmed := false }).withSwu { s.swu with heldHeading := false }
    else s
  (enterOpeningWalk s, if moved then [.level cHeadingUnconfirmed true none] else [])

/-- In OPENING_DRAG the command becomes NONE once DRAG is HELD or CUT, and the summary is tested (R136). -/
def openDrag (s : State) : Move :=
  let s := s.withWsq { s.wsq with command := .none }
  if s.dgu.summary = .none then enterClosingWalk s else (s, [])

/-- Whether a group is HELD or CUT. -/
def Group.atRest (r : Group) : Bool := r.state == .held || r.state == .cut

/-- A walk ends off park: the sequencer left STEPPING or FINISHING other than by parking (R144). Where the return begins with it, the
POS's HEADING_UNCONFIRMED and the WSQ's falls of the shoe conditions make one list in ascending number: the model's choice
(assumption 29). -/
def endOffPark (s : State) : Move :=
  let pending := s.wsq.returnPending
  let m := enterWalkReady s
  if pending then
    if m.1.wsq.offPark then
      (m.1.withWsq { m.1.wsq with returnPending := false }, m.2 ++ [.event cWalkDenied (some 9)])
    else
      let m' := beginReturn m.1
      (m'.1, m.2 ++ m'.2)
  else m

/-- What the sequencer does when the group states have been handed to it (R108, R136, R144). -/
def reactToGroups (s : State) : Move :=
  match s.wsq.state with
  | .openingDrag => if s.wsq.command = .drag ∧ (s.group .drag).atRest then openDrag s else (s, [])
  | .stepping | .finishing => if (s.group .walk).atRest then endOffPark s else (s, [])
  | _ => (s, [])

/-! ### Reports -/

/-- An owner's report, with all that follows from it. The sequencer may react to a group the report cut; its own reports then
go through the ALU too. After such a reaction it stands in WALK_READY, CLOSING_WALK or a state of the return, where a further
CUT moves nothing (assumption 15). -/
def report (rs : List Report) (s : State) : State :=
  let m := reactToGroups (aluTake rs s)
  match m.2 with
  | [] => m.1
  | rs' => aluTake rs' m.1

/-- A step of the sequencer with the reports it makes. -/
def settleMove (m : Move) : State := report m.2 m.1

/-! ### The contactor summary (R134, R136, R147) -/

/-- In UNSETTLED the summary settles the sequencer (R134). -/
def settle (s : State) : Move :=
  match s.dgu.summary with
  | .drag => (s.withWsq { s.wsq with state := .digging, command := .drag }, [])
  | .walk => enterWalkReady s
  | .none => (startClosingDrag s, [])
  | .conflict | .incomplete | .mixed => (s, [])

/-- A hand-off of the contactor feedback summary. -/
def reactToSummary (s : State) : Move :=
  match s.wsq.state with
  | .unsettled => settle s
  | .openingDrag => if s.wsq.command = .none ∧ s.dgu.summary = .none then enterClosingWalk s else (s, [])
  | .closingWalk => if s.dgu.summary = .walk then readyFromClosing s else (s, [])
  | .openingWalk => if s.dgu.summary = .none then (enterClosingDrag s, []) else (s, [])
  | .closingDrag => if s.dgu.summary = .drag then (enterDigging s, []) else (s, [])
  | .digging | .walkReady | .stepping | .finishing | .transferFault => (s, [])

/-! ### Parking and the step count (R142, R143) -/

/-- The WALK group enters HELD at parking, from ACTIVE or STOPPING (R142). -/
def holdWalk (s : State) : State :=
  match (s.group .walk).state with
  | .active | .stopping => s.setGroup .walk (s.group .walk).hold
  | .held | .cut => s

/-- Parking: the WALK group HELD at once, the sequencer in WALK_READY with the off-park flag clear, and the return if it is
pending (R142). The return's HEADING_UNCONFIRMED and the falls of the shoe conditions make one list in ascending number: the
model's choice (assumption 29). -/
def park (s : State) : Move :=
  let pending := s.wsq.returnPending
  let m := enterWalkReady (holdWalk s)
  let s1 := m.1.withWsq { m.1.wsq with offPark := false, returnPending := false }
  if pending then
    let m' := beginReturn s1
    (m'.1, m.2 ++ m'.2)
  else (s1, m.2)

/-- One park entry counted, forward or back, saturating (R143). -/
def countEntry (old new steps : Int) : Int :=
  let d := (new - old) % 360
  if 1 ≤ d ∧ d ≤ 180 then min 32767 (steps + 1) else max (-32768) (steps - 1)

/-- A hand-off of C with the WALK channel's state (R133, R142, R143). -/
def takeCam (c : Int) (chan : ChanState) (s : State) : Move :=
  let w := s.wsq
  let sector := sectorOf s.tables.t8 c
  let acquired : Bool := chan == .acquire && (w.heldWalk == .unlocked || w.heldWalk == .fault)
  let entry : Bool := !acquired && w.heldSector.isSome && !isPark s.tables.t8 w.heldSector && isPark s.tables.t8 sector
  let counted : Bool := entry && (w.state == .stepping || w.state == .finishing)
  let steps := if counted then countEntry w.heldCam c w.steps else w.steps
  let s := s.withWsq { w with heldCam := c, heldSector := sector, heldWalk := chan, steps := steps }
  if entry ∧ w.state = .finishing then park s else (s, [])

/-- T8 became LIVE or left LIVE: the sector is evaluated afresh, and in WALK_READY the off-park flag may be set (R133). -/
def camTableChanged (s : State) : State :=
  let s := s.withWsq { s.wsq with heldSector := sectorOf s.tables.t8 s.wsq.heldCam }
  if s.wsq.state = .walkReady ∧ !s.inPark then s.withWsq { s.wsq with offPark := true } else s

/-! ### The selector (R131, R135, R138) -/

/-- The number of the first failing check of a walk request (R135). -/
def walkCheck (s : State) : Option Nat :=
  if s.mgu.mode ≠ .run then some 1
  else if s.profile .flags % 2 = 0 then some 2
  else if (s.group .hoist).state ≠ .held then some 3
  else if (s.group .swing).state ≠ .held then some 4
  else if !s.wsq.brake then some 5
  else if (s.group .drag).lastLever ≠ some 0 then some 6
  else if (s.group .walk).lastLever ≠ some 0 then some 7
  else if s.dgu.members.drag.isEmpty || s.dgu.members.drag.any (fun m => m.presence == .absent) then some 8
  else none

/-- A WALK edge in DIGGING (R135). -/
def walkRequest (s : State) : Move :=
  match walkCheck s with
  | some n => (s, [.event cWalkDenied (some n)])
  | none =>
    let w := { s.wsq with state := .openingDrag, command := .drag, transfer := 0, steps := 0 }
    let s := force (s.withWsq { w with returnPending := false, dir := none })
    if (s.group .drag).atRest then openDrag s else (s, [])

/-- A DIG edge (R138). -/
def digEdge (s : State) : Move :=
  match s.wsq.state with
  | .unsettled | .digging | .openingWalk | .closingDrag => (s, [])
  | .openingDrag => (startClosingDrag s, [])
  | .closingWalk | .transferFault => (enterOpeningWalk s, [])
  | .walkReady => if s.wsq.offPark then (s, [.event cWalkDenied (some 9)]) else beginReturn s
  | .stepping | .finishing => (s.withWsq { s.wsq with returnPending := true }, [])

/-- A WALK edge (R131). -/
def walkEdge (s : State) : Move :=
  match s.wsq.state with
  | .digging => walkRequest s
  | .stepping | .finishing => (s.withWsq { s.wsq with returnPending := false }, [])
  | _ => (s, [])

/-- The mode selector of a CAB frame (R131). -/
def takeSelector (sel : Selector) (s : State) : Move :=
  let old := s.wsq.selector
  let s := s.withWsq { s.wsq with selector := some sel }
  match old, sel with
  | some .dig, .walk => walkEdge s
  | some .walk, .dig => digEdge s
  | _, _ => (s, [])

/-! ### Machine inputs (R145, R146) -/

/-- A shoe decoded from its two seat inputs (R145). -/
def shoeOf (a b : Bool) : Shoe :=
  if a && b then .seated else if a || b then .partly else .lifted

/-- The DGU hands the swing brake-set input and the four shoe inputs (R65, R145, R146). -/
def takeInputs (inputs : BitVec 32) (s : State) : Move :=
  let brake := inputs.getLsbD 5
  let left := shoeOf (inputs.getLsbD 12) (inputs.getLsbD 13)
  let right := shoeOf (inputs.getLsbD 14) (inputs.getLsbD 15)
  let s := s.withWsq { s.wsq with brake := brake, left := left, right := right }
  if brake then (s, [.level cWalkInterlock false none])
  else if s.wsq.state = .stepping ∨ s.wsq.state = .finishing then
    (s.stopGroup .walk, [.level cWalkInterlock true none])
  else (s, [])

/-! ### The CYCLE marker (R137, R145) -/

def transferring : SeqState → Bool
  | .openingDrag | .closingWalk | .openingWalk | .closingDrag => true
  | _ => false

/-- Whether a marker brings the transfer count to TRANSFER_LIMIT (R137). -/
def transferDue (s : State) : Bool :=
  transferring s.wsq.state && decide (s.items.transferLimit ≤ satInc 255 s.wsq.transfer)

/-- The transfer count of a marker, and what happens at the limit (R137). -/
def transferMarker (s : State) : Move :=
  if transferring s.wsq.state then
    if transferDue s then
      let rs : List Report := [.event cTransferTimeout (some s.wsq.state.code)]
      let s := s.withWsq { s.wsq with transfer := 0 }
      match s.wsq.state with
      | .openingDrag => (startClosingDrag s, rs)
      | .closingWalk => (enterOpeningWalk s, rs)
      | _ => (force (s.withWsq { s.wsq with state := .transferFault, command := .none }), rs)
    else (s.withWsq { s.wsq with transfer := satInc 255 s.wsq.transfer }, [])
  else (s, [])

/-- Whether a shoe shows what a sector expects: 0 LIFTED, 1 SEATED, 2 ANY (R145, chapter 12.6). -/
def shoeMatches (expected : Nat) (x : Shoe) : Bool :=
  match expected, x with
  | 0, .lifted => true
  | 0, _ => false
  | 1, .seated => true
  | 1, _ => false
  | _, _ => true

/-- The expected shoes of the held cam sector; ANY while it is absent. -/
def State.expected (s : State) : Nat :=
  match s.wsq.heldSector with
  | some k => sectorExpects s.tables.t8 k
  | none => 2

def Shoe.code : Shoe → Nat
  | .seated => 0 | .partly => 1 | .lifted => 2 | .unknown => 3

def walking : SeqState → Bool
  | .stepping | .finishing => true
  | _ => false

def shoesMatch (s : State) : Bool := shoeMatches s.expected s.wsq.left && shoeMatches s.expected s.wsq.right

/-- The mismatch count a marker leaves while walking (R145). -/
def mismatchNext (s : State) : Nat := if shoesMatch s then 0 else satInc 255 s.wsq.mismatch

/-- The disagree count a marker leaves while walking (R145). -/
def disagreeNext (s : State) : Nat := if s.wsq.left = s.wsq.right then 0 else satInc 255 s.wsq.disagree

/-- Whether a marker that leaves the mismatch count `mm` reports SHOE_MISMATCH raised: at or above SHOE_LIMIT, and, to update its
detail, while it stays raised with the count not 0 (R145). -/
def mismatchReported (mm : Nat) (s : State) : Bool :=
  decide (s.items.shoeLimit ≤ mm) || (mm != 0 && s.alu.raised cShoeMismatch)

/-- Shoe supervision at a marker (R145). A raised SHOE_DISAGREE keeps its detail where the limit has been written above the count
(assumption 32). -/
def shoeMarker (s : State) : Move :=
  if walking s.wsq.state then
    let mm := mismatchNext s
    let dd := disagreeNext s
    let sector := s.wsq.heldSector.getD 255
    let r1 : List Report :=
      if mismatchReported mm s then [.level cShoeMismatch true (some sector)]
      else if mm = 0 then [.level cShoeMismatch false none] else []
    let r2 : List Report :=
      if s.items.shoeLimit ≤ dd then [.level cShoeDisagree true (some (4 * s.wsq.left.code + s.wsq.right.code))]
      else if dd = 0 then [.level cShoeDisagree false none] else []
    (s.withWsq { s.wsq with mismatch := mm, disagree := dd }, r1 ++ r2)
  else (s, [])

/-- The sequencer's marker work (R171). -/
def seqMarker (s : State) : State :=
  let m1 := transferMarker s
  let m2 := shoeMarker m1.1
  settleMove (m2.1, m1.2 ++ m2.2)

/-! ### The step grant (R139) -/

/-- Whether the sequencer grants a step. -/
def grantsStep (s : State) : Bool :=
  s.wsq.state == .walkReady && (s.group .hoist).state == .held && (s.group .swing).state == .held && s.wsq.brake
    && s.tables.t8.isLive

def dirOf (lever : Int) : StepDir := if lever > 0 then .forward else .back

/-- The sequencer enters STEPPING with a granted step (R139). -/
def beginStep (lever : Int) (s : State) : State :=
  s.withWsq { s.wsq with state := .stepping, dir := some (dirOf lever), mismatch := 0, disagree := 0 }

end Sys2Proof.Machine
end

