-- ==== Sys2Proof/Machine/Envelope.lean ====
section
/-! DEFINITION. The envelope unit (chapter 4): bands with hysteresis, the cell and the selected profile, and what becomes of them
when T0 enters or leaves LIVE. -/

namespace Sys2Proof.Machine

/-- The word of a drum's breakpoint count in T0 (chapter 12.6). -/
def breakBase : Drum → Nat
  | .hoist => 0 | .drag => 16

/-- The used breakpoints of a drum, in order (R70). -/
def breakpoints (t0 : Table) (d : Drum) : List Int :=
  (List.range (t0.num (breakBase d))).map (fun i => t0.int (breakBase d + 1 + i))

/-- The band of a fresh evaluation: the number of used breakpoints at or below the payout (R76). -/
def freshBand (t0 : Table) (d : Drum) (p : Int) : Nat :=
  ((breakpoints t0 d).filter (fun b => decide (b ≤ p))).length

/-- The band after a payout hand-off, with hysteresis on the lowest breakpoint passed downward (R77). -/
def nextBand (t0 : Table) (d : Drum) (hysteresis p : Int) (held : Nat) : Nat :=
  let b0 := freshBand t0 d p
  if held ≤ b0 then b0
  else if p < (breakpoints t0 d).getD b0 0 - hysteresis then b0
  else b0 + 1

/-- The profile number of a cell (R79). -/
def cellOf (t0 : Table) (hoist drag : Nat) : Nat := t0.num (32 + hoist * 16 + drag)

/-- The doubtful profile number (R70). -/
def doubtfulProfile (t0 : Table) : Nat := t0.num 288

/-- The cell is looked up and the profile selected, from the bands and doubt flags held (R79, R80). -/
def selectProfile (t0 : Table) (e : Env) : Env :=
  match e.band.hoist, e.band.drag with
  | some h, some d =>
    let cell := cellOf t0 h d
    if e.lastDoubt.hoist || e.lastDoubt.drag then
      { e with cellProfile := some cell, selection := .doubtful, selected := some (doubtfulProfile t0) }
    else { e with cellProfile := some cell, selection := .cell, selected := some cell }
  | _, _ => e

/-- A fresh evaluation of both bands, the cell and the profile (R76). -/
def freshEvaluation (t0 : Table) (e : Env) : Env :=
  let h := freshBand t0 .hoist e.lastPayout.hoist
  let d := freshBand t0 .drag e.lastPayout.drag
  selectProfile t0 { e with band := ⟨some h, some d⟩ }

/-- While T0 is not LIVE the bands and the cell are absent and the profile is NONE (R84). -/
def dropEnvelope (e : Env) : Env :=
  { e with band := ⟨none, none⟩, cellProfile := none, selection := .none, selected := none }

/-- A payout with its drum's doubt flag, taken together (R77, R80, R84). -/
def takePayout (t0 : Table) (hysteresis : Int) (d : Drum) (p : Int) (doubt : Bool) (e : Env) : Env :=
  let e := { e with lastPayout := e.lastPayout.set d p, lastDoubt := e.lastDoubt.set d doubt }
  if t0.isLive then
    match e.band.get d with
    | some b => selectProfile t0 { e with band := e.band.set d (some (nextBand t0 d hysteresis p b)) }
    | none => freshEvaluation t0 e
  else e

/-- T0 became LIVE: a fresh evaluation (R76). -/
def envelopeLive (s : State) : State := s.withEnv (freshEvaluation s.tables.t0 s.env)

/-- T0 left LIVE: the envelope is dropped, and the applied swing torque limit becomes absent with the profile (R84, R126). -/
def envelopeDropped (s : State) : State := (s.withEnv (dropEnvelope s.env)).withSwu { s.swu with applied := none }

end Sys2Proof.Machine
end

