-- ==== Sys2Proof/Machine/Swing.lean ====
section
/-! DEFINITION. The swing unit (chapter 6): windows and their caps, crossing marks, the load FIFO and the adaptive torque limit. -/

namespace Sys2Proof.Machine

/-! ### The window table T6 (R112) -/

/-- Window kinds (R112). -/
inductive WindowKind where
  | forbidden | dump | slow
  deriving DecidableEq, Repr

/-- One window record, fields in the order of R112. -/
structure Window where
  kind : WindowKind
  start : Int
  stop : Int
  stopBand : Int
  margin : Int
  edge : Int
  cap : Int
  deriving DecidableEq, Repr

def windowKind : Nat → WindowKind
  | 0 => .forbidden | 1 => .dump | _ => .slow

/-- Window k of T6 (chapter 12.6). -/
def window (t6 : Table) (k : Nat) : Window :=
  let w (f : Nat) : Int := t6.int (1 + 7 * k + f)
  ⟨windowKind (t6.num (1 + 7 * k)), w 1, w 2, w 3, w 4, w 5, w 6⟩

/-- The indices of the existing windows: none while T6 is not LIVE (R112, R114). -/
def windowIndices (t6 : Table) : List Nat := if t6.isLive then List.range (t6.num 0) else []

/-- The inside test: the start belongs to the window and the end does not (R115). -/
def Window.contains (w : Window) (hr : Int) : Bool := decide ((hr - w.start) % 36000 < (w.stop - w.start) % 36000)

/-- The inside set for an angle, taken as empty while the position is in doubt (R109, R119). -/
def insideSet (t6 : Table) (doubt : Bool) (hr : Int) : List Nat :=
  if doubt then [] else (windowIndices t6).filter (fun k => (window t6 k).contains hr)

/-- Whether a LIVE T6 defines a DUMP window (R99). -/
def hasDump (t6 : Table) : Bool := (windowIndices t6).any (fun k => (window t6 k).kind == .dump)

/-- Whether an angle lies inside a DUMP window of a LIVE T6 (R99, R115). -/
def insideDump (t6 : Table) (hr : Int) : Bool :=
  (windowIndices t6).any (fun k => (window t6 k).kind == .dump && (window t6 k).contains hr)

/-! ### Window caps (R116 to R118) -/

/-- The cap of a FORBIDDEN window that does not contain Hr, from the distance to the edge ahead (R116). -/
def taper (w : Window) (vz dist : Int) : Option Int :=
  if dist < w.stopBand then some 0
  else if dist < w.margin then some (w.edge + trunc ((vz - w.edge) * (dist - w.stopBand)) (w.margin - w.stopBand))
  else none

/-- The clockwise and counter-clockwise caps of one window; none is unrestricted (R116 to R118). -/
def windowCaps (w : Window) (vz hr : Int) : Option Int × Option Int :=
  match w.kind with
  | .dump => (none, none)
  | .slow => if w.contains hr then (some w.cap, some w.cap) else (none, none)
  | .forbidden =>
    if w.contains hr then
      if (hr - w.start) % 36000 < (w.stop - hr) % 36000 then (some 0, some w.edge) else (some w.edge, some 0)
    else (taper w vz ((w.start - hr) % 36000), taper w vz ((hr - w.stop) % 36000))

/-- The lesser of two caps, where none is unrestricted. -/
def leastCap : Option Int → Option Int → Option Int
  | none, y => y
  | x, none => x
  | some x, some y => some (min x y)

/-- The caps every existing window gives, by index; none under suspension (R115, R119). -/
def capsByWindow (t6 : Table) (doubt : Bool) (vz hr : Int) : List (Nat × Option Int × Option Int) :=
  if doubt then [] else (windowIndices t6).map (fun k => (k, windowCaps (window t6 k) vz hr))

/-- The window caps of a frame: the least for each direction (R118). -/
def leastCaps (cs : List (Nat × Option Int × Option Int)) : Option Int × Option Int :=
  cs.foldl (fun acc c => (leastCap acc.1 c.2.1, leastCap acc.2 c.2.2)) (none, none)

/-- SWING_AT_EDGE's detail: the lowest-numbered window that gives a cap of 0, clockwise first (R120). -/
def edgeDetail (cs : List (Nat × Option Int × Option Int)) : Option Nat :=
  cs.findSome? (fun c =>
    if c.2.1 = some 0 then some (2 * c.1) else if c.2.2 = some 0 then some (2 * c.1 + 1) else none)

/-- SWING_AT_EDGE as a frame with these caps reports it (R120). -/
def edgeReport (cs : List (Nat × Option Int × Option Int)) : Report :=
  match edgeDetail cs with
  | some d => .level cSwingAtEdge true (some d)
  | none => .level cSwingAtEdge false none

/-- SWING_INSIDE_FORBIDDEN as the inside set gives it (R120). -/
def insideReport (t6 : Table) (inside : List Nat) : Report :=
  match inside.find? (fun k => (window t6 k).kind == .forbidden) with
  | some k => .level cInsideForbidden true (some k)
  | none => .level cInsideForbidden false none

/-! ### Crossing marks (R121, R122) -/

def markAngle (t7 : Table) (k : Nat) : Int := t7.int (1 + 2 * k)
def markPulse (t7 : Table) (k : Nat) : Bool := t7.num (2 + 2 * k) == 1

/-- The existing marks of a LIVE T7. -/
def markIndices (t7 : Table) : List Nat := if t7.isLive then List.range (t7.num 0) else []

/-- The direction in which a movement crosses an angle, if it does: the old angle excluded, the new one included (R122). -/
def crossing (old new m : Int) : Option CrossDir :=
  let d := (new - old) % 36000
  if d = 0 then none
  else if d ≤ 18000 then
    let x := (m - old) % 36000
    if 1 ≤ x ∧ x ≤ d then some .cw else none
  else
    let x := (old - m) % 36000
    if 1 ≤ x ∧ x ≤ 36000 - d then some .ccw else none

/-- A crossing sets the direction and the flag of the mark's mode (R123). -/
def Mark.cross (pulse : Bool) (dir : CrossDir) (m : Mark) : Mark :=
  if pulse then { m with pulse := true, dir := some dir } else { m with latched := true, dir := some dir }

/-- The marks after a movement (R122, R123). -/
def crossMarks (t7 : Table) (old new : Int) (ms : List Mark) : List Mark :=
  ms.mapIdx (fun k m =>
    if (markIndices t7).contains k then
      match crossing old new (markAngle t7 k) with
      | some dir => m.cross (markPulse t7 k) dir
      | none => m
    else m)

/-! ### Hand-offs (R111) -/

/-- Why a new Hr was handed on (R35). -/
inductive HrCause where
  | movement | datum
  deriving DecidableEq, Repr

/-- A POS update: the flags first, then the marks on a movement, then Hr and the inside set (R111, R122). The recorded window caps are
left as they are, also where the doubt becomes set: the model's choice (DESIGN CHOICE, assumption 35, at `recordCaps`). -/
def takeHr (hr : Int) (cause : HrCause) (doubt heading : Bool) (s : State) : Move :=
  let t6 := s.tables.t6
  let marks :=
    if cause = .movement ∧ !doubt then crossMarks s.tables.t7 s.swu.heldHr hr s.swu.marks else s.swu.marks
  let inside := insideSet t6 doubt hr
  let u := { s.swu with heldHr := hr, heldDoubt := doubt, heldHeading := heading }
  (s.withSwu { u with marks := marks, inside := inside }, [insideReport t6 inside])

/-- T6 entered or left LIVE: inside set, caps and raw states afresh (R114, R120). -/
def windowsChanged (s : State) : State :=
  let inside := insideSet s.tables.t6 s.swu.heldDoubt s.swu.heldHr
  let s := s.withSwu { s.swu with inside := inside, capCw := none, capCcw := none }
  report [.level cSwingAtEdge false none, insideReport s.tables.t6 inside] s

/-- T7 entered or left LIVE: every mark record is cleared (R121). -/
def marksChanged (s : State) : State := s.withSwu { s.swu with marks := List.replicate 4 .reset }

/-- The held hoist torque is pushed onto the load FIFO at a marker (R124). -/
def pushLoad (u : Swu) : Swu :=
  let f := u.fifo ++ [u.heldTorque]
  { u with fifo := f.drop (f.length - Config.loadFifoDepth) }

/-- A STATE frame that enters the queue clears the PULSE flags (R123). -/
def clearPulses (u : Swu) : Swu := { u with marks := u.marks.map (fun m => { m with pulse := false }) }

/-- A WRITE of CROSSING_FLAGS clears the latched flags it names; a mark that does not exist or is a PULSE mark stays as it is
(R123, chapter 12.7). -/
def clearLatched (t7 : Table) (v : Word) (ms : List Mark) : List Mark :=
  ms.mapIdx (fun k m =>
    if v.getLsbD (15 - 4 * k) && (markIndices t7).contains k && !markPulse t7 k then { m with latched := false } else m)

/-! ### The torque limit (R125, R126) -/

/-- The load: the mean of the FIFO, 0 when it is empty (R125). -/
def swingLoad (u : Swu) : Int := if u.fifo.isEmpty then 0 else trunc u.fifo.sum u.fifo.length

def AdaptMode.gain : AdaptMode → Int
  | .off => 0 | .light => 250 | .medium => 500 | .strong => 1000

/-- A limit scaled by a group's capacity (R59, R102). -/
def scaled (limit : Int) (v : GroupValues) : Int :=
  if v.configured = 0 then 0 else trunc (limit * v.ready) v.configured

/-- The scaled profile torque of SWING (R125, step 2). -/
def swingProfileTorque (s : State) : Int := scaled (s.profile .swingTorque) s.dgu.values.swing

/-- The computed limit (R125). -/
def computedLimit (s : State) : Int :=
  let base := swingProfileTorque s
  let excess := max 0 (swingLoad s.swu - s.items.adaptBase)
  let reduction := trunc (s.items.adaptMode.gain * excess) 1000
  max (min s.items.adaptFloor base) (base - reduction)

/-- The applied limit after one frame's glide (R126). -/
def glide (step computed : Int) : Option Int → Int
  | none => computed
  | some a => if a < computed then a + min step (computed - a) else a - min step (a - computed)

/-- Computed and applied limits at a SWING frame; while the profile is NONE the applied limit stays absent (R125, R126). -/
def glideSwing (s : State) : State :=
  let c := computedLimit s
  let a := if s.env.selected.isSome then some (glide s.items.adaptStep c s.swu.applied) else none
  s.withSwu { s.swu with computed := some c, applied := a }

/-- The swing torque limit sent: the lesser of the applied limit and the scaled profile torque (R127). -/
def swingLimitSent (s : State) : Int :=
  match s.swu.applied with
  | some a => min a (swingProfileTorque s)
  | none => 0

end Sys2Proof.Machine
end

