-- ==== Sys2Proof/Machine/Tracking.lean ====
section
/-! DEFINITION. The tracking unit (chapter 1): what a SAMPLE frame does to its channel stage by stage, what a CYCLE marker does,
the LEARN request, and the writes of channel items that change a channel. Everything here is about one channel's record. -/

namespace Sys2Proof.Machine

def Cause.code : Cause → Nat
  | .loss => 1 | .clip => 2 | .stuck => 3 | .stale => 4

/-- What a channel reads besides its record: which channel it is, its items, and the swing gearing. -/
structure ChanCtx where
  axis : Axis
  items : ChannelItems
  gear : Int
  deriving DecidableEq, Repr

/-- A channel at work on one frame, with the reports it has made to the ALU. -/
structure Run where
  chan : Channel
  reports : List Report
  deriving DecidableEq, Repr

def Run.say (r : Run) (x : Report) : Run := { r with reports := r.reports ++ [x] }

/-! ### Correction ranges (R11) -/

def gainSpan (it : ChannelItems) : Int := trunc (1024 * it.gainLimit) 1000

def clampOffset (it : ChannelItems) (v : Int) : Int := clamp (-it.offsetLimit) it.offsetLimit v

def clampGain (it : ChannelItems) (v : Int) : Int := clamp (1024 - gainSpan it) (1024 + gainSpan it) v

def clampCorrection (it : ChannelItems) (k : Correction) : Correction :=
  ⟨clampOffset it k.so, clampOffset it k.co, clampGain it k.g⟩

/-! ### Learning (R13 to R16) -/

def Accum.ofPair (p : Pair) : Accum := ⟨p.s, p.s, p.c, p.c⟩

/-- A pair is folded into the accumulators (R13). -/
def foldPair (p : Pair) : Option Accum → Option Accum
  | none => some (.ofPair p)
  | some a => some ⟨max a.smax p.s, min a.smin p.s, max a.cmax p.c, min a.cmin p.c⟩

/-- Learning completes, or fails for want of a cosine span (R14, R15). -/
def completeLearning (ctx : ChanCtx) (pair : Option Pair) (r : Run) : Run :=
  let c := r.chan
  let next : Channel :=
    if ctx.items.correctionMode = .learnEachRev then { c with learn := .gathering, acc := pair.map Accum.ofPair }
    else { c with learn := .idle, acc := none }
  match c.acc with
  | some a =>
    if a.cmax = a.cmin then ({ r with chan := next }).say (.event cLearnFail (some (16 * 0 + ctx.axis.code)))
    else
      let k : Correction :=
        ⟨trunc (a.smax + a.smin) 2, trunc (a.cmax + a.cmin) 2, trunc (1024 * (a.smax - a.smin)) (a.cmax - a.cmin)⟩
      { r with chan := { next with used := clampCorrection ctx.items k } }
  | none => ({ r with chan := next }).say (.event cLearnFail (some (16 * 0 + ctx.axis.code)))

/-- A phase wrap: forward or reverse (R20). -/
inductive Wrap where
  | forward | reverse
  deriving DecidableEq, Repr

/-- One index event in the learning state (R13); `pair` is that of the update, absent for a coast step. -/
def indexEvent (ctx : ChanCtx) (w : Wrap) (pair : Option Pair) (r : Run) : Run :=
  match r.chan.learn, w with
  | .idle, _ => r
  | .waitingIndex, .forward => { r with chan := { r.chan with learn := .gathering, acc := pair.map Accum.ofPair } }
  | .waitingIndex, .reverse => r
  | .gathering, .forward => completeLearning ctx pair r
  | .gathering, .reverse => { r with chan := { r.chan with learn := .waitingIndex, acc := none } }

/-- Learning in progress is ended by a channel fault (R16). -/
def faultLearning (ctx : ChanCtx) (r : Run) : Run :=
  match r.chan.learn with
  | .idle => r
  | _ =>
    ({ r with chan := { r.chan with learn := .idle, acc := none } }).say
      (.event cLearnFail (some (16 * 1 + ctx.axis.code)))

/-! ### Faults (R26) -/

/-- Entry into FAULT, or a change of cause in it: the cause is recorded and TRACK_FAULT_x carries its detail (R26). -/
def enterFault (ctx : ChanCtx) (cause : Cause) (r : Run) : Run :=
  let r := r.say (.level (cTrackFault ctx.axis) true (some cause.code))
  faultLearning ctx { r with chan := { r.chan with state := .fault, cause := some cause } }

/-! ### Phase and turns (R20) -/

/-- The turn count a wrap leaves: saturating for the drums, modulo the gearing for SWING, none for WALK (R20). -/
def turnAfter (ctx : ChanCtx) (w : Wrap) (t : Int) : Int :=
  let d : Int := match w with
    | .forward => 1
    | .reverse => -1
  match ctx.axis with
  | .hoist | .drag => clamp (-32768) 32767 (t + d)
  | .swing => (t + d) % ctx.gear
  | .walk => t

/-- The wrap a raw phase sum makes, if any (R20). -/
def wrapOf (raw : Int) : Option Wrap :=
  if 65536 ≤ raw then some .forward else if raw < 0 then some .reverse else none

/-- The phase carry: the raw sum is brought back into range by one carry, and the turn count follows (R20). -/
def carryPhase (ctx : ChanCtx) (raw : Int) (c : Channel) : Channel :=
  match wrapOf raw with
  | some .forward => { c with phase := raw - 65536, turns := turnAfter ctx .forward c.turns }
  | some .reverse => { c with phase := raw + 65536, turns := turnAfter ctx .reverse c.turns }
  | none => { c with phase := raw }

/-- One coast step, with its index event (R5). -/
def coastStep (ctx : ChanCtx) (r : Run) : Run :=
  let raw := r.chan.phase + r.chan.speed
  let r' : Run := { r with chan := carryPhase ctx raw r.chan }
  match wrapOf raw with
  | some w => indexEvent ctx w none r'
  | none => r'

def coast (ctx : ChanCtx) : Nat → Run → Run
  | 0, r => r
  | n + 1, r => coast ctx n (coastStep ctx r)

/-! ### Arrival and checks (R5 to R9) -/

/-- The gap of a frame's sequence number; absent while the channel holds no last number (R5). -/
def seqGap (c : Channel) (seq : Nat) : Option Nat :=
  c.lastSeq.map (fun l => (seq + 256 - l) % 256)

/-- What every delivered frame but a duplicate leaves: number, note and stale count (R5; assumption 8). -/
def arrive (seq : Nat) (c : Channel) : Channel := { c with lastSeq := some seq, note := true, stale := 0 }

/-- A raw value at or outside the ends of its range is clipped (R1, R6). -/
def clipped (v : Int) : Bool := decide (v ≤ -2048) || decide (2047 ≤ v)

def pairOf (d : SampleData) : Pair := ⟨signed d.sine, signed d.cosine⟩

/-- The excitation and clip tests, excitation first (R6). -/
def frontFault (d : SampleData) : Option Cause :=
  if !truthy d.excitation then some .loss
  else if clipped (signed d.sine) || clipped (signed d.cosine) then some .clip
  else none

/-- A pair fails the noise test against a reference pair (R7). -/
def noisy (t : Int) (p q : Pair) : Bool := decide (t < mag (p.s - q.s)) || decide (t < mag (p.c - q.c))

/-- Whether the history rejects a pair (R7). -/
def rejected (it : ChannelItems) (c : Channel) (p : Pair) : Bool :=
  match it.noiseMode, c.last, c.second with
  | _, none, _ => false
  | .one, some q, _ => noisy it.noiseThreshold p q
  | .two, some q, none => noisy it.noiseThreshold p q
  | .two, some q, some q' => noisy it.noiseThreshold p q && noisy it.noiseThreshold p q'

/-- The stuck count after an accepted pair (R9). -/
def stuckNext (c : Channel) (p : Pair) : Nat :=
  if c.last = some p ∧ 4 ≤ mag c.speed then c.stuckCount + 1 else 0

/-! ### Correction and measurement (R10, R17) -/

/-- The corrected pair (s′, c′) (R10). -/
def correct (k : Correction) (p : Pair) : Pair := ⟨p.s - k.so, trunc ((p.c - k.co) * k.g) 1024⟩

/-- The amplitude test fails (R17). -/
def tooWeak (it : ChannelItems) (p : Pair) : Bool :=
  decide (p.s * p.s + p.c * p.c < it.lossLevel * it.lossLevel)

def angleOf (p : Pair) : Int := measuredAngle p.c p.s

/-! ### The loop update (R19 to R22, R25) -/

/-- The error of an update (R19). -/
def loopError (theta phase : Int) : Int := (theta - phase + 32768) % 65536 - 32768

/-- Gain scheduling with the error of the update (R22, R23). -/
def schedule (it : ChannelItems) (e : Int) (c : Channel) : Channel :=
  match it.gainMode with
  | .scheduled =>
    if it.bandUp ≤ mag e then { c with gain := min it.gainHigh (c.gain + 1) }
    else if mag e < it.bandDown then { c with gain := max it.gainLow (c.gain - 1) }
    else c
  | .fixed => if c.boost ∧ mag e < it.bandDown then { c with boost := false, gain := it.gainLow } else c

/-- Whether an update with this error takes a channel in ACQUIRE to TRACKING (R25). -/
def settles (it : ChannelItems) (e : Int) (c : Channel) : Bool :=
  c.state == .acquire && decide (mag e < it.bandUp) && decide (8 ≤ c.settle + 1)

/-- The settle count in ACQUIRE, and the entry into TRACKING (R25, R15). -/
def settleStage (it : ChannelItems) (e : Int) (c : Channel) : Channel :=
  match c.state with
  | .acquire =>
    if settles it e c then
      let c := { c with state := .tracking, settle := 0 }
      if it.correctionMode = .learnEachRev then { c with learn := .waitingIndex, acc := none } else c
    else if mag e < it.bandUp then { c with settle := c.settle + 1 }
    else { c with settle := 0 }
  | _ => c

/-- The speed an update leaves (R19, step 2). -/
def speedNext (it : ChannelItems) (e : Int) (c : Channel) : Int :=
  clamp (-it.speedLimit) it.speedLimit (c.speed + trunc (e * 2 ^ c.gain) 4096)

/-- The raw phase sum of an update (R19, step 3). -/
def rawSum (it : ChannelItems) (e : Int) (c : Channel) : Int :=
  c.phase + speedNext it e c + trunc (e * 2 ^ c.gain) 128

/-- The loop update, then gain scheduling, settle count and learning, in the order of R4. -/
def loopUpdate (ctx : ChanCtx) (p : Pair) (theta : Int) (r : Run) : Run :=
  let c := r.chan
  let e := loopError theta c.phase
  let w := speedNext ctx.items e c
  let raw := rawSum ctx.items e c
  let c1 := { carryPhase ctx raw c with speed := w }
  let c2 := settleStage ctx.items e (schedule ctx.items e c1)
  let r := ({ r with chan := c2 }).say (.level (cOverspeed ctx.axis) (mag w == ctx.items.speedLimit) none)
  let r := if r.chan.learn = .gathering then { r with chan := { r.chan with acc := foldPair p r.chan.acc } } else r
  match wrapOf raw with
  | some x => indexEvent ctx x (some p) r
  | none => r

/-! ### Acquisition (R24) -/

/-- A pair acquires the channel (R24). Learning in progress ends without LEARN_FAIL (R28); there is none from UNLOCKED or
FAULT. -/
def acquire (ctx : ChanCtx) (p : Pair) (theta : Int) (r : Run) : Run :=
  let c := r.chan
  let raise : Bool := c.state == .unlocked || ctx.items.recoveryGain == .high
  let c1 := { c with phase := theta, speed := 0, last := some p, second := none, rejects := 0, stuckCount := 0 }
  let c2 := { c1 with settle := 0, state := .acquire, cause := none, learn := .idle, acc := none }
  let c3 := if raise then { c2 with gain := ctx.items.gainHigh, boost := true } else c2
  (({ r with chan := c3 }).say (.level (cTrackFault ctx.axis) false none)).say (.level (cOverspeed ctx.axis) false none)

/-- The tests of an acquisition and, if they pass, the acquisition (R24, R28). -/
def tryAcquire (ctx : ChanCtx) (d : SampleData) (r : Run) : Run :=
  match frontFault d with
  | some cause => enterFault ctx cause r
  | none =>
    let p := pairOf d
    let k := correct r.chan.used p
    if tooWeak ctx.items k then enterFault ctx .loss r else acquire ctx p (angleOf k) r

/-- The recovery checks of a channel in FAULT, in order; the first failing one gives the cause (R27). -/
def recoveryFault (ctx : ChanCtx) (d : SampleData) (c : Channel) : Option Cause :=
  match frontFault d with
  | some cause => some cause
  | none =>
    if c.cause = some .stuck ∧ c.last = some (pairOf d) then some .stuck
    else if tooWeak ctx.items (correct c.used (pairOf d)) then some .loss
    else none

/-- A frame delivered to a channel in FAULT (R27). -/
def tryRecover (ctx : ChanCtx) (d : SampleData) (r : Run) : Run :=
  match recoveryFault ctx d r.chan with
  | some cause => enterFault ctx cause r
  | none => acquire ctx (pairOf d) (angleOf (correct r.chan.used (pairOf d))) r

/-! ### A frame through the stages (R4) -/

/-- An accepted pair: history, stuck test, correction, amplitude, loop update (R9, R10, R17, R19). -/
def acceptPair (ctx : ChanCtx) (p : Pair) (r : Run) : Run :=
  let c := r.chan
  let n := stuckNext c p
  let r := { r with chan := { c with stuckCount := n, last := some p, second := c.last, rejects := 0 } }
  if 16 ≤ n then enterFault ctx .stuck r
  else
    let k := correct r.chan.used p
    if tooWeak ctx.items k then enterFault ctx .loss r else loopUpdate ctx p (angleOf k) r

/-- The stages from excitation on, in ACQUIRE and TRACKING (R6 to R8). -/
def trackPair (ctx : ChanCtx) (d : SampleData) (r : Run) : Run :=
  match frontFault d with
  | some cause => enterFault ctx cause r
  | none =>
    let p := pairOf d
    if 3 ≤ r.chan.rejects then acceptPair ctx p (r.say (.event (cNoiseBurst ctx.axis) none))
    else if rejected ctx.items r.chan p then
      let r := coastStep ctx r
      { r with chan := { r.chan with rejects := r.chan.rejects + 1 } }
    else acceptPair ctx p r

/-- What one SAMPLE frame leaves of a channel: whether it was a duplicate, ignored whole; the run; and whether the channel
recovered, from FAULT or after a large gap (R27, R28). -/
structure Sampled where
  duplicate : Bool
  run : Run
  recovered : Bool
  deriving DecidableEq, Repr

/-- A delivered SAMPLE frame (R4, R5). -/
def takeSample (ctx : ChanCtx) (d : SampleData) (c : Channel) : Sampled :=
  let seq := d.sequence.toNat
  let gap := seqGap c seq
  if gap = some 0 then ⟨true, ⟨c, []⟩, false⟩
  else
    let g := gap.getD 1
    let r : Run := ⟨arrive seq c, []⟩
    match c.state with
    | .unlocked => ⟨false, tryAcquire ctx d r, false⟩
    | .fault =>
      let r' := tryRecover ctx d r
      ⟨false, r', r'.chan.state == .acquire⟩
    | .acquire | .tracking =>
      if 17 ≤ g then
        let r' := tryAcquire ctx d r
        ⟨false, r', r'.chan.state == .acquire⟩
      else ⟨false, trackPair ctx d (coast ctx (g - 1) r), false⟩

/-! ### The CYCLE marker (R29) -/

/-- The stale count a marker leaves (R29). -/
def staleNext (c : Channel) : Nat := if c.note then c.stale else satInc 15 c.stale

/-- Whether a marker takes the channel into FAULT(STALE), or gives a channel in FAULT that cause (R29). -/
def staleDue (it : ChannelItems) (c : Channel) : Bool :=
  decide (it.staleLimit ≤ staleNext c) && !(c.state == .fault && c.cause == some .stale)

/-- What a marker leaves of a channel; the reports are empty unless it enters FAULT or changes cause. -/
def markChannel (ctx : ChanCtx) (c : Channel) : Run :=
  let c1 := { c with stale := staleNext c, note := false }
  if staleDue ctx.items c then enterFault ctx .stale ⟨c1, []⟩ else ⟨c1, []⟩

/-! ### Requests and writes that reach a channel -/

/-- Whether a LEARN request is accepted (R12). -/
def learnReady (it : ChannelItems) (c : Channel) : Bool :=
  c.state == .tracking && it.correctionMode == .learnOnce

/-- An accepted LEARN request (R12). -/
def startLearning (c : Channel) : Channel := { c with learn := .waitingIndex, acc := none }

/-- A write of CORRECTION_MODE reaches the channel: learning ends, the values in use are those of the mode (R10, R15, R16). -/
def setCorrectionMode (it : ChannelItems) (c : Channel) : Channel :=
  let c := { c with learn := .idle, acc := none, used := it.initialCorrection }
  if it.correctionMode = .learnEachRev ∧ c.state = .tracking then { c with learn := .waitingIndex } else c

/-- A write of SPEED_LIMIT clamps ω at once (R21). -/
def clampSpeed (it : ChannelItems) (c : Channel) : Channel :=
  { c with speed := clamp (-it.speedLimit) it.speedLimit c.speed }

/-- A write of GAIN_LOW or GAIN_HIGH clamps L; in FIXED gain mode it also sets it by the boost (R23). -/
def clampGainLevel (it : ChannelItems) (c : Channel) : Channel :=
  match it.gainMode with
  | .scheduled => { c with gain := clampNat it.gainLow it.gainHigh c.gain }
  | .fixed => { c with gain := if c.boost then it.gainHigh else it.gainLow }

end Sys2Proof.Machine
end

