-- ==== Sys2Proof/Machine/Position.lean ====
section
/-! DEFINITION. The position unit (chapter 2): payouts, house angle, relative angle and cam angle, doubt, ZERO and the reference
marks, and the hand-off of each new value to the ENV, the SWU and the WSQ. -/

namespace Sys2Proof.Machine

/-- The full count of travel X of a channel's latest hand-off (R34). -/
def Pos.travel (p : Pos) (a : Axis) : Int := (p.handed.get a).turns * Config.revolution + (p.handed.get a).phase

/-- The payout term floor(X × K / 6,553,600) (R36). -/
def payoutTerm (p : Pos) (it : Items) (d : Drum) : Int :=
  floorDiv (p.travel d.axis * it.ropeK.get d) Config.payoutDivisor

/-- The unclamped payout U (R36). -/
def unclampedPayout (p : Pos) (it : Items) (d : Drum) : Int := p.payoutZero.get d + payoutTerm p it d

/-- The house term floor(X × 36000 / (Grev × 65536)) (R38). -/
def houseTerm (p : Pos) (it : Items) : Int :=
  floorDiv (p.travel .swing * Config.circle) (it.swingGear * Config.revolution)

/-- The cam term floor(φ × 360 / 65536) (R39). -/
def camTerm (p : Pos) : Int := floorDiv (p.handed.walk.phase * 360) Config.revolution

/-- PAYOUT_RANGE_x as an unclamped payout gives it (R37). -/
def rangeReport (d : Drum) (u : Int) : Report :=
  if u < 0 then .level (cPayoutRange d) true (some 0)
  else if 65000 < u then .level (cPayoutRange d) true (some 1)
  else .level (cPayoutRange d) false none

/-- DOUBTFUL_x follows its flag (R42). -/
def doubtReport (p : Pos) (d : Drive) : Report := .level (cDoubtful d) (p.doubtful.get d) none

/-- A drum's payout is recomputed and handed to the ENV with its doubt flag (R35 to R37). -/
def updateDrum (d : Drum) (s : State) : State :=
  let u := unclampedPayout s.pos s.items d
  let p := { s.pos with payout := s.pos.payout.set d (clamp 0 65000 u) }
  let env := takePayout s.tables.t0 s.items.hysteresis d (clamp 0 65000 u) (p.doubtful.get d.drive) s.env
  report [doubtReport p d.drive, rangeReport d u] ((s.withPos p).withEnv env)

/-- The house and relative angles are recomputed and handed to the SWU with their cause (R35, R38). The POS's DOUBTFUL_S reaches the
ALU before the SWU's SWING_INSIDE_FORBIDDEN (R42, R120): the model's choice (DESIGN CHOICE, assumption 29). -/
def updateHouse (cause : HrCause) (s : State) : State :=
  let h := (s.pos.houseZero + houseTerm s.pos s.items) % Config.circle
  let hr := (h - s.items.pitHeading) % Config.circle
  let p := { s.pos with house := h, relative := hr }
  let m := takeHr hr cause p.doubtful.swing p.headingConfirmed (s.withPos p)
  report m.2 (report [doubtReport p .swing] m.1)

/-- The cam angle is recomputed and handed to the WSQ with the WALK channel's state (R35, R39). -/
def updateCam (s : State) : State :=
  let c := (s.items.camZero + camTerm s.pos) % 360
  settleMove (takeCam c s.pos.handed.walk.state (s.withPos { s.pos with cam := c }))

/-- The recompute a channel's event brings (R35). -/
def updateAxis (a : Axis) (cause : HrCause) (s : State) : State :=
  match a with
  | .hoist => updateDrum .hoist s
  | .drag => updateDrum .drag s
  | .swing => updateHouse cause s
  | .walk => updateCam s

/-- The DOUBTFUL flag of a channel; WALK has none (R41). -/
def Pos.setDoubt (p : Pos) (a : Axis) (v : Bool) : Pos :=
  match a with
  | .hoist => { p with doubtful := p.doubtful.set .hoist v }
  | .drag => { p with doubtful := p.doubtful.set .drag v }
  | .swing => { p with doubtful := p.doubtful.set .swing v }
  | .walk => p

/-- A hand-off of a channel, with the recovery it may report (R30, R35, R41). -/
def handOff (a : Axis) (recovered : Bool) (s : State) : State :=
  let c := s.chan a
  let p := { s.pos with handed := s.pos.handed.set a ⟨c.state, c.phase, c.turns⟩ }
  updateAxis a .movement (s.withPos (if recovered then p.setDoubt a true else p))

/-! ### ZERO and the reference marks (R43 to R47) -/

/-- Whether a channel's latest hand-off gives a state a zero can be taken in (R43, R47). -/
def zeroable (p : Pos) (a : Axis) : Bool :=
  (p.handed.get a).state == .acquire || (p.handed.get a).state == .tracking

/-- The range of a channel's zero value (R43). -/
def zeroTop : Axis → Int
  | .hoist | .drag => 65000 | .swing => 35999 | .walk => 359

/-- The effect of an accepted ZERO, or of a mark taken (R44, R45, R47). -/
def zeroAxis (a : Axis) (value : Int) (s : State) : State :=
  match a with
  | .hoist =>
    let z := value - payoutTerm s.pos s.items .hoist
    updateDrum .hoist (s.withPos ({ s.pos with payoutZero := s.pos.payoutZero.set .hoist z }.setDoubt .hoist false))
  | .drag =>
    let z := value - payoutTerm s.pos s.items .drag
    updateDrum .drag (s.withPos ({ s.pos with payoutZero := s.pos.payoutZero.set .drag z }.setDoubt .drag false))
  | .swing =>
    let z := (value - houseTerm s.pos s.items) % Config.circle
    updateHouse .datum (s.withPos ({ s.pos with houseZero := z }.setDoubt .swing false))
  | .walk =>
    let z := (value - camTerm s.pos) % 360
    updateCam (s.withItems { s.items with camZero := z })

/-- The item a reference mark zeroes its channel to (R47). -/
def markValue (it : Items) : Drive → Int
  | .hoist => it.markPayout.hoist | .drag => it.markPayout.drag | .swing => it.markAngle

/-- One mark input of a loaded image: a rising edge takes the mark if the channel can be zeroed (R46, R47). -/
def takeMark (inputs : BitVec 32) (s : State) (d : Drive) : State :=
  let made := inputs.getLsbD (2 + d.code)
  let edge : Bool := s.pos.marks.get d == some false && made
  let s := s.withPos { s.pos with marks := s.pos.marks.set d (some made) }
  if edge && zeroable s.pos d.axis then zeroAxis d.axis (markValue s.items d) s else s

/-- The three mark inputs (R46). Each mark taken makes the reports of its own zero, HOIST's first, so that one DISCRETE frame may
bring the ALU up to three reports of the POS: the model's choice (assumption 29). -/
def takeMarks (inputs : BitVec 32) (s : State) : State := Drive.all.foldl (takeMark inputs) s

/-! ### The heading (R48 to R50) -/

/-- The heading confirmed flag is set, handed to the SWU, and its condition falls (R49, R50). -/
def confirmHeading (s : State) : State :=
  let s := (s.withPos { s.pos with headingConfirmed := true }).withSwu { s.swu with heldHeading := true }
  report [.level cHeadingUnconfirmed false none] s

/-- A push compared with its last value: what the last value becomes, and whether this is an edge (R49, R158, R179). -/
def pushEdge (last : Option Bool) (pressed : Bool) : Bool := last == some false && pressed

/-- The heading-confirm push of a CAB frame (R49). -/
def takeConfirm (pressed : Bool) (s : State) : State :=
  let edge := pushEdge s.pos.lastConfirm pressed
  let s := s.withPos { s.pos with lastConfirm := some pressed }
  if edge then confirmHeading s else s

/-- An accepted write of PIT_HEADING: stored, Hr recomputed as a datum change, the heading confirmed (R48). The POS's fall of
HEADING_UNCONFIRMED reaches the ALU before the reports of the recompute, the SWU's SWING_INSIDE_FORBIDDEN among them: the model's
choice (assumption 29). -/
def setPitHeading (v : Int) (s : State) : State :=
  let s := s.withItems { s.items with pitHeading := v }
  let s := s.withPos { s.pos with headingConfirmed := true }
  updateHouse .datum (report [.level cHeadingUnconfirmed false none] s)

/-! ### Writes of items in a formula (R31, R40) -/

/-- A write that changes a rope constant: the payout recomputed with it, the position in doubt (R40). -/
def setRopeK (d : Drum) (v : Int) (s : State) : State :=
  if s.items.ropeK.get d = v then s
  else
    let s := s.withItems { s.items with ropeK := s.items.ropeK.set d v }
    updateDrum d (s.withPos (s.pos.setDoubt d.axis true))

/-- A write that changes the swing gearing: the SWING turn count reduced, the house angle recomputed as a datum change, the
position in doubt (R31, R40). -/
def setSwingGear (v : Int) (s : State) : State :=
  if s.items.swingGear = v then s
  else
    let c := s.chan .swing
    let c := { c with turns := c.turns % v }
    let s := (s.withItems { s.items with swingGear := v }).setChan .swing c
    let p := { s.pos with handed := s.pos.handed.set .swing ⟨c.state, c.phase, c.turns⟩ }
    updateHouse .datum (s.withPos (p.setDoubt .swing true))

/-- A write of CAM_ZERO: C recomputed (R40). -/
def setCamZero (v : Int) (s : State) : State := updateCam (s.withItems { s.items with camZero := v })

end Sys2Proof.Machine
end

