-- ==== Sys2Proof/Machine/Drives.lean ====
section
/-! DEFINITION. The drive group unit (chapter 3): the member set and its records, form, capacity, torque and regeneration, the
contactor summary, the input image and brake wear, and the hand-offs after each event that reaches the DGU. -/

namespace Sys2Proof.Machine

/-! ### Members (R51 to R56) -/

/-- A record that begins ABSENT (R53). -/
def Member.begin (address : Nat) : Member :=
  { address := address, presence := .absent, ready := none, fault := none, torque := none, speed := none,
    ability := none, feedback := none, note := false, silence := 0 }

/-- Becoming ABSENT: the reported fields become absent (R56). -/
def Member.goAbsent (m : Member) : Member :=
  let m := { m with presence := .absent, ready := none, fault := none, torque := none, speed := none }
  { m with ability := none, feedback := none }

/-- The presence a frame gives (R55). -/
def presenceOf (fault : Nat) (ready : Bool) : Presence :=
  if fault ≠ 0 then .faulted else if ready then .ready else .present

def feedbackOf : Nat → Feedback
  | 0 => .none | 1 => .drag | 2 => .walk | _ => .both

/-- A delivered DRIVE_STATUS frame fills the record (R54, R55). -/
def Member.takeStatus (d : DriveData) (m : Member) : Member :=
  let ready := truthy d.ready
  { m with
    presence := presenceOf d.fault.toNat ready
    ready := some ready
    fault := some d.fault.toNat
    torque := some (clamp (-2000) 2000 (signed d.torque))
    speed := some (clamp (-2000) 2000 (signed d.speed))
    ability := some ⟨bit d.forms 0, bit d.forms 1, bit d.forms 2⟩
    feedback := some (feedbackOf d.feedback.toNat)
    note := true
    silence := 0 }

/-- Whether a marker makes a member ABSENT (R56). -/
def absentDue (limit : Nat) (m : Member) : Bool :=
  m.presence != .absent && decide (limit ≤ if m.note then m.silence else satInc 15 m.silence)

/-- A member at a CYCLE marker (R56). -/
def Member.mark (limit : Nat) (m : Member) : Member :=
  if m.presence = .absent then { m with note := false }
  else
    let n := if m.note then m.silence else satInc 15 m.silence
    let m' := { m with silence := n, note := false }
    if absentDue limit m then m'.goAbsent else m'

/-! ### The member set and T9 (R51, R52) -/

def desiredOf : Nat → Desired
  | 0 => .both | 1 => .fullOnly | _ => .plainOnly

def t9Count (t9 : Table) (d : Drive) : Nat := t9.num (6 * d.code)

/-- The addresses an entry of T9 names, in table order. -/
def t9Addresses (t9 : Table) (d : Drive) : List Nat :=
  (List.range (t9Count t9 d)).map (fun i => t9.num (6 * d.code + 1 + i))

def t9Desired (t9 : Table) (d : Drive) : Desired := desiredOf (t9.num (6 * d.code + 5))

/-- The members T9 names, each keeping its record where group and address are the same (R52). -/
def copyMembers (t9 : Table) (old : List Member) (d : Drive) : List Member :=
  (t9Addresses t9 d).map (fun a => (old.find? (fun m => m.address == a)).getD (.begin a))

def perDrive {α : Type} (f : Drive → α) : PerDrive α := ⟨f .hoist, f .drag, f .swing⟩

/-! ### Derived values (R57 to R62) -/

def Desired.permitsFull : Desired → Bool
  | .plainOnly => false | _ => true

def Desired.permitsPlain : Desired → Bool
  | .fullOnly => false | _ => true

/-- The members that take part: PRESENT, READY or FAULTED (R57). -/
def taking (ms : List Member) : List Member := ms.filter (fun m => m.presence != .absent)

def canFull (m : Member) : Bool := (m.ability.map Ability.full).getD false
def canPlain (m : Member) : Bool := (m.ability.map Ability.plain).getD false
def canRegen (m : Member) : Bool := (m.ability.map Ability.regen).getD false

/-- The resolved form (R57). -/
def resolveForm (ms : List Member) (want : Desired) : Form :=
  let ts := taking ms
  if ts.isEmpty then .unresolved
  else if want.permitsFull && ts.all canFull then .full
  else if want.permitsPlain && ts.all canPlain then .plain
  else .unresolved

def readyMembers (ms : List Member) : List Member := ms.filter (fun m => m.presence == .ready)

def sumOf (f : Member → Option Int) (ms : List Member) : Int := (ms.map (fun m => (f m).getD 0)).sum

/-- Form, counts, torque, speed and regeneration flag of a group (R57 to R62). -/
def groupValues (ms : List Member) (want : Desired) : GroupValues :=
  let rs := readyMembers ms
  { form := resolveForm ms want
    ready := rs.length
    configured := ms.length
    torque := if ms.length = 0 then 0 else trunc (sumOf Member.torque rs) ms.length
    speed := if rs.length = 0 then 0 else trunc (sumOf Member.speed rs) rs.length
    regen := (taking ms).any (fun m => !canRegen m) }

/-- The contactor feedback summary over the DRAG members (R63). -/
def summaryOf (ms : List Member) : Summary :=
  if (taking ms).any (fun m => m.feedback == some .both) then .conflict
  else if ms.isEmpty || ms.any (fun m => m.presence == .absent) then .incomplete
  else if ms.all (fun m => m.feedback == some .drag) then .drag
  else if ms.all (fun m => m.feedback == some .walk) then .walk
  else if ms.all (fun m => m.feedback == some .none) then .none
  else .mixed

/-- The values derived from the records, all groups afresh. -/
def Dgu.recompute (d : Dgu) : Dgu :=
  { d with
    values := perDrive (fun g => groupValues (d.members.get g) (d.desired.get g))
    summary := summaryOf d.members.drag }

def Presence.code : Presence → Nat
  | .absent => 0 | .present => 1 | .ready => 2 | .faulted => 3

/-- UNRESOLVED_x with its reason (R58). -/
def unresolvedReport (d : Dgu) (g : Drive) : Report :=
  match (d.values.get g).form with
  | .unresolved => .level (cUnresolved g) true (some (if (taking (d.members.get g)).isEmpty then 0 else 1))
  | _ => .level (cUnresolved g) false none

/-- The lowest-indexed member that is not READY, as MEMBER_LOST_x's detail (R61). -/
def lostDetail (ms : List Member) : Option Nat :=
  (ms.findIdx? (fun m => m.presence != .ready)).map
    (fun i => 16 * i + ((ms[i]?.map (fun m => m.presence.code)).getD 0))

/-- MEMBER_LOST_x (R61). -/
def memberLostReport (d : Dgu) (g : Drive) : Report :=
  match lostDetail (d.members.get g) with
  | some k => .level (cMemberLost g) true (some k)
  | none => .level (cMemberLost g) false none

/-- GROUP_DEAD_x (R61). -/
def groupDeadReport (d : Dgu) (g : Drive) : Report := .level (cGroupDead g) ((d.values.get g).ready == 0) none

/-- CONTACTOR_CONFLICT, with the lowest-indexed DRAG member that reports BOTH (R63). -/
def conflictReport (d : Dgu) : Report :=
  if d.summary = .conflict then
    .level cContactorConflict true (d.members.drag.findIdx? (fun m => m.presence != .absent && m.feedback == some .both))
  else .level cContactorConflict false none

/-- The conditions that follow from the member records (R58, R61, R63). -/
def driveReports (d : Dgu) : List Report :=
  Drive.all.map (unresolvedReport d) ++ Drive.all.map (memberLostReport d) ++ Drive.all.map (groupDeadReport d)
    ++ [conflictReport d]

/-! ### The input image and brake wear (R66 to R69) -/

/-- A good DISCRETE frame loads the image (R66). -/
def loadImage (low high : Word) : Image :=
  { inputs := high ++ low, state := .fresh, stale := 0, note := true }

def imageStaleNext (i : Image) : Nat := if i.note then i.stale else satInc 15 i.stale

/-- Whether a marker makes the image STALE (R67). -/
def imageDue (limit : Nat) (i : Image) : Bool := decide (limit ≤ imageStaleNext i) && i.state != .stale

/-- The image at a CYCLE marker (R67). -/
def Image.mark (limit : Nat) (i : Image) : Image :=
  let j := { i with stale := imageStaleNext i, note := false }
  if imageDue limit i then { j with state := .stale } else j

/-- DISCRETE_STALE follows the image state (R67). -/
def staleReport (i : Image) : Report := .level cDiscreteStale (i.state == .stale) none

/-- Brake wear from contacts A and B (R69). -/
def brakeOf (a b : Bool) : Brake := if a then (if b then .good else .worn) else .failed

/-- The brakes decoded from a load: A and B of HOIST, DRAG, SWING in inputs 6 to 11 (R68, R69). -/
def decodeBrakes (inputs : BitVec 32) : PerDrive Brake :=
  perDrive (fun d => brakeOf (inputs.getLsbD (6 + 2 * d.code)) (inputs.getLsbD (7 + 2 * d.code)))

/-- The conditions of a load: the inputs' own (R68), the brakes' (R69), and DISCRETE_STALE falling (R67). -/
def loadReports (d : Dgu) : List Report :=
  let i := d.image.inputs
  [staleReport d.image, .level cEstop (i.getLsbD 17) none, .level cBoomLimit (i.getLsbD 16) none]
    ++ Drive.all.map (fun g => Report.level (cBrakeWorn g) (d.brakes.get g == .worn) none)
    ++ Drive.all.map (fun g => Report.level (cBrakeFailed g) (d.brakes.get g == .failed) none)
    ++ [.level cHoistTopLimit (i.getLsbD 0) none, .level cDragInLimit (i.getLsbD 1) none]
    ++ (List.range 6).map (fun k => Report.level (cExternal k) (i.getLsbD (18 + k)) none)

/-! ### Hand-offs of the DGU (R65) -/

/-- After a change of the records: the derived values to the shapers, the summary to the WSQ where it changed, the hoist
torque to the SWU, and the conditions to the ALU (R65). -/
def handDrives (extra : List Report) (s : State) : State :=
  let old := s.dgu.summary
  let d := s.dgu.recompute
  let s := (s.withDgu d).withSwu { s.swu with heldTorque := d.values.hoist.torque }
  let s := if d.summary = old then s else settleMove (reactToSummary s)
  report (extra ++ driveReports d) s

/-- A DRIVE_STATUS frame reaches the member whose address is its source (R54). -/
def takeDriveStatus (src : Nat) (x : DriveData) (s : State) : State :=
  let hit (ms : List Member) : Bool := ms.any (fun m => m.address == src)
  if Drive.all.any (fun g => hit (s.dgu.members.get g)) then
    let ms := s.dgu.members.map (fun l => l.map (fun m => if m.address = src then m.takeStatus x else m))
    handDrives [] (s.withDgu { s.dgu with members := ms })
  else s

/-- The DGU's marker work: members' silence and the image's staleness, one hand-off (R56, R65, R67). -/
def driveMarker (s : State) : State :=
  let ms := s.dgu.members.map (fun l => l.map (Member.mark s.items.memberSilenceLimit))
  let img := s.dgu.image.mark s.items.discreteStaleLimit
  handDrives [staleReport img] (s.withDgu { s.dgu with members := ms, image := img })

/-- A good DISCRETE frame from INPUT_NODE: the image loaded and its inputs handed on, to the WSQ, the POS and the ALU in the
order of R65 (R66; assumption 5). -/
def takeDiscrete (low high : Word) (s : State) : State :=
  let img := loadImage low high
  let d := { s.dgu with image := img, brakes := decodeBrakes img.inputs }
  let s := settleMove (takeInputs img.inputs (s.withDgu d))
  report (loadReports d) (takeMarks img.inputs s)

/-- The member set is copied from T9 (R52). -/
def copyT9 (s : State) : State :=
  let ms := perDrive (fun g => copyMembers s.tables.t9 (s.dgu.members.get g) g)
  handDrives [] (s.withDgu { s.dgu with members := ms, desired := perDrive (t9Desired s.tables.t9) })

/-- ABANDON of T9 leaves the member set empty (R52). -/
def emptyT9 (s : State) : State :=
  handDrives [] (s.withDgu { s.dgu with members := .all [], desired := .all .both })

end Sys2Proof.Machine
end

