-- ==== Sys2Proof/Machine/Shaping.lean ====
section
/-! DEFINITION. The shapers (chapters 5 to 7): command loss, the lever, activation, target, caps, ramp, torque limits, tightline,
pullback, the end of a frame, and the REFERENCE frame that a COMMAND frame becomes. -/

namespace Sys2Proof.Machine

/-! ### Command loss (R89) -/

/-- The loss count a marker leaves. -/
def lossNext (r : Group) : Nat := if r.note then r.loss else satInc 15 r.loss

/-- Whether a marker raises CMD_LOST_x (R89). -/
def lossDue (g : Axis) (s : State) : Bool :=
  decide (s.items.commandLossLimit ≤ lossNext (s.group g)) && !s.alu.raised (cCmdLost g)

/-- The last lever of a group becomes `v` in its record and in the MGU's copy (R90, R108). -/
def setLastLever (g : Axis) (v : Option Int) (s : State) : State :=
  (s.setGroup g { s.group g with lastLever := v }).withMgu { s.mgu with lastLevers := s.mgu.lastLevers.set g v }

/-- A shaper's marker work for one group (R89, R93). -/
def lossMarker (g : Axis) (s : State) : State :=
  let due := lossDue g s
  let r := s.group g
  let s := s.setGroup g { r with loss := lossNext r, note := false }
  if due then report [.level (cCmdLost g) true none] ((setLastLever g none s).stopGroup g) else s

/-! ### The lever (R88, R90) -/

/-- The lever after clamp and deadband (R90). -/
def leverOf (deadband : Int) (w : Word) : Int :=
  let v := clamp (-1000) 1000 (signed w)
  if mag v < deadband then 0 else v

/-- A delivered frame sets the note, clears the loss count and lowers CMD_LOST_x (R88). -/
def commandArrives (g : Axis) (s : State) : State :=
  let s := s.setGroup g { s.group g with note := true, loss := 0 }
  if s.alu.raised (cCmdLost g) then report [.level (cCmdLost g) false none] s else s

/-- The lever is taken: last lever, and neutral seen if it is neutral (R90). -/
def takeLever (g : Axis) (v : Int) (s : State) : State :=
  let s := setLastLever g (some v) s
  if v = 0 then s.setGroup g { s.group g with neutralSeen := true } else s

/-! ### Activation (R91, R139) -/

/-- The activation test of a HELD group for a lever outside the deadband (R91). -/
def activates (g : Axis) (v : Int) (s : State) : Bool :=
  let own : Bool := match g with
    | .walk => grantsStep s
    | _ => (s.dgu.values.get g.drive).form != .unresolved && s.wsq.state == .digging
  (s.group g).state == .held && v != 0 && s.mgu.mode == .run && own && (s.group g).neutralSeen
    && !stops (s.alu.severity.get g)

/-- A group that passes becomes ACTIVE, and a granted step puts the sequencer in STEPPING (R91, R139). -/
def activate (g : Axis) (v : Int) (s : State) : State :=
  let s := s.setGroup g { s.group g with state := .active, idle := 0 }
  match g with
  | .walk => beginStep v s
  | _ => s

def tryActivate (g : Axis) (v : Int) (s : State) : State := if activates g v s then activate g v s else s

/-! ### Curve and target (R96, R97, R140) -/

/-- Point k of a curve; point 0 is (0, 0) (R96). -/
def curveX (t : Table) (k : Nat) : Int := if k = 0 then 0 else t.int (2 * k - 1)
def curveY (t : Table) (k : Nat) : Int := if k = 0 then 0 else t.int (2 * k)

/-- The target magnitude for a lever magnitude (R97). -/
def curveMagnitude (t : Table) (m : Int) : Int :=
  match (List.range (t.num 0)).find? (fun k => decide (m ≤ curveX t (k + 1))) with
  | some k =>
    curveY t k + trunc ((curveY t (k + 1) - curveY t k) * (m - curveX t k)) (curveX t (k + 1) - curveX t k)
  | none => curveY t (t.num 0)

/-- The curve value of a lever, 0 while the table is not LIVE (R97). -/
def curveTarget (t : Table) (v : Int) : Int :=
  if v = 0 || !t.isLive then 0 else sign v * curveMagnitude t (mag v)

/-- What a WALK frame's lever does to a step in progress: the direction follows the lever; a neutral lever enters FINISHING,
which parks at once where the cam already stands in the park sector (R140, R142). -/
def walkLever (v : Int) (s : State) : State :=
  if (s.group .walk).state = .active ∧ s.wsq.state = .stepping then
    if v = 0 then
      let s := s.withWsq { s.wsq with state := .finishing }
      if s.inPark then settleMove (park s) else s
    else s.withWsq { s.wsq with dir := some (dirOf v) }
  else s

/-- The target of an ACTIVE group before its caps (R97, R140). -/
def target (g : Axis) (v : Int) (s : State) : Int :=
  match g, s.wsq.state with
  | .walk, .finishing =>
    match s.wsq.dir with
    | some .back => -s.items.finishSpeed
    | _ => s.items.finishSpeed
  | _, _ => curveTarget (s.table (curveTable g)) v

/-! ### Caps (R98, R99, R115, R119, R140) -/

/-- The caps of the two directions, positive and negative. -/
structure Caps where
  pos : Int
  neg : Int
  deriving DecidableEq, Repr

/-- A value clipped to the cap of its own direction (R98, R101). -/
def Caps.clip (c : Caps) (v : Int) : Int := clamp (-c.neg) c.pos v

/-- A cap and one that may not apply. -/
def least (c : Int) : Option Int → Int
  | none => c
  | some x => min c x

/-- A cap that applies under a test. -/
def capIf (test : Bool) (c : Int) : Option Int := if test then some c else none

/-- LIMIT_CREEP, while the group severity is LIMIT (R98). -/
def limitCap (g : Axis) (s : State) : Option Int := capIf (s.alu.severity.get g == some .limit) s.items.limitCreep

/-- Whether NO_DUMP_CAP applies to drag out (R99). -/
def noDump (s : State) : Bool :=
  s.profile .cls == 1 && hasDump s.tables.t6 && (s.swu.heldDoubt || !insideDump s.tables.t6 s.swu.heldHr)

def hoistCaps (s : State) : Caps :=
  { pos := least (least (s.profile .hoistUp) (limitCap .hoist s)) (capIf (s.dgu.image.inputs.getLsbD 0) 0)
    neg := least (s.profile .hoistDown) (limitCap .hoist s) }

def dragCaps (s : State) : Caps :=
  { pos := least (least (s.profile .dragIn) (limitCap .drag s)) (capIf (s.dgu.image.inputs.getLsbD 1) 0)
    neg := least (least (s.profile .dragOut) (limitCap .drag s)) (capIf (noDump s) s.items.noDumpCap) }

/-- The swing cap before windows, Vz (R115). -/
def swingVz (s : State) : Int :=
  least (least (s.profile .swingCap) (limitCap .swing s)) (capIf (!s.swu.heldHeading) s.items.headingCreep)

/-- The caps the windows give at a SWING frame (R115 to R119). -/
def swingWindows (s : State) : List (Nat × Option Int × Option Int) :=
  capsByWindow s.tables.t6 s.swu.heldDoubt (swingVz s) s.swu.heldHr

def swingCaps (s : State) : Caps :=
  if s.swu.heldDoubt then
    let c := min (swingVz s) s.items.doubtCreep
    ⟨c, c⟩
  else
    let w := leastCaps (swingWindows s)
    ⟨least (swingVz s) w.1, least (swingVz s) w.2⟩

/-- The walk cap in force, the same in both directions (R140). -/
def walkCap (s : State) : Int :=
  match s.wsq.heldSector, s.env.selected with
  | some k, some _ => least (sectorCap s.tables.t8 k) (limitCap .walk s)
  | _, _ => 0

def capsOf (g : Axis) (s : State) : Caps :=
  match g with
  | .hoist => hoistCaps s
  | .drag => dragCaps s
  | .swing => swingCaps s
  | .walk => ⟨walkCap s, walkCap s⟩

/-! ### The ramp (R100) -/

/-- Q after one frame's move toward the target: `accel` bounds a rise, `decel` a fall (R100). -/
def ramp (accel decel t q : Int) : Int :=
  if t = q then q
  else if q = 0 ∨ (sign t = sign q ∧ mag q < mag t) then q + sign t * min accel (mag (t - q))
  else if sign t = sign q then q - sign q * min decel (mag (q - t))
  else q - sign q * min decel (mag q)

/-! ### Torque limits (R102 to R104, R127) -/

/-- The motoring and regeneration limits of a frame. -/
structure Limits where
  motoring : Int
  regen : Int
  deriving DecidableEq, Repr

/-- The regeneration limit sent, by the group's regeneration flag (R102). -/
def withRegen (flag : Bool) (motoring regen : Int) : Limits :=
  ⟨motoring, if flag then min motoring regen else regen⟩

/-- The sum of pulling torques against the tightline limit (R103). -/
def pullSum (s : State) : Int := max 0 s.dgu.values.hoist.torque + max 0 s.dgu.values.drag.torque

/-- Whether the tightline reduction is active for a digging reference (R103). -/
def tightlineActive (s : State) : Bool := s.profile .tightline != 0 && decide (s.profile .tightline < pullSum s)

/-- The drag motoring limit after the tightline reduction (R103). -/
def tightlineLimit (s : State) (base : Int) : Int :=
  if tightlineActive s then
    max (min base s.items.tightlineFloor) (base - (pullSum s - s.profile .tightline))
  else base

/-- The limits of a digging, hoist, swing or walk frame in ACTIVE or STOPPING (R102, R103, R127; assumption 12 for WALK). -/
def limitsOf (g : Axis) (s : State) : Limits :=
  let v := s.dgu.values
  match g with
  | .hoist => withRegen v.hoist.regen (scaled (s.profile .hoistMotoring) v.hoist) (scaled (s.profile .hoistRegen) v.hoist)
  | .drag =>
    withRegen v.drag.regen (tightlineLimit s (scaled (s.profile .dragMotoring) v.drag)) (scaled (s.profile .dragRegen) v.drag)
  | .swing => ⟨swingLimitSent s, swingLimitSent s⟩
  | .walk => withRegen v.drag.regen (scaled (s.profile .dragMotoring) v.drag) (scaled (s.profile .dragRegen) v.drag)

/-- The speed sent under a form other than FULL (R104). -/
def pullback (gain motoring : Int) (v : GroupValues) (q : Int) : Int :=
  if v.form = .full then q
  else q - sign q * min (mag q) (trunc (max 0 (mag v.torque - motoring) * gain) 1000)

/-- The speed sent by a group's own frame: WALK has no pullback of its own (R104). -/
def speedSent (g : Axis) (s : State) (l : Limits) (q : Int) : Int :=
  match g with
  | .walk => q
  | _ => pullback s.items.pullbackGain l.motoring (s.dgu.values.get g.drive) q

/-! ### The content of a frame (R105 to R107, R141) -/

/-- Enable false, speed and limits 0; the form is written in every state (R106). -/
def Reference.disabled (f : Form) : Reference := ⟨false, 0, 0, 0, f⟩

def formOf (g : Axis) (s : State) : Form := (s.dgu.values.get g.drive).form

/-- The reference of a group that follows or stops, with the ramp value `q` (R106). -/
def liveReference (g : Axis) (s : State) (q : Int) : Reference :=
  let l := limitsOf g s
  ⟨true, speedSent g s l q, l.motoring, l.regen, formOf g s⟩

/-- Whether a DRAG frame carries the walk reference (R107). -/
def carriesWalk : SeqState → Bool
  | .closingWalk | .walkReady | .stepping | .finishing | .openingWalk => true
  | .unsettled | .digging | .openingDrag | .closingDrag | .transferFault => false

/-- Whether a group is ACTIVE or STOPPING. -/
def Group.moving (r : Group) : Bool := r.state == .active || r.state == .stopping

/-- The walk reference a DRAG frame carries (R141). -/
def walkReference (s : State) : Reference :=
  let v := s.dgu.values.drag
  if s.mgu.mode = .run ∧ (s.group .walk).moving then
    let l := limitsOf .walk s
    let q := (Caps.mk (walkCap s) (walkCap s)).clip (s.group .walk).q
    ⟨true, pullback s.items.pullbackGain l.motoring v q, l.motoring, l.regen, v.form⟩
  else .disabled v.form

def Form.code : Form → Nat
  | .full => 0 | .plain => 1 | .unresolved => 2

def Contactor.code : Contactor → Nat
  | .keep => 0 | .none => 1 | .drag => 2 | .walk => 3

/-- The words of a REFERENCE frame (R105, chapter 12.3). -/
def referenceWords (g : Axis) (r : Reference) (s : State) : List Word :=
  let command : Contactor := match g with
    | .drag => s.wsq.command
    | _ => .keep
  let tail : Nat × Word × Word := match g with
    | .walk => (s.wsq.state.code, wordOf s.wsq.steps, natWord (flag s.wsq.offPark))
    | _ => (255, 0, 0)
  [packBytes g.code (flag r.enable), wordOf r.speed, wordOf r.motoring, wordOf r.regen,
    packBytes r.form.code command.code, packBytes s.lpu.ownAddress tail.1, natWord s.lpu.lastCycle, tail.2.1, tail.2.2]

/-- The REFERENCE frame that takes a COMMAND frame's place (R105). -/
def referenceFrame (g : Axis) (r : Reference) (s : State) : Bytes :=
  frame kindReference broadcast s.ownByte (wordsToBytes (referenceWords g r s))

/-! ### A frame through the pipeline (R88) -/

/-- What the pipeline leaves of a frame: the state before the sequencer reacts to it, and the reference to write. -/
structure Shaped where
  state : State
  ref : Reference

/-- The caps a frame forms, recorded by the SWU for a SWING frame; a frame in CUT forms none and keeps the recorded ones (R115).
While the held doubt is set a frame forms no window cap, so both directions are recorded as unrestricted (R119). R119 also says that
the field reports both directions unrestricted while the doubt is set: that the caps recorded before it stand until the next SWING
frame not in CUT is the model's choice (DESIGN CHOICE, assumption 35). -/
def recordCaps (g : Axis) (s : State) : State :=
  if g = .swing ∧ (s.group g).state ≠ .cut then
    let w := leastCaps (swingWindows s)
    s.withSwu { s.swu with capCw := w.1, capCcw := w.2 }
  else s

/-- SWING_AT_EDGE as a SWING frame reports it, and TIGHTLINE as a DRAG frame does (R103, R120). R88 gives these reports no place
among its steps: they reach the ALU after the rewrite, the model's choice (DESIGN CHOICE, assumption 33). -/
def frameReports (g : Axis) (s : State) : List Report :=
  match g with
  | .swing => if (s.group .swing).state = .cut then [] else [edgeReport (swingWindows s)]
  | .drag => [.level cTightline (s.group .drag).tightline none]
  | _ => []

/-- The ramp value an ACTIVE group's frame leaves (R97 to R101). -/
def activeQ (g : Axis) (v : Int) (s : State) : Int :=
  let it := s.items.groups.get g
  let c := capsOf g s
  c.clip (ramp it.accel it.decel (c.clip (target g v s)) (s.group g).q)

/-- The ramp value a STOPPING group's frame leaves: 0 at once while the part is not in RUN (R94). -/
def stoppingQ (g : Axis) (s : State) : Int :=
  let stop := (s.items.groups.get g).stop
  if s.mgu.mode = .run then (capsOf g s).clip (ramp stop stop 0 (s.group g).q) else 0

/-- The idle count after an ACTIVE frame (R92). -/
def idleNext (r : Group) (v q : Int) : Nat := if v = 0 ∧ q = 0 then satInc 255 r.idle else 0

/-- The tightline field a DRAG frame leaves; the other groups keep theirs, which is never set (R103). -/
def tightlineField (g : Axis) (s : State) : Bool :=
  match g with
  | .drag => (s.group .drag).moving && s.mgu.mode == .run && tightlineActive s
  | _ => (s.group g).tightline

/-- The record a STOPPING group's frame leaves: HELD in the frame in which Q is 0 after the ramp and clip (R94). -/
def stopFrame (g : Axis) (s : State) : Group :=
  let q := stoppingQ g s
  if q = 0 then (s.group g).hold else { s.group g with q := q }

/-- The record an ACTIVE or STOPPING frame leaves but for its last reference (R92, R94). -/
def endFrame (g : Axis) (v : Int) (s : State) : Group :=
  let r := s.group g
  let left := match r.state with
    | .active =>
      let q := activeQ g v s
      let n := idleNext r v q
      if (s.items.groups.get g).brakeDelay ≤ n then r.hold else { r with q := q, idle := n }
    | .stopping => stopFrame g s
    | .held | .cut => r
  { left with tightline := tightlineField g s }

/-- The reference a frame carries, from the record it leaves (R106). -/
def frameReference (g : Axis) (r : Group) (s : State) : Reference :=
  if s.mgu.mode = .run ∧ r.moving then liveReference g s r.q else .disabled (formOf g s)

/-- The rest of the pipeline once the lever has been taken: caps, ramp, limits, end of frame and rewrite (R88). -/
def shapeRest (g : Axis) (v : Int) (s : State) : Shaped :=
  let s := recordCaps g s
  let r := endFrame g v s
  let ref := frameReference g r s
  ⟨s.setGroup g { r with lastRef := ref }, ref⟩

/-- A frame of a group's own reference. -/
def shapeOwn (g : Axis) (v : Int) (s : State) : Shaped :=
  let s := tryActivate g v s
  let s := match g with
    | .walk => walkLever v s
    | .swing => glideSwing s
    | _ => s
  shapeRest g v s

/-- The DRAG record after a frame that carries the walk reference, but for its last reference and tightline field: R107 takes it to be
HELD, and it then takes the lever alone; one still STOPPING is shaped as R94 says of each frame, with DRAG's own caps (DEDUCED,
assumption 34). -/
def walkFrame (s : State) : Group :=
  match (s.group .drag).state with
  | .stopping => stopFrame .drag s
  | .active | .held | .cut => s.group .drag

/-- A DRAG frame that carries the walk reference; the tightline reduction is not active (R94, R107, R141). -/
def shapeWalk (s : State) : Shaped :=
  let ref := walkReference s
  ⟨s.setGroup .drag { walkFrame s with lastRef := ref, tightline := false }, ref⟩

/-- The lever of a frame (R90). -/
def frameLever (g : Axis) (lever : Word) (s : State) : Int := leverOf (s.items.groups.get g).deadband lever

/-- A COMMAND frame through its shaper, up to the rewrite (R88). -/
def shape (g : Axis) (lever : Word) (s : State) : Shaped :=
  let v := frameLever g lever s
  let s := takeLever g v (commandArrives g s)
  if g = .drag ∧ carriesWalk s.wsq.state then shapeWalk s else shapeOwn g v s

/-- A COMMAND frame of a group: shaped, the REFERENCE frame written, the conditions reported, the sequencer told, and the
rewritten frame offered to the queue (R88, R105, R108, R169; assumption 13). The report comes after the words are formed, the
model's choice (DESIGN CHOICE, assumption 33): where T10 makes TIGHTLINE or SWING_AT_EDGE a TRIP, the frame that raised it still
carries the enable of before the part entered HALTED. -/
def commandGroup (g : Axis) (lever : Word) (s : State) : State :=
  let o := shape g lever s
  let bs := referenceFrame g o.ref o.state
  offerForwarded bs (report (frameReports g o.state) o.state)

/-- Whether a frame brings an ACTIVE group's idle count to BRAKE_DELAY (R92): the group is ACTIVE when it arrives and HELD by
the pipeline's own end of frame. -/
def brakeDelayDue (g : Axis) (lever : Word) (s : State) : Bool :=
  let v := frameLever g lever s
  let s1 := takeLever g v (commandArrives g s)
  let s2 := match g with
    | .walk => walkLever v s1
    | _ => s1
  !(g == .drag && carriesWalk s1.wsq.state) && (s2.group g).state == .active
    && decide ((s.items.groups.get g).brakeDelay ≤ idleNext (s2.group g) v (activeQ g v s2))

end Sys2Proof.Machine
end

