-- ==== Sys2Proof/Machine/StateFrame.lean ====
section
/-! DEFINITION. The STATE frame (R192, chapter 12.4): the fixed part, the seven pages and the packed words, which the read-only
items share. -/

namespace Sys2Proof.Machine

/-! ### Packing -/

/-- Fields packed from bit 15 downward, each a value and its width. -/
def packFields (fs : List (Nat × Nat)) : Word := natWord (fs.foldl (fun acc f => acc * 2 ^ f.2 + f.1 % 2 ^ f.2) 0)

/-- A word field that may be absent (chapter 12.4). -/
def optWord : Option Int → Word
  | some v => wordOf v
  | none => absentWord

def optNatWord : Option Nat → Word
  | some v => natWord v
  | none => absentWord

/-- A byte field that may be absent. -/
def optByte : Option Nat → Nat
  | some v => v
  | none => 255

/-! ### Codes (chapter 12.4) -/

def Mode.code : Mode → Nat
  | .standby => 0 | .run => 1 | .halted => 2

def Selection.code : Selection → Nat
  | .none => 0 | .cell => 1 | .doubtful => 2

def ImageState.code : ImageState → Nat
  | .unloaded => 0 | .fresh => 1 | .stale => 2

def TableState.code : TableState → Nat
  | .empty => 0 | .edit => 1 | .live => 2

def Summary.code : Summary → Nat
  | .drag => 0 | .walk => 1 | .none => 2 | .incomplete => 3 | .mixed => 4 | .conflict => 5

def Brake.code : Brake → Nat
  | .unknown => 0 | .good => 1 | .worn => 2 | .failed => 3

def GroupState.code : GroupState → Nat
  | .held => 0 | .active => 1 | .stopping => 2 | .cut => 3

def Feedback.code : Feedback → Nat
  | .none => 0 | .drag => 1 | .walk => 2 | .both => 3

def LearnState.code : LearnState → Nat
  | .idle => 0 | .waitingIndex => 1 | .gathering => 2

def dirCode : Option CrossDir → Nat
  | none => 0 | some .cw => 1 | some .ccw => 2

def stepCode : Option StepDir → Nat
  | none => 0 | some .forward => 1 | some .back => 2

/-- The channel nibble: FAULT is 3 + the cause detail. -/
def channelNibble (c : Channel) : Nat :=
  match c.state with
  | .unlocked => 0
  | .acquire => 1
  | .tracking => 2
  | .fault => 3 + (c.cause.map Cause.code).getD 0

/-! ### Packed words -/

/-- The group word; a member that is not configured reads ABSENT. -/
def groupWord (v : GroupValues) (ms : List Member) : Word :=
  let p (i : Nat) : Nat := ((ms[i]?).map (fun m => m.presence.code)).getD 0
  packFields [(v.form.code, 2), (v.ready, 3), (v.configured, 3), (p 0, 2), (p 1, 2), (p 2, 2), (p 3, 2)]

/-- The shaper word, with the form the shaper holds (assumption 24); bits 9 to 4, which chapter 12.4 does not name, are 0 (DESIGN
CHOICE, assumption 30). -/
def shaperWord (g : Axis) (s : State) : Word :=
  let r := s.group g
  packFields [(r.state.code, 2), ((formOf g s).code, 2), (flag r.neutralSeen, 1), (flag r.tightline, 1), (0, 6), (r.loss, 4)]

def wsqWord (w : Wsq) : Word :=
  packFields [(flag w.offPark, 1), (flag w.returnPending, 1), (stepCode w.dir, 2), (w.left.code, 2), (w.right.code, 2),
    (w.transfer, 8)]

/-- Word 3: the crossing marks, four bits each. -/
def marksWord (u : Swu) : Word :=
  let one (k : Nat) : List (Nat × Nat) :=
    let m := u.marks.getD k .reset
    [(flag m.latched, 1), (flag m.pulse, 1), (dirCode m.dir, 2)]
  packFields (one 0 ++ one 1 ++ one 2 ++ one 3)

/-- The inside set, window k in bit 15 − k; bits 7 to 0, which chapter 12.4 does not name, are 0 (DESIGN CHOICE, assumption 30). -/
def insideWord (u : Swu) : Word :=
  packFields ((List.range 8).map (fun k => (flag (u.inside.contains k), 1)) ++ [(0, 8)])

/-- The brake states in bits 11 to 6; bits 5 to 0, which chapter 12.4 does not name, are 0 (DESIGN CHOICE, assumption 30). -/
def brakeFields (b : PerDrive Brake) : List (Nat × Nat) := [(b.hoist.code, 2), (b.drag.code, 2), (b.swing.code, 2), (0, 6)]

/-- Words 14 and 15: the table states. -/
def tableWords (t : Tables) : List Word :=
  [packFields ([t.t0, t.t1, t.t2, t.t3, t.t4, t.t5, t.t6, t.t7].map (fun x => (x.state.code, 2))),
    packFields ([t.t8, t.t9, t.t10].map (fun x => (x.state.code, 2)) ++ [(0, 10)])]

def pageNumber (s : State) : Nat := s.lpu.lastCycle % 7

def severityByte (s : State) (g : Axis) : Nat := optByte ((s.alu.severity.get g).map Severity.code)

/-- Words 4 to 13: the alarm digest (R164), with the page number in the last. -/
def digestWords (s : State) : List Word :=
  let t10 := s.tables.t10
  let a := s.alu
  let n (v : Severity) : Nat := a.countOf t10 v
  let top := a.top t10
  let topWord (f : Entry → Word) : Word := (top.map f).getD absentWord
  [packBytes a.list.length a.newCount, packBytes a.unlistedCount (optByte (top.map Entry.cond)),
    topWord (fun e => natWord (effSeverity t10 e.cond).code), topWord (fun e => natWord (a.cond e.cond).listing.code),
    topWord (fun e => optNatWord (a.cond e.cond).detail),
    packBytes (n .note) (n .warn), packBytes (n .limit) (n .stop), packBytes (n .trip) (severityByte s .hoist),
    packBytes (severityByte s .drag) (severityByte s .swing), packBytes (severityByte s .walk) (pageNumber s)]

/-- The fixed part, words 0 to 15. -/
def fixedWords (s : State) : List Word :=
  let d := s.pos.doubtful
  [natWord s.lpu.lastCycle,
    packFields [(s.mgu.mode.code, 2), (s.wsq.state.code, 4), (s.wsq.command.code, 2), (s.env.selection.code, 2),
      (flag d.hoist, 1), (flag d.drag, 1), (flag d.swing, 1), (flag s.pos.headingConfirmed, 1),
      (s.dgu.image.state.code, 2)],
    natWord s.lpu.discard, marksWord s.swu] ++ digestWords s ++ tableWords s.tables

/-- The five words of a shaper in its page. -/
def shaperWords (g : Axis) (s : State) : List Word :=
  let r := s.group g
  [shaperWord g s, wordOf r.q, wordOf r.lastRef.speed, wordOf r.lastRef.motoring, wordOf r.lastRef.regen]

def inputWord (s : State) (k : Nat) : Word := BitVec.ofNat 16 (s.dgu.image.inputs.toNat >>> (16 * k))

/-- The class of the selected profile, 255 when NONE. -/
def classByte (s : State) : Nat := if s.env.selected.isSome then (s.profile .cls).toNat else 255

/-- The inside set and the window caps, as page 3 and WINDOW_STATE carry them; the caps are those last recorded (DESIGN CHOICE,
assumption 35, at `recordCaps`). -/
def windowWords (u : Swu) : List Word := [insideWord u, optWord u.capCw, optWord u.capCcw]

def swingLimitWords (u : Swu) : List Word := [wordOf (swingLoad u), optWord u.computed, optWord u.applied]

/-- Words 16 to 23: the page of a number, 0 to 6. -/
def pageWords (s : State) : Nat → List Word
  | 0 =>
    [wordOf s.pos.payout.hoist, wordOf s.pos.payout.drag, wordOf s.pos.house, wordOf s.pos.relative, wordOf s.pos.cam,
      packFields (Axis.all.map (fun a => (channelNibble (s.chan a), 4))),
      packBytes (optByte s.env.band.hoist) (optByte s.env.band.drag),
      packBytes (optByte s.env.cellProfile) (optByte s.env.selected)]
  | 1 =>
    let v := s.dgu.values
    let m := s.dgu.members
    [groupWord v.hoist m.hoist, wordOf v.hoist.torque, wordOf v.hoist.speed, groupWord v.drag m.drag, wordOf v.drag.torque,
      wordOf v.drag.speed, groupWord v.swing m.swing, wordOf v.swing.torque]
  | 2 =>
    [wordOf s.dgu.values.swing.speed, inputWord s 0, inputWord s 1,
      packFields ((s.dgu.summary.code, 4) :: brakeFields s.dgu.brakes),
      packBytes (classByte s) (optByte s.wsq.heldSector), wordOf s.wsq.steps, wsqWord s.wsq,
      packBytes s.wsq.mismatch s.wsq.disagree]
  | 3 => shaperWords .hoist s ++ windowWords s.swu
  | 4 => shaperWords .drag s ++ swingLimitWords s.swu
  | 5 => shaperWords .swing s ++ [0, 0, 0]
  | _ => shaperWords .walk s ++ [0, 0, 0]

/-- The 24 words of the STATE frame as it would be built now. -/
def stateWords (s : State) : List Word := fixedWords s ++ pageWords s (pageNumber s)

/-- The STATE frame: destination 63, source the own address (R171). -/
def stateFrame (s : State) : Bytes := frame kindState broadcast s.ownByte (wordsToBytes (stateWords s))

/-- The STATE frame is offered to the queue; one that enters clears the PULSE flags (R123, R171). -/
def offerState (s : State) : State :=
  let s' := offerInserted (stateFrame s) s
  if insertedEnters s then s'.withSwu (clearPulses s'.swu) else s'

end Sys2Proof.Machine
end

