-- ==== Sys2Proof/Machine/Items.lean ====
section
/-! DEFINITION. The item store as a station sees it: the item map (chapter 12.7), READ and WRITE with their tests (R185, R186), and
what a write of each item does (R3, R10, R11, R21, R23, R31, R33, R40, R48, R64, R78, R87, R110, R123, R130, R158, R174, R175). -/

namespace Sys2Proof.Machine

/-! ### Responses (R184) -/

/-- The status codes, numbered in the order of R184. -/
inductive Status where
  | ok | okClamped | refusedMode | noItem | readOnly | notOpen | outOfRange | invalid | notReady
  deriving DecidableEq, Repr

def Status.code : Status → Nat
  | .ok => 0 | .okClamped => 1 | .refusedMode => 2 | .noItem => 3 | .readOnly => 4 | .notOpen => 5 | .outOfRange => 6
  | .invalid => 7 | .notReady => 8

/-- What serving a request leaves: the state, and the status and values of its response. -/
structure Reply where
  state : State
  status : Status
  values : List Word

/-- A refused request returns count 0 and changes nothing (R184). -/
def refuse (s : State) (status : Status) : Reply := ⟨s, status, []⟩

/-- OK, or OK_CLAMPED where a value, count or word was adjusted. -/
def okIf (clamped : Bool) : Status := if clamped then .okClamped else .ok

/-! ### The item map (chapter 12.7) -/

/-- What an item's index names. -/
inductive Scope where
  | part | channel | group | drive | member | condition
  deriving DecidableEq, Repr

/-- Class of an item. -/
inductive ItemClass where
  | readOnly | setup | run
  deriving DecidableEq, Repr

/-- One row of the map: the numbers from `first` to `last`. -/
structure ItemRow where
  first : Nat
  last : Nat
  scope : Scope
  cls : ItemClass
  deriving DecidableEq, Repr

def itemRows : List ItemRow :=
  [⟨1, 5, .part, .readOnly⟩, ⟨6, 6, .part, .run⟩, ⟨7, 7, .part, .setup⟩, ⟨8, 8, .part, .run⟩, ⟨10, 27, .channel, .setup⟩,
    ⟨28, 28, .part, .setup⟩, ⟨30, 38, .channel, .readOnly⟩, ⟨40, 45, .part, .setup⟩, ⟨46, 48, .part, .run⟩,
    ⟨50, 59, .part, .readOnly⟩, ⟨60, 62, .part, .setup⟩, ⟨63, 63, .member, .readOnly⟩, ⟨64, 68, .drive, .readOnly⟩,
    ⟨69, 71, .part, .readOnly⟩, ⟨72, 72, .part, .setup⟩, ⟨73, 77, .part, .readOnly⟩, ⟨80, 84, .group, .setup⟩,
    ⟨85, 85, .part, .setup⟩, ⟨86, 86, .part, .run⟩, ⟨87, 89, .part, .setup⟩, ⟨90, 91, .group, .readOnly⟩,
    ⟨92, 96, .part, .run⟩, ⟨97, 100, .part, .readOnly⟩, ⟨101, 103, .part, .setup⟩, ⟨104, 107, .part, .readOnly⟩,
    ⟨108, 108, .condition, .readOnly⟩, ⟨109, 111, .part, .readOnly⟩]

/-- The row of an item number; numbers missing from the map name no item. -/
def itemRow (n : Nat) : Option ItemRow := itemRows.find? (fun r => decide (r.first ≤ n) && decide (n ≤ r.last))

/-- The words an item occupies. -/
def itemSize : Nat → Nat
  | 5 | 52 | 53 | 106 | 108 | 110 => 2
  | 70 | 90 | 100 | 104 => 3
  | 91 => 4
  | 63 => 7
  | 109 => 10
  | _ => 1

/-- Whether an index is inside an item's instances; an item of the part ignores it (R186). -/
def hasInstance (sc : Scope) (index : Nat) : Bool :=
  match sc with
  | .part => true
  | .channel | .group => decide (index < 4)
  | .drive => decide (index < 3)
  | .member => decide (index < 12)
  | .condition => decide (index < 60)

/-- The row of the item and instance a request names, if they name one (R186). -/
def namedItem (n index : Nat) : Option ItemRow :=
  match itemRow n with
  | some r => if hasInstance r.scope index then some r else none
  | none => none

/-- The item numbers in ascending order. -/
def itemNumbers : List Nat := (List.range 112).filter (fun n => (itemRow n).isSome)

/-! ### Reading (R186) -/

def NoiseMode.code : NoiseMode → Nat
  | .one => 0 | .two => 1

def CorrectionMode.code : CorrectionMode → Nat
  | .none => 0 | .fixed => 1 | .learnOnce => 2 | .learnEachRev => 3

def GainMode.code : GainMode → Nat
  | .scheduled => 0 | .fixed => 1

def RecoveryGain.code : RecoveryGain → Nat
  | .high => 0 | .keep => 1

def AckMethod.code : AckMethod → Nat
  | .operator => 0 | .read => 1 | .both => 2

def AdaptMode.code : AdaptMode → Nat
  | .off => 0 | .light => 1 | .medium => 2 | .strong => 3

/-- The writable items of a channel, 10 to 27 (R3). -/
def channelItemWord (it : ChannelItems) : Nat → Word
  | 10 => natWord it.sampleSource
  | 11 => wordOf it.noiseThreshold
  | 12 => natWord it.noiseMode.code
  | 13 => natWord it.correctionMode.code
  | 14 => wordOf it.fixedSin
  | 15 => wordOf it.fixedCos
  | 16 => wordOf it.fixedGain
  | 17 => wordOf it.offsetLimit
  | 18 => wordOf it.gainLimit
  | 19 => wordOf it.lossLevel
  | 20 => wordOf it.speedLimit
  | 21 => natWord it.gainMode.code
  | 22 => natWord it.gainLow
  | 23 => natWord it.gainHigh
  | 24 => wordOf it.bandUp
  | 25 => wordOf it.bandDown
  | 26 => natWord it.recoveryGain.code
  | _ => natWord it.staleLimit

/-- The read-only items of a channel, 30 to 38; WALK keeps no turn count (R2). -/
def channelStateWord (a : Axis) (c : Channel) : Nat → Word
  | 30 => natWord (channelNibble c)
  | 31 => wordOf c.phase
  | 32 => wordOf c.speed
  | 33 => natWord c.gain
  | 34 => if a = .walk then absentWord else wordOf c.turns
  | 35 => wordOf c.used.so
  | 36 => wordOf c.used.co
  | 37 => wordOf c.used.g
  | _ => natWord c.learn.code

/-- A signed quantity of two words, the high one first. -/
def doubleWord (v : Int) : List Word := [wordOf (floorDiv v 65536), wordOf v]

/-- MEMBER_STATE of one member; one that is not configured reads ABSENT with its other fields absent. The ability word is laid out as
DRIVE_STATUS word 4 and the feedback word coded as its word 5, since chapter 12.7 gives neither a layout and chapter 3 lists the
feedback values in two orders: the model's choice (assumption 16). -/
def memberWords (m : Option Member) : List Word :=
  match m with
  | none => [natWord Presence.absent.code, absentWord, absentWord, absentWord, absentWord, absentWord, absentWord]
  | some m =>
    [natWord m.presence.code, optNatWord (m.ready.map flag), optNatWord m.fault, optWord m.torque, optWord m.speed,
      optNatWord (m.ability.map (fun a => flag a.full + 2 * flag a.plain + 4 * flag a.regen)),
      optNatWord (m.feedback.map Feedback.code)]

/-- CONDITION_STATE of one condition (R165, chapter 12.7). Chapter 12.7 gives bit 11 and bits 5 to 0 of the first word no value: they
read 0, the model's choice (DESIGN CHOICE, assumption 30). -/
def conditionWords (s : State) (n : Nat) : List Word :=
  let c := s.alu.cond n
  let t10 := s.tables.t10
  [packFields [(flag c.raised, 1), (c.listing.code, 3), (0, 1), ((effSeverity t10 n).code, 3), (flag (effMask t10 n), 1),
      (flag c.forced, 1), (0, 6)], optNatWord c.detail]

/-- A group's own items, 80 to 84 (R87). -/
def groupItemWord (it : GroupItems) : Nat → Word
  | 80 => wordOf it.deadband
  | 81 => wordOf it.accel
  | 82 => wordOf it.decel
  | 83 => wordOf it.stop
  | _ => natWord it.brakeDelay

/-- The items of a drive group, 64 to 68. -/
def driveWord (v : GroupValues) : Nat → Word
  | 64 => natWord v.form.code
  | 65 => packBytes v.ready v.configured
  | 66 => wordOf v.torque
  | 67 => wordOf v.speed
  | _ => natWord (flag v.regen)

/-- GROUP_STATE and LAST_REFERENCE of one group. -/
def shaperItemWords (g : Axis) (s : State) (n : Nat) : List Word :=
  let r := s.group g
  if n = 90 then [shaperWord g s, wordOf r.q, natWord r.idle]
  else [packBytes (flag r.lastRef.enable) r.lastRef.form.code, wordOf r.lastRef.speed, wordOf r.lastRef.motoring,
    wordOf r.lastRef.regen]

/-- PROFILE_SELECTION: an item's codes follow the order in which its chapter lists the values (R186), here that of R75; the STATE
frame has codes of its own (`Selection.code`). -/
def Selection.itemCode : Selection → Nat
  | .cell => 0 | .doubtful => 1 | .none => 2

/-- FEEDBACK_SUMMARY: the codes in the order of R63 (R186); the STATE frame has codes of its own (`Summary.code`). -/
def Summary.itemCode : Summary → Nat
  | .conflict => 0 | .incomplete => 1 | .drag => 2 | .walk => 3 | .none => 4 | .mixed => 5

/-- The items of the part. An enumerated item reads its codes in the order of its chapter (R186). PART_MODE (R179), INPUT_IMAGE's state
(R66) and SEQUENCER_STATE (R129) have there the order that the STATE frame's codes have too. The bits of DOUBT_FLAGS and
BRAKE_STATES that chapter 12.7 does not name read 0, the model's choice (DESIGN CHOICE, assumption 30). -/
def partWords (s : State) : Nat → List Word
  | 1 => [natWord s.lpu.ownAddress]
  | 2 => [natWord s.lpu.lastCycle]
  | 3 => [natWord s.lpu.queue.length]
  | 4 => [natWord s.mgu.mode.code]
  | 5 => tableWords s.tables
  | 6 => [natWord s.lpu.discard]
  | 7 => [natWord s.items.silenceTime]
  | 8 => [natWord s.items.ackMethod.code]
  | 28 => [wordOf s.items.swingGear]
  | 40 => [wordOf s.items.ropeK.hoist]
  | 41 => [wordOf s.items.ropeK.drag]
  | 42 => [wordOf s.items.markPayout.hoist]
  | 43 => [wordOf s.items.markPayout.drag]
  | 44 => [wordOf s.items.markAngle]
  | 45 => [wordOf s.items.camZero]
  | 46 => [wordOf s.items.pitHeading]
  | 47 => [wordOf s.items.doubtCreep]
  | 48 => [wordOf s.items.headingCreep]
  | 50 => [wordOf s.pos.payout.hoist]
  | 51 => [wordOf s.pos.payout.drag]
  | 52 => doubleWord s.pos.payoutZero.hoist
  | 53 => doubleWord s.pos.payoutZero.drag
  | 54 => [wordOf s.pos.house]
  | 55 => [wordOf s.pos.houseZero]
  | 56 => [wordOf s.pos.relative]
  | 57 => [wordOf s.pos.cam]
  | 58 => [packFields [(flag s.pos.doubtful.hoist, 1), (flag s.pos.doubtful.drag, 1), (flag s.pos.doubtful.swing, 1)]]
  | 59 => [natWord (flag s.pos.headingConfirmed)]
  | 60 => [natWord s.items.memberSilenceLimit]
  | 61 => [natWord s.items.inputNode]
  | 62 => [natWord s.items.discreteStaleLimit]
  | 69 => [natWord s.dgu.summary.itemCode]
  | 70 => [inputWord s 0, inputWord s 1, natWord s.dgu.image.state.code]
  | 71 => [packFields ((0, 4) :: brakeFields s.dgu.brakes)]
  | 72 => [wordOf s.items.hysteresis]
  | 73 => [optNatWord s.env.band.hoist]
  | 74 => [optNatWord s.env.band.drag]
  | 75 => [optNatWord s.env.cellProfile]
  | 76 => [optNatWord s.env.selected]
  | 77 => [natWord s.env.selection.itemCode]
  | 85 => [natWord s.items.commandLossLimit]
  | 86 => [wordOf s.items.limitCreep]
  | 87 => [wordOf s.items.noDumpCap]
  | 88 => [wordOf s.items.tightlineFloor]
  | 89 => [wordOf s.items.pullbackGain]
  | 92 => [natWord s.items.adaptMode.code]
  | 93 => [wordOf s.items.adaptBase]
  | 94 => [wordOf s.items.adaptFloor]
  | 95 => [wordOf s.items.adaptStep]
  | 96 => [marksWord s.swu]
  | 97 => [wordOf (swingLoad s.swu)]
  | 98 => [optWord s.swu.computed]
  | 99 => [optWord s.swu.applied]
  | 100 => windowWords s.swu
  | 101 => [natWord s.items.transferLimit]
  | 102 => [wordOf s.items.finishSpeed]
  | 103 => [natWord s.items.shoeLimit]
  | 104 => [packBytes s.wsq.state.code s.wsq.command.code, natWord s.wsq.transfer, wsqWord s.wsq]
  | 105 => [wordOf s.wsq.steps]
  | 106 => [wsqWord s.wsq, packBytes s.wsq.mismatch s.wsq.disagree]
  | 107 => [optNatWord s.wsq.heldSector]
  | 109 => digestWords s
  | 110 => [packBytes (severityByte s .hoist) (severityByte s .drag), packBytes (severityByte s .swing) (severityByte s .walk)]
  | 111 => [natWord s.alu.seq]
  | _ => []

/-- The words of an item's instance; an instance the item does not have reads as FFFFh (R186). -/
def itemWords (n index : Nat) (s : State) : List Word :=
  match itemRow n with
  | none => []
  | some r =>
    match r.scope with
    | .part => partWords s n
    | .channel =>
      match Axis.ofCode index with
      | some a => if n < 30 then [channelItemWord (s.items.channels.get a) n] else [channelStateWord a (s.chan a) n]
      | none => List.replicate (itemSize n) absentWord
    | .group =>
      match Axis.ofCode index with
      | some a => if n < 85 then [groupItemWord (s.items.groups.get a) n] else shaperItemWords a s n
      | none => List.replicate (itemSize n) absentWord
    | .drive =>
      match Drive.ofCode index with
      | some d => [driveWord (s.dgu.values.get d) n]
      | none => List.replicate (itemSize n) absentWord
    | .member =>
      match Drive.ofCode (index / 4) with
      | some d => memberWords ((s.dgu.members.get d)[index % 4]?)
      | none => List.replicate (itemSize n) absentWord
    | .condition => if index < 60 then conditionWords s index else List.replicate (itemSize n) absentWord

/-- The item numbers from `n` onward. -/
def itemsFrom (n : Nat) : List Nat := itemNumbers.filter (fun k => decide (n ≤ k))

/-- The words from an item to the end of the map. -/
def wordsFrom (n : Nat) : Nat := ((itemsFrom n).map itemSize).sum

/-- Whether a range of words from item `n` includes DISCARD_COUNT, item 6 (R174). -/
def coversDiscard (n count : Nat) : Bool :=
  decide (n ≤ 6) && decide ((((itemsFrom n).filter (fun k => decide (k < 6))).map itemSize).sum < count)

/-- The count a READ serves: 0 is taken as 1, above 16 as 16 (R186). -/
def readCount (count : Byte) : Nat := clampNat 1 16 count.toNat

/-- A READ request (R186, R174). -/
def serveRead (item index : Word) (count : Byte) (s : State) : Reply :=
  let n := item.toNat
  let c := readCount count
  match namedItem n index.toNat with
  | none => refuse s .noItem
  | some _ =>
    if wordsFrom n < c then refuse s .outOfRange
    else
      let ws := ((itemsFrom n).flatMap (fun k => itemWords k index.toNat s)).take c
      let s' := if coversDiscard n c then s.withLpu { s.lpu with discard := 0 } else s
      ⟨s', okIf (c != count.toNat), ws⟩

/-! ### Writing (R186) -/

/-- A written value clamped into its range, and whether it had to be. -/
structure Clamped where
  value : Int
  adjusted : Bool
  deriving DecidableEq, Repr

def clampTo (lo hi v : Int) : Clamped := ⟨clamp lo hi v, clamp lo hi v != v⟩

/-- The values a NOISE_THRESHOLD may take (R3). -/
def noiseThresholds : List Int := [32, 64, 128, 256, 512, 1024, 2048]

/-- The nearest member of the set, ties to the larger (R3). -/
def nearestThreshold (v : Int) : Int :=
  noiseThresholds.foldl (fun best m => if mag (m - v) ≤ mag (best - v) then m else best) 32

/-- A written code: one above the highest is clamped to it (R186). -/
def clampCode (top : Nat) (w : Word) : Nat := min top w.toNat

def NoiseMode.ofCode : Nat → NoiseMode
  | 0 => .one | _ => .two

def CorrectionMode.ofCode : Nat → CorrectionMode
  | 0 => .none | 1 => .fixed | 2 => .learnOnce | _ => .learnEachRev

def GainMode.ofCode : Nat → GainMode
  | 0 => .scheduled | _ => .fixed

def RecoveryGain.ofCode : Nat → RecoveryGain
  | 0 => .high | _ => .keep

def AckMethod.ofCode : Nat → AckMethod
  | 0 => .operator | 1 => .read | _ => .both

def AdaptMode.ofCode : Nat → AdaptMode
  | 0 => .off | 1 => .light | 2 => .medium | _ => .strong

/-- What a write leaves: the state and whether the value was adjusted. -/
abbrev Written := State × Bool

/-- A channel's items replaced. -/
def setChannelItems (a : Axis) (it : ChannelItems) (s : State) : State :=
  s.withItems { s.items with channels := s.items.channels.set a it }

/-- A group's items replaced. -/
def setGroupItems (g : Axis) (it : GroupItems) (s : State) : State :=
  s.withItems { s.items with groups := s.items.groups.set g it }

/-- The fixed items and the values in use brought into the ranges of new limits (R11). -/
def applyLimits (a : Axis) (it : ChannelItems) (s : State) : State :=
  let k := clampCorrection it ⟨it.fixedSin, it.fixedCos, it.fixedGain⟩
  let c := s.chan a
  (setChannelItems a { it with fixedSin := k.so, fixedCos := k.co, fixedGain := k.g } s).setChan a
    { c with used := clampCorrection it c.used }

/-- A fixed item stored, and in FIXED mode put in use at once (R10). -/
def applyFixed (a : Axis) (it : ChannelItems) (s : State) : State :=
  let s := setChannelItems a it s
  if it.correctionMode = .fixed then s.setChan a { s.chan a with used := ⟨it.fixedSin, it.fixedCos, it.fixedGain⟩ } else s

/-- A speed limit stored: ω clamped at once, and OVERSPEED_x as it then stands (R21). R21 also says that in FAULT ω is held and
OVERSPEED_x keeps the raw state it had on entry: that the write decides in FAULT too is the model's choice (DESIGN CHOICE,
assumption 36). -/
def applySpeedLimit (a : Axis) (it : ChannelItems) (s : State) : State :=
  let c := clampSpeed it (s.chan a)
  report [.level (cOverspeed a) (mag c.speed == it.speedLimit) none] ((setChannelItems a it s).setChan a c)

/-- A gain item stored, and L brought into the new range (R23). -/
def applyGainLevels (a : Axis) (it : ChannelItems) (s : State) : State :=
  (setChannelItems a it s).setChan a (clampGainLevel it (s.chan a))

/-- A gain mode stored: FIXED clears the boost and sets L to GAIN_LOW (R23). -/
def applyGainMode (a : Axis) (it : ChannelItems) (s : State) : State :=
  let s := setChannelItems a it s
  match it.gainMode with
  | .fixed => s.setChan a { s.chan a with boost := false, gain := it.gainLow }
  | .scheduled => s

/-- A write of a channel item, 10 to 27. -/
def writeChannel (n : Nat) (a : Axis) (w : Word) (s : State) : Written :=
  let it := s.items.channels.get a
  let u := unsigned w
  let num (lo hi : Int) (f : Int → State) : Written :=
    let c := clampTo lo hi u
    (f c.value, c.adjusted)
  let code (top : Nat) (f : Nat → State) : Written := (f (clampCode top w), decide (top < w.toNat))
  let store (it' : ChannelItems) : State := setChannelItems a it' s
  match n with
  | 10 => num 0 31 (fun v => store { it with sampleSource := v.toNat })
  | 11 => (store { it with noiseThreshold := nearestThreshold u }, nearestThreshold u != u)
  | 12 => code 1 (fun k => store { it with noiseMode := .ofCode k })
  | 13 => code 3 (fun k =>
      let it' := { it with correctionMode := .ofCode k }
      (store it').setChan a (setCorrectionMode it' (s.chan a)))
  | 14 => (applyFixed a { it with fixedSin := clampOffset it (signed w) } s, clampOffset it (signed w) != signed w)
  | 15 => (applyFixed a { it with fixedCos := clampOffset it (signed w) } s, clampOffset it (signed w) != signed w)
  | 16 => (applyFixed a { it with fixedGain := clampGain it u } s, clampGain it u != u)
  | 17 => num 0 256 (fun v => applyLimits a { it with offsetLimit := v } s)
  | 18 => num 0 400 (fun v => applyLimits a { it with gainLimit := v } s)
  | 19 => num 64 1024 (fun v => store { it with lossLevel := v })
  | 20 => num 16 8192 (fun v => applySpeedLimit a { it with speedLimit := v } s)
  | 21 => code 1 (fun k => applyGainMode a { it with gainMode := .ofCode k } s)
  | 22 => num 0 (min 7 it.gainHigh) (fun v => applyGainLevels a { it with gainLow := v.toNat } s)
  | 23 => num it.gainLow 7 (fun v => applyGainLevels a { it with gainHigh := v.toNat } s)
  | 24 => num (max 1 (it.bandDown + 1)) 32768 (fun v => store { it with bandUp := v })
  | 25 => num 0 (min 32767 (it.bandUp - 1)) (fun v => store { it with bandDown := v })
  | 26 => code 1 (fun k => store { it with recoveryGain := .ofCode k })
  | _ => num 1 15 (fun v => store { it with staleLimit := v.toNat })

/-- A write of a group item, 80 to 84 (R87). -/
def writeGroup (n : Nat) (g : Axis) (w : Word) (s : State) : Written :=
  let it := s.items.groups.get g
  let num (lo hi : Int) (f : Int → GroupItems) : Written :=
    let c := clampTo lo hi (unsigned w)
    (setGroupItems g (f c.value) s, c.adjusted)
  match n with
  | 80 => num 0 200 (fun v => { it with deadband := v })
  | 81 => num 1 1000 (fun v => { it with accel := v })
  | 82 => num 1 1000 (fun v => { it with decel := v })
  | 83 => num 1 1000 (fun v => { it with stop := v })
  | _ => num 1 255 (fun v => { it with brakeDelay := v.toNat })

/-- A write of an item of the part. -/
def writePart (n : Nat) (w : Word) (s : State) : Written :=
  let it := s.items
  let num (lo hi : Int) (f : Int → State) : Written :=
    let c := clampTo lo hi (unsigned w)
    (f c.value, c.adjusted)
  let code (top : Nat) (f : Nat → Items) : Written := (s.withItems (f (clampCode top w)), decide (top < w.toNat))
  let store (lo hi : Int) (f : Int → Items) : Written := num lo hi (fun v => s.withItems (f v))
  match n with
  | 6 => (s.withLpu { s.lpu with discard := w.toNat }, false)
  | 7 => store 2 100 (fun v => { it with silenceTime := v.toNat })
  | 8 => code 2 (fun k => { it with ackMethod := .ofCode k })
  | 28 => num 1 65535 (fun v => setSwingGear v s)
  | 40 => num 1 65535 (fun v => setRopeK .hoist v s)
  | 41 => num 1 65535 (fun v => setRopeK .drag v s)
  | 42 => store 0 65000 (fun v => { it with markPayout := it.markPayout.set .hoist v })
  | 43 => store 0 65000 (fun v => { it with markPayout := it.markPayout.set .drag v })
  | 44 => store 0 35999 (fun v => { it with markAngle := v })
  | 45 => num 0 359 (fun v => setCamZero v s)
  | 46 => num 0 35999 (fun v => setPitHeading v s)
  | 47 => store 0 1000 (fun v => { it with doubtCreep := v })
  | 48 => store 0 1000 (fun v => { it with headingCreep := v })
  | 60 => store 1 15 (fun v => { it with memberSilenceLimit := v.toNat })
  | 61 => store 0 31 (fun v => { it with inputNode := v.toNat })
  | 62 => store 1 15 (fun v => { it with discreteStaleLimit := v.toNat })
  | 72 => store 0 2000 (fun v => { it with hysteresis := v })
  | 85 => store 1 15 (fun v => { it with commandLossLimit := v.toNat })
  | 86 => store 0 1000 (fun v => { it with limitCreep := v })
  | 87 => store 0 1000 (fun v => { it with noDumpCap := v })
  | 88 => store 0 2000 (fun v => { it with tightlineFloor := v })
  | 89 => store 0 1000 (fun v => { it with pullbackGain := v })
  | 92 => code 3 (fun k => { it with adaptMode := .ofCode k })
  | 93 => store 0 2000 (fun v => { it with adaptBase := v })
  | 94 => store 0 2000 (fun v => { it with adaptFloor := v })
  | 95 => store 1 100 (fun v => { it with adaptStep := v })
  | 96 => (s.withSwu { s.swu with marks := clearLatched s.tables.t7 w s.swu.marks }, false)
  | 101 => store 1 255 (fun v => { it with transferLimit := v.toNat })
  | 102 => store 1 1000 (fun v => { it with finishSpeed := v })
  | 103 => store 1 255 (fun v => { it with shoeLimit := v.toNat })
  | _ => (s, false)

/-- The effect of an accepted write. -/
def writeItem (sc : Scope) (n index : Nat) (w : Word) (s : State) : Written :=
  match sc with
  | .part => writePart n w s
  | .channel =>
    match Axis.ofCode index with
    | some a => writeChannel n a w s
    | none => (s, false)
  | .group =>
    match Axis.ofCode index with
    | some g => writeGroup n g w s
    | none => (s, false)
  | .drive | .member | .condition => (s, false)

/-- Whether the part mode refuses a write (R48, R185). -/
def writeRefused (n : Nat) (cls : ItemClass) (s : State) : Bool :=
  s.mgu.mode == .run && (match cls with
    | .setup => true
    | .run => n == 46 && (s.group .swing).state != .held
    | .readOnly => false)

/-- A WRITE request (R186): its tests in order, then its effect. Every writable item is one word. -/
def serveWrite (item index : Word) (values : List Word) (s : State) : Reply :=
  match namedItem item.toNat index.toNat with
  | none => refuse s .noItem
  | some r =>
    if r.cls = .readOnly then refuse s .readOnly
    else
      match values with
      | [w] =>
        if writeRefused item.toNat r.cls s then refuse s .refusedMode
        else
          let p := writeItem r.scope item.toNat index.toNat w s
          ⟨p.1, okIf p.2, []⟩
      | _ => refuse s .outOfRange

end Sys2Proof.Machine
end

