-- ==== Sys2Proof/Decode.lean ====
section
/-! DEFINITION. From bytes to commands: how the LPU classifies a frame received at port A (R168 to R170) and the MGU a request (R184,
R186, R193), the bytes of each frame command, and decodeTableWord, which the table's rows, giving no bits, leave empty. -/

namespace Sys2Proof

open Machine

/-- The rows of spec/opcode_table.json give no bits, so no word spells a command. -/
def decodeTableWord (_nbits _w : Nat) : Option Instr := none

/-! ### Classification at port A -/

/-- The items whose WRITE is a row of its own (chapter 12.7). -/
def specialItems : List Nat := [13, 14, 15, 16, 17, 18, 20, 21, 22, 23, 28, 40, 41, 45, 46, 96]

/-- A WRITE by its item: a row of its own, or WRITE (R186). -/
def classifyWrite (r : Req) (item index : Word) (values : List Word) : Instr :=
  match item.toNat with
  | 13 => .correctionMode r index values
  | 14 => .fixedItems r .sinOffset index values
  | 15 => .fixedItems r .cosOffset index values
  | 16 => .fixedItems r .gain index values
  | 17 => .offsetLimit r index values
  | 18 => .gainLimit r index values
  | 20 => .speedLimit r index values
  | 21 => .gainMode r index values
  | 22 => .gainLow r index values
  | 23 => .gainHigh r index values
  | 28 => .swingGear r values
  | 40 => .hoistRopeK r values
  | 41 => .dragRopeK r values
  | 45 => .camZero r values
  | 46 => .pitHeading r values
  | 96 => .crossingFlags r values
  | _ => .write r item index values

/-- Whether a READ names an item and its range includes DISCARD_COUNT (R174, R186). -/
def readsDiscard (item index : Word) (count : Byte) : Bool :=
  (namedItem item.toNat index.toNat).isSome && coversDiscard item.toNat (readCount count)

/-- A request addressed to this node, by its code (R184, chapter 12.5). Fields a request does not use are ignored. -/
def classifyRequest (src code low : Byte) (tag target index : Word) (values : List Word) : Instr :=
  let r : Req := ⟨src, tag⟩
  match code.toNat with
  | 1 => if readsDiscard target index low then .discardCountRead r target index low else .read r target index low
  | 2 => classifyWrite r target index values
  | 3 => .openTable r target
  | 4 => .loadTable r target index low values
  | 5 => .closeTable r target
  | 6 => .abandonTable r target
  | 7 => .readTable r target index low
  | 8 => .start r
  | 9 => .stop r
  | 10 => .learn r target
  | 11 => .zero r target values
  | 12 => .force r target
  | 13 => .ack r target
  | 14 => .readAlarms r target low
  | 15 => .reset r
  | _ => .unknownCode r code

/-- Word k of a payload; a payload of the kind's size has every word its kind reads. -/
def payloadWord (ws : List Word) (k : Nat) : Word := ws.getD k 0

/-- A good frame that is not short, by its kind (R169). -/
def classifyGood (own : Byte) (bs : Bytes) : Instr :=
  let k := frameKind bs
  let p := framePayload bs
  let l (size : Nat) : Link := ⟨frameDest bs, frameSrc bs, p.drop size⟩
  let w := payloadWord (bytesToWords p)
  if k = kindCycle then .cycle (l 2) (w 0)
  else if k = kindCab then .cab (l 4) (w 0) (w 1)
  else if k = kindCommand then .command (l 4) (w 0) (w 1)
  else if k = kindSample then .sample (l 8) ⟨highByte (w 0), lowByte (w 0), w 1, w 2, w 3⟩
  else if k = kindDiscrete then .discrete (l 4) (w 0) (w 1)
  else if k = kindDriveStatus then .driveStatus (l 12) ⟨w 0, w 1, w 2, w 3, w 4, w 5⟩
  else if returnsOwn own bs then .ownFrameRemoval bs
  else if k = kindRequest ∧ frameDest bs = own then
    classifyRequest (frameSrc bs) (highByte (w 0)) (lowByte (w 0)) (w 1) (w 2) (w 3) ((bytesToWords p).drop 4)
  else .forwardedFrame bs

/-- The command that the bytes of a frame received at port A are, for a node with the given address (R168 to R170). Which event
a marker, COMMAND or SAMPLE frame brings about depends on the state: such a frame is here the frame's own row. -/
def classify (own : Byte) (bs : Bytes) : Instr :=
  match badReason bs with
  | some _ => .badFrame bs
  | none => classifyGood own bs

/-! ### The bytes of a command -/

/-- A request frame to this node (chapter 12.5). -/
def requestBytes (own : Byte) (r : Req) (code low : Byte) (target index : Word) (values : List Word) : Bytes :=
  frame kindRequest own r.src (wordsToBytes (joinBytes code low :: r.tag :: target :: index :: values))

/-- The number of a fixed item. -/
def FixedItem.word : FixedItem → Word
  | .sinOffset => 14#16 | .cosOffset => 15#16 | .gain => 16#16

/-- The bytes at port A of a command that is a frame; none for pins, timers, port B, and the event rows, whose frames are those of
CYCLE, COMMAND and SAMPLE. -/
def bytesOf (own : Byte) : Instr → Option Bytes
  | .powerOnReset | .pinReset | .resetComplete _ | .bypassStart | .softReset | .frameTransmitted | .loopSilent => none
  | .cycle l n => some (received kindCycle l [n])
  | .cab l a b => some (received kindCab l [a, b])
  | .command l g v => some (received kindCommand l [g, v])
  | .sample l d => some (received kindSample l (sampleWords d))
  | .discrete l a b => some (received kindDiscrete l [a, b])
  | .driveStatus l d => some (received kindDriveStatus l (driveWords d))
  | .forwardedFrame bs | .ownFrameRemoval bs | .badFrame bs => some bs
  | .read r item index count => some (requestBytes own r 1 count item index [])
  | .write r item index vs => some (requestBytes own r 2 0 item index vs)
  | .openTable r t => some (requestBytes own r 3 0 t 0 [])
  | .loadTable r t first mode ws => some (requestBytes own r 4 mode t first ws)
  | .closeTable r t => some (requestBytes own r 5 0 t 0 [])
  | .abandonTable r t => some (requestBytes own r 6 0 t 0 [])
  | .readTable r t first count => some (requestBytes own r 7 count t first [])
  | .start r => some (requestBytes own r 8 0 0 0 [])
  | .stop r => some (requestBytes own r 9 0 0 0 [])
  | .learn r ch => some (requestBytes own r 10 0 ch 0 [])
  | .zero r ch vs => some (requestBytes own r 11 0 ch 0 vs)
  | .force r c => some (requestBytes own r 12 0 c 0 [])
  | .ack r t => some (requestBytes own r 13 0 t 0 [])
  | .readAlarms r p count => some (requestBytes own r 14 count p 0 [])
  | .reset r => some (requestBytes own r 15 0 0 0 [])
  | .unknownCode r code => some (requestBytes own r code 0 0 0 [])
  | .discardCountRead r item index count => some (requestBytes own r 1 count item index [])
  | .crossingFlags r vs => some (requestBytes own r 2 0 96 0 vs)
  | .pitHeading r vs => some (requestBytes own r 2 0 46 0 vs)
  | .correctionMode r ch vs => some (requestBytes own r 2 0 13 ch vs)
  | .speedLimit r ch vs => some (requestBytes own r 2 0 20 ch vs)
  | .offsetLimit r ch vs => some (requestBytes own r 2 0 17 ch vs)
  | .gainLimit r ch vs => some (requestBytes own r 2 0 18 ch vs)
  | .gainMode r ch vs => some (requestBytes own r 2 0 21 ch vs)
  | .gainLow r ch vs => some (requestBytes own r 2 0 22 ch vs)
  | .gainHigh r ch vs => some (requestBytes own r 2 0 23 ch vs)
  | .swingGear r vs => some (requestBytes own r 2 0 28 0 vs)
  | .hoistRopeK r vs => some (requestBytes own r 2 0 40 0 vs)
  | .dragRopeK r vs => some (requestBytes own r 2 0 41 0 vs)
  | .camZero r vs => some (requestBytes own r 2 0 45 0 vs)
  | .fixedItems r item ch vs => some (requestBytes own r 2 0 item.word ch vs)
  | .channelStale _ _ _ | .memberAbsent _ _ _ _ | .discreteStale _ _ | .cmdLost _ _ _ | .transferTimeout _ _
  | .shoeMismatch _ _ | .shoeDisagree _ _ | .brakeDelayExpiry _ _ _ | .stuck _ _ | .settled _ _ => none

end Sys2Proof
end

