-- ==== Sys2Proof/Machine/TableOps.lean ====
section
/-! DEFINITION. The tables as the MGU holds them (chapter 10.3): validation at CLOSE (R51, R72, R73, R96, R113, R121, R132, R152), what
each block does when its table enters or leaves LIVE, and the OPEN, LOAD, CLOSE, ABANDON and READ_TABLE requests. -/

namespace Sys2Proof.Machine

/-! ### Validation -/

/-- One check of CLOSE: the word it is about, and whether the word passes. -/
abbrev Check := Nat × Bool

/-- The index of the first failing word. -/
def firstFailing (cs : List Check) : Option Nat := (cs.find? (fun c => !c.2)).map Prod.fst

/-- A word in a range of numbers. -/
def inRange (t : Table) (i lo hi : Nat) : Check := (i, decide (lo ≤ t.num i) && decide (t.num i ≤ hi))

/-- The breakpoint count and the used breakpoints of one drum (R73). -/
def checkBreaks (t : Table) (base : Nat) : List Check :=
  inRange t base 1 15 :: (List.range (t.num base)).map (fun k =>
    (base + 1 + k, decide (t.num (base + 1 + k) ≤ 65000)
      && (k == 0 || decide (t.num (base + k) < t.num (base + 1 + k)))))

/-- The used cells, in ascending cell index (R73). -/
def checkCells (t t1 : Table) : List Check :=
  (List.range 256).filterMap (fun c =>
    if c / 16 ≤ t.num 0 ∧ c % 16 ≤ t.num 16 then some (32 + c, decide (t.num (32 + c) < t1.num 0)) else none)

/-- CLOSE of T0 (R73): T1 first, then T0's own words. -/
def checkT0 (t t1 : Table) : List Check :=
  (0, t1.isLive) :: checkBreaks t 0 ++ checkBreaks t 16 ++ checkCells t t1 ++ [(288, decide (t.num 288 < t1.num 0))]

/-- The highest value each field of a profile record accepts, in the order of R71. -/
def profileTops : List Nat := [4, 1000, 1000, 2000, 2000, 1000, 1000, 2000, 2000, 1000, 2000, 4000, 1]

/-- CLOSE of T1 (R72). -/
def checkT1 (t : Table) : List Check :=
  inRange t 0 1 32 :: (List.range (t.num 0)).flatMap (fun r =>
    profileTops.mapIdx (fun f top => inRange t (1 + 13 * r + f) 0 top))

/-- CLOSE of a curve table (R96). -/
def checkCurve (t : Table) : List Check :=
  inRange t 0 1 8 :: (List.range (t.num 0)).flatMap (fun i =>
    let k := i + 1
    [(2 * k - 1, decide (t.num (2 * k - 1) ≤ 1000) && decide (curveX t i < curveX t k)),
      (2 * k, decide (t.num (2 * k) ≤ 1000) && decide (curveY t i ≤ curveY t k))])

/-- CLOSE of T6 (R113). -/
def checkT6 (t : Table) : List Check :=
  inRange t 0 0 8 :: (List.range (t.num 0)).flatMap (fun k =>
    let b := 1 + 7 * k
    [inRange t b 0 2, inRange t (b + 1) 0 35999,
      (b + 2, decide (t.num (b + 2) ≤ 35999) && t.num (b + 2) != t.num (b + 1)),
      inRange t (b + 3) 0 18000,
      (b + 4, t.num (b + 4) == 0 || (decide (t.num (b + 3) < t.num (b + 4)) && decide (t.num (b + 4) ≤ 18000))),
      inRange t (b + 5) 0 1000, inRange t (b + 6) 0 1000])

/-- CLOSE of T7 (R121). -/
def checkT7 (t : Table) : List Check :=
  inRange t 0 0 4 :: (List.range (t.num 0)).flatMap (fun k =>
    [inRange t (1 + 2 * k) 0 35999, inRange t (2 + 2 * k) 0 1])

/-- The park words of the existing sectors. -/
def parkWords (t : Table) : List Nat := (List.range (t.num 0)).map (fun k => 4 + 4 * k)

/-- The word at which the park test fails, if it does: the second park sector's, or the last sector's when there is none
(R132). -/
def parkFailure (t : Table) : Option Nat :=
  match (parkWords t).filter (fun i => t.num i == 1) with
  | [] => some (4 * t.num 0)
  | [_] => none
  | _ :: i :: _ => some i

/-- CLOSE of T8 (R132). -/
def checkT8 (t : Table) : List Check :=
  inRange t 0 2 12 :: (List.range (t.num 0)).flatMap (fun k =>
      let b := 1 + 4 * k
      [(b, if k = 0 then t.num b == 0 else decide (t.num (b - 4) < t.num b) && decide (t.num b ≤ 359)),
        inRange t (b + 1) 0 1000, inRange t (b + 2) 0 2, inRange t (b + 3) 0 1])
    ++ (match parkFailure t with
      | some i => [(i, false)]
      | none => [])

/-- The used address words of T9 in table order. -/
def addressWords (t : Table) : List Nat :=
  Drive.all.flatMap (fun g => (List.range (t9Count t g)).map (fun i => 6 * g.code + 1 + i))

/-- A used address passes: a node, not the own one, and named by no earlier address word (R51). -/
def addressPasses (t : Table) (own i : Nat) : Bool :=
  decide (t.num i ≤ 31) && t.num i != own
    && !((addressWords t).any (fun j => decide (j < i) && t.num j == t.num i))

/-- CLOSE of T9 (R51). -/
def checkT9 (t : Table) (own : Nat) : List Check :=
  Drive.all.flatMap (fun g =>
    let b := 6 * g.code
    inRange t b 1 4 :: (List.range (t9Count t g)).map (fun i => (b + 1 + i, addressPasses t own (b + 1 + i)))
      ++ [inRange t (b + 5) 0 2])

/-- Whether a T10 word stands within its condition's floor (R152). -/
def t10Passes (n : Nat) (w : Word) : Bool :=
  decide ((condSpec n).floor.code ≤ (wordSeverity w).code) && !(wordMask w && floorHard n)

/-- CLOSE of T10 (R152). -/
def checkT10 (t : Table) : List Check :=
  (List.range Config.conditionCount).map (fun n => (n, t10Passes n (t.words.getD n 0)))

/-- The checks of CLOSE, in the order each table's chapter gives. -/
def checks (i : TableId) (s : State) : List Check :=
  let t := s.table i
  match i with
  | .t0 => checkT0 t s.tables.t1
  | .t1 => checkT1 t
  | .t2 | .t3 | .t4 | .t5 => checkCurve t
  | .t6 => checkT6 t
  | .t7 => checkT7 t
  | .t8 => checkT8 t
  | .t9 => checkT9 t s.lpu.ownAddress
  | .t10 => checkT10 t

/-! ### Entering and leaving LIVE -/

/-- A change of T10: the listing, the group severities and the TRIP test afresh, and the sequencer's reaction to what that did
to the groups (R153, R162, R163). -/
def severitiesChanged (old : Table) (s : State) : State :=
  report [] (s.withAlu (s.alu.retable old s.tables.t10 s.lpu.lastCycle))

/-- A table became LIVE, its block reacts; `old` is the table before. -/
def enteredLive (i : TableId) (old : Table) (s : State) : State :=
  match i with
  | .t0 => envelopeLive s
  | .t6 => windowsChanged s
  | .t7 => marksChanged s
  | .t8 => camTableChanged s
  | .t9 => copyT9 s
  | .t10 => severitiesChanged old s
  | .t1 | .t2 | .t3 | .t4 | .t5 => s

/-- A LIVE table passed to EDIT or EMPTY, its block reacts; the DGU goes on with its member set (R52, R187). -/
def leftLive (i : TableId) (old : Table) (s : State) : State :=
  match i with
  | .t0 => envelopeDropped s
  | .t6 => windowsChanged s
  | .t7 => marksChanged s
  | .t8 => camTableChanged s
  | .t10 => severitiesChanged old s
  | .t1 | .t2 | .t3 | .t4 | .t5 | .t9 => s

/-- A table replaced by one that is not LIVE; its block reacts if it was LIVE. -/
def dropTable (i : TableId) (new : Table) (s : State) : State :=
  let old := s.table i
  let s := s.setTable i new
  if old.isLive then leftLive i old s else s

/-- OPEN or ABANDON of T1 passes a LIVE T0 to EDIT, its content kept (R74). -/
def dropT0With (i : TableId) (s : State) : State :=
  if i = .t1 ∧ s.tables.t0.isLive then dropTable .t0 { s.tables.t0 with state := .edit } s else s

/-! ### The requests (R187 to R189) -/

/-- The mode test of OPEN, LOAD, CLOSE and ABANDON (R185). -/
def tableRefused (s : State) : Bool := s.mgu.mode == .run

/-- An OPEN request (R187). -/
def serveOpen (table : Word) (s : State) : Reply :=
  match TableId.ofCode table.toNat with
  | none => refuse s .outOfRange
  | some i =>
    if tableRefused s then refuse s .refusedMode
    else if (s.table i).state = .edit then ⟨s, .ok, []⟩
    else ⟨dropTable i { s.table i with state := .edit } (dropT0With i s), .ok, []⟩

/-- ABANDON of T9 also empties the member set, from any state (R52). -/
def abandonMembers (i : TableId) (s : State) : State :=
  match i with
  | .t9 => emptyT9 s
  | _ => s

/-- An ABANDON request (R187). -/
def serveAbandon (table : Word) (s : State) : Reply :=
  match TableId.ofCode table.toNat with
  | none => refuse s .outOfRange
  | some i =>
    if tableRefused s then refuse s .refusedMode
    else
      let empty := emptyTable (s.table i).words.length
      ⟨abandonMembers i (dropTable i empty (dropT0With i s)), .ok, []⟩

/-- A CLOSE request (R189). -/
def serveClose (table : Word) (s : State) : Reply :=
  match TableId.ofCode table.toNat with
  | none => refuse s .outOfRange
  | some i =>
    if tableRefused s then refuse s .refusedMode
    else if (s.table i).state ≠ .edit then refuse s .notOpen
    else
      match firstFailing (checks i s) with
      | some k => ⟨s, .invalid, [natWord k]⟩
      | none =>
        let old := s.table i
        ⟨enteredLive i old (s.setTable i { old with state := .live }), .ok, []⟩

/-! #### LOAD (R188, R193) -/

/-- The words a LOAD writes: their indices, which may lie outside the table, and their values; none if its mode, count or values
fail (R188, R193; assumption 21). The first of `words` is the count. -/
def loadRange (mode first : Nat) : List Word → Option (List (Int × Word))
  | [] => none
  | cw :: vs =>
    let count := cw.toNat
    let at0 : Int := first
    if count < 1 ∨ 16 < count then none
    else
      match mode, vs with
      | 0, v :: _ => some [(at0, v)]
      | 1, _ =>
        if vs.length < count then none
        else some ((vs.take count).mapIdx (fun k v => (at0 + (k : Int), v)))
      | 2, _ =>
        if vs.length < count then none
        else some ((vs.take count).mapIdx (fun k v => (at0 - (k : Int), v)))
      | 3, v :: _ => some ((List.range count).map (fun k => (at0 + (k : Int), v)))
      | _, _ => none

/-- A T10 word as it is stored: severity above 4 taken as TRIP and raised to the floor, a mask under a floor of STOP or TRIP
cleared; bits 14 to 3 as sent (R152; assumption 21). -/
def adjustT10 (n : Nat) (w : Word) : Word :=
  let sev := max (wordSeverity w).code (condSpec n).floor.code
  let mask := wordMask w && !floorHard n
  natWord (flag mask * 32768 + (w.toNat % 32768 / 8) * 8 + sev)

/-- A loaded word as it is stored: T10's adjusted, the others as sent (R188). -/
def storedWord (i : TableId) (n : Nat) (w : Word) : Word :=
  match i with
  | .t10 => adjustT10 n w
  | _ => w

/-- A LOAD request (R188). -/
def serveLoad (table first : Word) (mode : Byte) (words : List Word) (s : State) : Reply :=
  match TableId.ofCode table.toNat with
  | none => refuse s .outOfRange
  | some i =>
    if tableRefused s then refuse s .refusedMode
    else if (s.table i).state ≠ .edit then refuse s .notOpen
    else
      match loadRange mode.toNat first.toNat words with
      | none => refuse s .outOfRange
      | some ps =>
        let t := s.table i
        if ps.any (fun p => decide (p.1 < 0) || decide ((t.words.length : Int) ≤ p.1)) then refuse s .outOfRange
        else
          let ws := ps.foldl (fun ws p => ws.set p.1.toNat (storedWord i p.1.toNat p.2)) t.words
          let adjusted := ps.any (fun p => storedWord i p.1.toNat p.2 != p.2)
          ⟨s.setTable i { t with words := ws }, okIf adjusted, []⟩

/-- A READ_TABLE request (R189): the table and the range are tested. The range tested is that of the clamped count, though R189 names
the test before the clamp: the model's choice (assumption 31). -/
def serveReadTable (table first : Word) (count : Byte) (s : State) : Reply :=
  match TableId.ofCode table.toNat with
  | none => refuse s .outOfRange
  | some i =>
    let ws := (s.table i).words
    let c := readCount count
    if ws.length < first.toNat + c then refuse s .outOfRange
    else ⟨s, okIf (c != count.toNat), (ws.drop first.toNat).take c⟩

end Sys2Proof.Machine
end

