-- ==== Sys2Proof/Machine/Delivery.lean ====
section
/-! DEFINITION. What the frames of the loop deliver (chapter 9, R169): arrival and forwarding, the work of a CYCLE marker (R171), of
CAB, SAMPLE, DISCRETE and DRIVE_STATUS frames, of frames that are only forwarded, removed or bad, and of the silence timer. -/

namespace Sys2Proof.Machine

/-! ### Arrival -/

/-- A good frame that is not short is taken: the timer restarts and the traffic-seen flag is set before the blocks act (R169,
R175). In bypass, or with a payload no frame can carry, nothing is taken (R176, R177). -/
def arrival (l : Link) (size : Nat) (body : State → State) (s : State) : State :=
  if s.inLoop && fits l size then body (goodFrameSeen s) else s

/-- A good frame that its blocks act on and that is then forwarded as received (R169). -/
def delivered (kind : Byte) (l : Link) (words : List Word) (body : State → State) (s : State) : State :=
  arrival l (2 * words.length) (fun s => offerForwarded (received kind l words) (body s)) s

/-! ### The CYCLE marker (R171) -/

/-- What a channel reads besides its record. -/
def State.chanCtx (s : State) (a : Axis) : ChanCtx := ⟨a, s.items.channels.get a, s.items.swingGear⟩

/-- A channel's marker work: one that enters FAULT reports it and hands off (R29, R30). -/
def channelMarker (s : State) (a : Axis) : State :=
  let c := s.chan a
  let r := markChannel (s.chanCtx a) c
  let s' := s.setChan a r.chan
  if staleDue (s.items.channels.get a) c then
    let s' := report r.reports s'
    if c.state = .fault then s' else handOff a false s'
  else s'

/-- The marker's number is taken, and LOOP_SILENT falls if it stands (R171, R175). -/
def takeNumber (number : Word) (s : State) : State :=
  let s := s.withLpu { s.lpu with lastCycle := number.toNat }
  if s.alu.raised cLoopSilent then report [.level cLoopSilent false none] s else s

/-- The marker work of every block before the WSQ: the LPU, the channels, the DGU, the shapers and the load FIFO (R171, R124;
assumption 5). -/
def markBeforeSeq (number : Word) (s : State) : State :=
  let s := driveMarker (Axis.all.foldl channelMarker (takeNumber number s))
  let s := Axis.all.foldl (fun s g => lossMarker g s) s
  s.withSwu (pushLoad s.swu)

/-- A CYCLE marker: every block's marker work, the marker forwarded, the STATE frame built and offered behind it (R171). -/
def takeCycle (l : Link) (number : Word) (s : State) : State :=
  offerState (offerForwarded (received kindCycle l [number]) (seqMarker (markBeforeSeq number s)))

/-! ### CAB (R49, R131, R158, R179, R183) -/

/-- The mode selector's word (chapter 12.2). -/
def selectorOf (w : Word) : Selector := if w = 0#16 then .dig else .walk

/-- After an acknowledgement: the severities and the TRIP test as the list leaves them (R162, R163). -/
def acknowledged (ns : List Nat) (s : State) : State := report [] (s.withAlu (s.alu.acknowledgeAll s.aluCtx ns))

/-- The acknowledge push of a CAB frame (R158). -/
def takeAckPush (pressed : Bool) (s : State) : State :=
  let edge := pushEdge s.alu.lastAck pressed
  let s := s.withAlu { s.alu with lastAck := some pressed }
  if edge && s.items.ackMethod != .read then acknowledged (s.alu.list.map Entry.cond) s else s

/-- Whether a reset edge leaves HALTED (R183). -/
def mayLeaveHalted (s : State) : Bool :=
  s.mgu.mode == .halted && !s.mgu.tripStanding && Axis.all.all (fun g => s.mgu.lastLevers.get g == some 0)

/-- The part leaves HALTED for STANDBY: every group enters HELD (R95, R179). -/
def leaveHalted (s : State) : State :=
  (s.withMgu { s.mgu with mode := .standby }).withGroups (s.groups.map Group.hold)

/-- The reset push of a CAB frame (R179, R183). -/
def takeResetPush (pressed : Bool) (s : State) : State :=
  let edge := pushEdge s.mgu.lastReset pressed
  let s := s.withMgu { s.mgu with lastReset := some pressed }
  if edge && mayLeaveHalted s then leaveHalted s else s

/-- A CAB frame's selector and pushes, to the POS, WSQ, ALU and MGU (R169; assumption 5). -/
def takeCab (selector pushes : Word) (s : State) : State :=
  let s := takeConfirm (bit pushes 2) s
  let s := settleMove (takeSelector (selectorOf selector) s)
  takeResetPush (bit pushes 1) (takeAckPush (bit pushes 0) s)

/-! ### COMMAND (R88) -/

/-- A COMMAND frame: shaped and rewritten by its group's shaper, or forwarded unchanged where its group field names none. -/
def takeCommand (l : Link) (group lever : Word) (s : State) : State :=
  match Axis.ofCode group.toNat with
  | some g => commandGroup g lever s
  | none => offerForwarded (received kindCommand l [group, lever]) s

/-! ### SAMPLE (R1, R4, R30) -/

/-- The channel a SAMPLE frame is delivered to: the one its channel field names, if its source is that channel's digitiser
(R1, R3). -/
def sampleTarget (src : Byte) (d : SampleData) (s : State) : Option Axis :=
  match Axis.ofCode d.channel.toNat with
  | some a => if (s.items.channels.get a).sampleSource = src.toNat then some a else none
  | none => none

/-- A SAMPLE frame through its channel, its reports and its hand-off (R4, R30). -/
def takeSampleFrame (src : Byte) (d : SampleData) (s : State) : State :=
  match sampleTarget src d s with
  | none => s
  | some a =>
    let r := takeSample (s.chanCtx a) d (s.chan a)
    if r.duplicate then s else handOff a r.recovered (report r.run.reports (s.setChan a r.run.chan))

/-! ### DISCRETE and DRIVE_STATUS (R54, R66) -/

/-- A DISCRETE frame loads the image if its source is INPUT_NODE (R66). -/
def takeDiscreteFrame (src : Byte) (low high : Word) (s : State) : State :=
  if s.items.inputNode = src.toNat then takeDiscrete low high s else s

/-! ### Frames that are forwarded, removed or bad (R169, R170) -/

/-- BAD_FRAME's detail (R170). -/
def badDetail (reason : Nat) (bs : Bytes) : Nat := 256 * reason + (frameKind bs).toNat

/-- A bad or short frame: its event, and the frame forwarded as received. A short frame is good, so it restarts the timer (R169,
R170, R175). -/
def takeBad (reason : Nat) (bs : Bytes) (s : State) : State :=
  let s := if reason = 2 then goodFrameSeen s else s
  offerForwarded bs (report [.event cBadFrame (some (badDetail reason bs))] s)

/-! ### The silence timer (R175) -/

/-- The timer expires: LOOP_SILENT is raised unless it stands, and the timer stops. -/
def expireTimer (s : State) : State :=
  let s := s.withLpu { s.lpu with timer := .expired }
  if s.alu.raised cLoopSilent then s else report [.level cLoopSilent true (some (flag s.lpu.trafficSeen))] s

/-! ### Resets (R176, R177, R190, R191) -/

/-- The reports the POS makes at a reset (R32). -/
def posReports : List Report :=
  Drive.all.map (fun d => Report.level (cDoubtful d) true none)
    ++ [.level (cPayoutRange .hoist) false none, .level (cPayoutRange .drag) false none,
      .level cHeadingUnconfirmed true none]

/-- The owners raise their conditions afresh, in the order left open (R149; assumption 4). -/
def ownersReport (s : State) : State :=
  if s.dguReportsFirst then report posReports (report (driveReports s.dgu) s)
  else report (driveReports s.dgu) (report posReports s)

/-- The device as power-on and pin reset leave it: defaults, EMPTY tables, power-on values, in bypass (R176, R191). -/
def freshPart (s : State) : State :=
  ownersReport { State.reset with alu := .reset, dguReportsFirst := s.dguReportsFirst, pending := s.pending }

/-- The strapped addresses that leave the device in bypass (R176). -/
def strapsRefused (n : Nat) : Bool := n == 0 || n == 1 || n == 31

/-- A power-on or pin reset completes (R176). -/
def completeReset (straps : BitVec 5) (s : State) : State :=
  let s := s.withLpu { s.lpu with ownAddress := straps.toNat }
  if strapsRefused straps.toNat then s.withLpu { s.lpu with bypass := .strapped }
  else startTimer (s.withLpu { s.lpu with bypass := .off })

/-- Whether a soft reset's bypass begins (R177): asked for, and the queue is empty, so the response has left or was dropped. -/
def bypassDue (s : State) : Bool := s.mgu.resetPending && s.inLoop && s.lpu.queue.isEmpty

/-- A table at a soft reset: LIVE stays, EDIT becomes EMPTY (R190). -/
def softTable (t : Table) : Table :=
  match t.state with
  | .live => t
  | .empty | .edit => emptyTable t.words.length

def softTables (t : Tables) : Tables :=
  { t0 := softTable t.t0, t1 := softTable t.t1, t2 := softTable t.t2, t3 := softTable t.t3, t4 := softTable t.t4,
    t5 := softTable t.t5, t6 := softTable t.t6, t7 := softTable t.t7, t8 := softTable t.t8, t9 := softTable t.t9,
    t10 := softTable t.t10 }

/-- The DGU after a soft reset: the members of a LIVE T9 with records ABSENT, else none (R52). -/
def softDgu (t9 : Table) : Dgu :=
  if t9.isLive then
    { Dgu.reset with members := perDrive (copyMembers t9 []), desired := perDrive (t9Desired t9) }.recompute
  else .reset

/-- The ENV after a soft reset: a fresh evaluation of a LIVE T0 at payouts 0 in doubt (R75, R76). -/
def softEnv (t0 : Table) : Env := if t0.isLive then freshEvaluation t0 .reset else .reset

/-- The LPU at the end of a soft reset's bypass (R167, R177). -/
def softLpu (l : Lpu) (silenceTime : Nat) : Lpu :=
  { ownAddress := l.ownAddress, queue := [], discard := 0, lastCycle := 0, timer := .running, timerLength := silenceTime,
    trafficSeen := false, bypass := .off }

/-- Every block but the ALU at its soft-reset value; the ALU empty (R190). -/
def softBlocks (s : State) : State :=
  let t := softTables s.tables
  let pos := Pos.reset s.items.pitHeading s.items.camZero
  { lpu := softLpu s.lpu s.items.silenceTime, mgu := .reset, items := s.items, tables := t,
    tru := s.items.channels.map Channel.reset, pos := pos, dgu := softDgu t.t9, env := softEnv t.t0,
    groups := .all .reset, swu := .reset pos.relative, wsq := .reset pos.cam (sectorOf t.t8 pos.cam),
    alu := .reset, dguReportsFirst := s.dguReportsFirst, pending := s.pending }

/-- A soft reset taken: dynamic state reset, then the owners' reports (R149, R190). -/
def takeSoftReset (s : State) : State := ownersReport (softBlocks s)

end Sys2Proof.Machine
end

