-- ==== Sys2Proof/Machine/Resets.lean ====
section
/-! DEFINITION. The meanings of the resets and of bypass (chapters 9.7 and 10.4). -/

namespace Sys2Proof.Machine

/-- What every meaning answers. -/
abbrev Result := Host.Outcome State Fault Refusal

/-- POWER_ON_RESET (R191): every item, table and block at its power-on value, in bypass. -/
def execPowerOnReset (s : State) : Result := .next (freshPart s)

/-- PIN_RESET (R176, R191): as power-on; the queued frames are lost and the one in transmission is cut short. -/
def execPinReset (s : State) : Result := .next (freshPart s)

/-- RESET_COMPLETE (R176): the straps are read and bypass ends unless the address is 0, 1 or 31. Without a reset to complete
there is no such event, and nothing changes (assumption 1). -/
def execResetComplete (straps : BitVec 5) (s : State) : Result :=
  match s.lpu.bypass with
  | .reset => .next (completeReset straps s)
  | .off | .strapped | .soft => .next s

/-- BYPASS_START (R177): after a RESET request the device enters bypass once its response has left or been dropped and the queue
is empty; before that there is no such event (assumption 1). -/
def execBypassStart (s : State) : Result :=
  if bypassDue s then .next (s.withLpu { s.lpu with bypass := .soft }) else .next s

/-- SOFT_RESET (R190): the bypass of a soft reset ends and the reset is taken. -/
def execSoftReset (s : State) : Result :=
  match s.lpu.bypass with
  | .soft => .next (takeSoftReset s)
  | .off | .reset | .strapped => .next s

end Sys2Proof.Machine
end

