-- ==== Sys2Proof/Machine/Frames.lean ====
section
/-! DEFINITION. The meanings of the frames of the loop, of a frame's departure at port B and of the silence timer (chapter 9). -/

namespace Sys2Proof.Machine

/-- CYCLE (R171). -/
def execCycle (l : Link) (number : Word) (s : State) : Result := .next (arrival l 2 (takeCycle l number) s)

/-- CAB (R169). -/
def execCab (l : Link) (selector pushes : Word) (s : State) : Result :=
  .next (delivered kindCab l [selector, pushes] (takeCab selector pushes) s)

/-- COMMAND (R88). -/
def execCommand (l : Link) (group lever : Word) (s : State) : Result := .next (arrival l 4 (takeCommand l group lever) s)

/-- SAMPLE (R4). -/
def execSample (l : Link) (d : SampleData) (s : State) : Result :=
  .next (delivered kindSample l (sampleWords d) (takeSampleFrame l.src d) s)

/-- DISCRETE (R66). -/
def execDiscrete (l : Link) (low high : Word) (s : State) : Result :=
  .next (delivered kindDiscrete l [low, high] (takeDiscreteFrame l.src low high) s)

/-- DRIVE_STATUS (R54). -/
def execDriveStatus (l : Link) (d : DriveData) (s : State) : Result :=
  .next (delivered kindDriveStatus l (driveWords d) (takeDriveStatus l.src.toNat d) s)

/-- FORWARDED_FRAME (R169): a good frame of this row's kinds is forwarded unchanged; other bytes are no such command
(assumption 1). -/
def execForwardedFrame (bytes : Bytes) (s : State) : Result :=
  if s.inLoop && onlyForwarded s.ownByte bytes then .next (offerForwarded bytes (goodFrameSeen s)) else .next s

/-- OWN_FRAME_REMOVAL (R169): a returning own frame enters no queue and is delivered nowhere. -/
def execOwnFrameRemoval (bytes : Bytes) (s : State) : Result :=
  if s.inLoop && badReason bytes == none && returnsOwn s.ownByte bytes then .next (goodFrameSeen s) else .next s

/-- BAD_FRAME (R170). -/
def execBadFrame (bytes : Bytes) (s : State) : Result :=
  if s.inLoop then
    match badReason bytes with
    | some reason => .next (takeBad reason bytes s)
    | none => .next s
  else .next s

/-- FRAME_TRANSMITTED (R173): the front frame leaves the queue. -/
def execFrameTransmitted (s : State) : Result := .next (s.withLpu { s.lpu with queue := s.lpu.queue.tail })

/-- LOOP_SILENT (R175): a running timer expires. -/
def execLoopSilent (s : State) : Result :=
  if s.inLoop && s.lpu.timer == .running then .next (expireTimer s) else .next s

end Sys2Proof.Machine
end

