-- ==== Sys2Proof/Machine/Requests.lean ====
section
/-! DEFINITION. Serving management requests (chapter 10): the response (R172, R184, R193), START, STOP, LEARN, ZERO, FORCE, ACK,
READ_ALARMS and RESET, and the meaning of every request row. -/

namespace Sys2Proof.Machine

/-! ### The response -/

/-- A response carries at most 20 values (R193). -/
def responseValues (vs : List Word) : List Word := vs.take 20

/-- The words of a response (chapter 12.5). -/
def responseWords (r : Req) (code : Nat) (p : Reply) : List Word :=
  let vs := responseValues p.values
  packBytes code p.status.code :: r.tag :: natWord vs.length :: vs

/-- The MGMT_RESPONSE frame: to the request's source, from this node (R172). -/
def responseFrame (r : Req) (code : Nat) (p : Reply) : Bytes :=
  frame kindResponse r.src p.state.ownByte (wordsToBytes (responseWords r code p))

/-- The response is offered in the place of the consumed request (R172). -/
def respond (r : Req) (code : Nat) (p : Reply) : State := offerInserted (responseFrame r code p) p.state

/-- A request addressed to this node is a good frame, consumed, served and answered; in bypass it is relayed with the ring and
neither served nor answered (R172, R190). -/
def serve (r : Req) (code : Nat) (body : State → Reply) (s : State) : Result :=
  if s.inLoop then .next (respond r code (body (goodFrameSeen s))) else .next s

/-! ### START and STOP (R180, R181) -/

/-- The tables START requires, in the order tested. -/
def startTables : List TableId := [.t0, .t1, .t2, .t3, .t4, .t5, .t8, .t9]

/-- The reason and index of the first failing check of START; none if every check passes (R180). -/
def startFailure (s : State) : Option (Nat × Nat) :=
  match startTables.find? (fun i => !(s.table i).isLive) with
  | some i => some (1, i.code)
  | none =>
    match Axis.all.find? (fun a => (s.chan a).state != .tracking) with
    | some a => some (2, a.code)
    | none =>
      match Drive.all.find? (fun d => (s.dgu.values.get d).form == .unresolved) with
      | some d => some (3, d.code)
      | none =>
        if s.wsq.state = .unsettled then some (4, 0)
        else
          match s.dgu.image.state with
          | .unloaded => some (5, 0)
          | .stale => some (5, 1)
          | .fresh => none

/-- A START request (R180). -/
def serveStart (s : State) : Reply :=
  match s.mgu.mode with
  | .run | .halted => refuse s .refusedMode
  | .standby =>
    match startFailure s with
    | some (reason, index) => ⟨s, .notReady, [natWord reason, natWord index]⟩
    | none => ⟨s.withMgu { s.mgu with mode := .run }, .ok, []⟩

/-- RUN gives way to STANDBY: ACTIVE groups enter STOPPING (R93, R181). -/
def enterStandby (s : State) : State := (s.withMgu { s.mgu with mode := .standby }).stopGroups Axis.all

/-- A STOP request (R181). -/
def serveStop (s : State) : Reply :=
  match s.mgu.mode with
  | .run => ⟨enterStandby s, .ok, []⟩
  | .standby => ⟨s, .ok, []⟩
  | .halted => refuse s .refusedMode

/-! ### LEARN and ZERO (R12, R43 to R45) -/

/-- A LEARN request (R12). -/
def serveLearn (channel : Word) (s : State) : Reply :=
  match Axis.ofCode channel.toNat with
  | none => refuse s .outOfRange
  | some a =>
    if learnReady (s.items.channels.get a) (s.chan a) then ⟨s.setChan a (startLearning (s.chan a)), .ok, []⟩
    else refuse s .notReady

/-- A ZERO request (R43, R193). -/
def serveZero (channel : Word) (values : List Word) (s : State) : Reply :=
  match values with
  | [] => refuse s .outOfRange
  | w :: _ =>
    match Axis.ofCode channel.toNat with
    | none => refuse s .outOfRange
    | some a =>
      if s.mgu.mode = .run ∧ (s.group a).state ≠ .held then refuse s .refusedMode
      else if !zeroable s.pos a then refuse s .notReady
      else
        let c := clampTo 0 (zeroTop a) (unsigned w)
        ⟨zeroAxis a c.value s, okIf c.adjusted, []⟩

/-! ### FORCE, ACK and READ_ALARMS (R159 to R161) -/

/-- A forced condition: raised as an event with the forced flag, its action applied once (R161). -/
def forceCondition (n : Nat) (s : State) : State :=
  let a := s.alu.occasion s.aluCtx n none true
  settleMove (reactToGroups (aluAct (Effect.none.ofEvent s.tables.t10 n) (s.withAlu a)))

/-- A FORCE request (R161). -/
def serveForce (condition : Word) (s : State) : Reply :=
  let n := condition.toNat
  if Config.conditionCount ≤ n then refuse s .outOfRange
  else
    match s.mgu.mode with
    | .run | .halted => refuse s .refusedMode
    | .standby =>
      if effMask s.tables.t10 n || (!(condSpec n).event && s.alu.raised n) then refuse s .notReady
      else ⟨forceCondition n s, .ok, []⟩

/-- An ACK request (R159). -/
def serveAck (target : Word) (s : State) : Reply :=
  let n := target.toNat
  if n = 255 then ⟨acknowledged (s.alu.list.map Entry.cond) s, .ok, []⟩
  else if n < Config.conditionCount then ⟨acknowledged [n] s, .ok, []⟩
  else refuse s .outOfRange

/-- The five words of an alarm entry (R160, chapter 12.5). Chapter 12.5 gives bits 6 to 3 of word 0 no value: they are sent as 0, the
model's choice (DESIGN CHOICE, assumption 30). -/
def entryWords (s : State) (e : Entry) : List Word :=
  let c := s.alu.cond e.cond
  [packFields [(e.cond, 8), (flag c.forced, 1), (0, 4), ((effSeverity s.tables.t10 e.cond).code, 3)],
    packBytes c.listing.code e.count, natWord e.seq, optNatWord c.detail, natWord e.cycle]

/-- The entries a READ_ALARMS carries. -/
def entriesRead (position count : Nat) (s : State) : List Entry := (s.alu.list.drop position).take count

/-- A READ_ALARMS request: the entries as they stood; under READ or BOTH each is then acknowledged (R160). -/
def serveReadAlarms (position : Word) (count : Byte) (s : State) : Reply :=
  if 31 < position.toNat then refuse s .outOfRange
  else
    let c := clampNat 1 4 count.toNat
    let es := entriesRead position.toNat c s
    let s' := if s.items.ackMethod = .operator then s else acknowledged (es.map Entry.cond) s
    ⟨s', okIf (c != count.toNat), es.flatMap (entryWords s)⟩

/-- A RESET request: answered OK, the soft reset to follow (R177, R190). -/
def serveReset (s : State) : Reply := ⟨s.withMgu { s.mgu with resetPending := true }, .ok, []⟩

/-- The request codes (chapter 12.5). -/
def knownCode (code : Byte) : Bool := decide (1 ≤ code.toNat) && decide (code.toNat ≤ 15)

/-! ### The meanings -/

/-- READ (R186). -/
def execRead (r : Req) (item index : Word) (count : Byte) (s : State) : Result := serve r 1 (serveRead item index count) s

/-- WRITE (R186). -/
def execWrite (r : Req) (item index : Word) (values : List Word) (s : State) : Result :=
  serve r 2 (serveWrite item index values) s

/-- OPEN (R187). -/
def execOpenTable (r : Req) (table : Word) (s : State) : Result := serve r 3 (serveOpen table) s

/-- LOAD (R188). -/
def execLoadTable (r : Req) (table first : Word) (mode : Byte) (words : List Word) (s : State) : Result :=
  serve r 4 (serveLoad table first mode words) s

/-- CLOSE (R189). -/
def execCloseTable (r : Req) (table : Word) (s : State) : Result := serve r 5 (serveClose table) s

/-- ABANDON (R187). -/
def execAbandonTable (r : Req) (table : Word) (s : State) : Result := serve r 6 (serveAbandon table) s

/-- READ_TABLE (R189). -/
def execReadTable (r : Req) (table first : Word) (count : Byte) (s : State) : Result :=
  serve r 7 (serveReadTable table first count) s

/-- START (R180). -/
def execStart (r : Req) (s : State) : Result := serve r 8 serveStart s

/-- STOP (R181). -/
def execStop (r : Req) (s : State) : Result := serve r 9 serveStop s

/-- LEARN (R12). -/
def execLearn (r : Req) (channel : Word) (s : State) : Result := serve r 10 (serveLearn channel) s

/-- ZERO (R43). -/
def execZero (r : Req) (channel : Word) (values : List Word) (s : State) : Result := serve r 11 (serveZero channel values) s

/-- FORCE (R161). -/
def execForce (r : Req) (condition : Word) (s : State) : Result := serve r 12 (serveForce condition) s

/-- ACK (R159). -/
def execAck (r : Req) (target : Word) (s : State) : Result := serve r 13 (serveAck target) s

/-- READ_ALARMS (R160). -/
def execReadAlarms (r : Req) (position : Word) (count : Byte) (s : State) : Result :=
  serve r 14 (serveReadAlarms position count) s

/-- RESET (R190). -/
def execReset (r : Req) (s : State) : Result := serve r 15 serveReset s

/-- UNKNOWN_CODE (R184): answered INVALID with count 0. A code that names a request is no such command (assumption 1). -/
def execUnknownCode (r : Req) (code : Byte) (s : State) : Result :=
  if knownCode code then .next s else serve r code.toNat (fun s => refuse s .invalid) s

end Sys2Proof.Machine
end

