-- ==== Sys2Proof/Machine/Writes.lean ====
section
/-! DEFINITION. The meanings of the rows that are a READ over DISCARD_COUNT or a WRITE of an item with a behaviour of its own. Each is
that request with the item's number (chapter 12.7). -/

namespace Sys2Proof.Machine

/-- DISCARD_COUNT_READ (R174). -/
def execDiscardCountRead (r : Req) (item index : Word) (count : Byte) (s : State) : Result :=
  serve r 1 (serveRead item index count) s

/-- CROSSING_FLAGS, item 96 (R123). -/
def execCrossingFlags (r : Req) (values : List Word) (s : State) : Result := serve r 2 (serveWrite 96 0 values) s

/-- PIT_HEADING, item 46 (R48). -/
def execPitHeading (r : Req) (values : List Word) (s : State) : Result := serve r 2 (serveWrite 46 0 values) s

/-- CORRECTION_MODE, item 13 (R10). -/
def execCorrectionMode (r : Req) (channel : Word) (values : List Word) (s : State) : Result :=
  serve r 2 (serveWrite 13 channel values) s

/-- SPEED_LIMIT, item 20 (R21). -/
def execSpeedLimit (r : Req) (channel : Word) (values : List Word) (s : State) : Result :=
  serve r 2 (serveWrite 20 channel values) s

/-- OFFSET_LIMIT, item 17 (R11). -/
def execOffsetLimit (r : Req) (channel : Word) (values : List Word) (s : State) : Result :=
  serve r 2 (serveWrite 17 channel values) s

/-- GAIN_LIMIT, item 18 (R11). -/
def execGainLimit (r : Req) (channel : Word) (values : List Word) (s : State) : Result :=
  serve r 2 (serveWrite 18 channel values) s

/-- GAIN_MODE, item 21 (R23). -/
def execGainMode (r : Req) (channel : Word) (values : List Word) (s : State) : Result :=
  serve r 2 (serveWrite 21 channel values) s

/-- GAIN_LOW, item 22 (R23). -/
def execGainLow (r : Req) (channel : Word) (values : List Word) (s : State) : Result :=
  serve r 2 (serveWrite 22 channel values) s

/-- GAIN_HIGH, item 23 (R23). -/
def execGainHigh (r : Req) (channel : Word) (values : List Word) (s : State) : Result :=
  serve r 2 (serveWrite 23 channel values) s

/-- SWING_GEAR, item 28 (R31). -/
def execSwingGear (r : Req) (values : List Word) (s : State) : Result := serve r 2 (serveWrite 28 0 values) s

/-- HOIST_ROPE_K, item 40 (R40). -/
def execHoistRopeK (r : Req) (values : List Word) (s : State) : Result := serve r 2 (serveWrite 40 0 values) s

/-- DRAG_ROPE_K, item 41 (R40). -/
def execDragRopeK (r : Req) (values : List Word) (s : State) : Result := serve r 2 (serveWrite 41 0 values) s

/-- CAM_ZERO, item 45 (R40). -/
def execCamZero (r : Req) (values : List Word) (s : State) : Result := serve r 2 (serveWrite 45 0 values) s

/-- The item number of a fixed item (chapter 12.7). -/
def fixedNumber : FixedItem → Word
  | .sinOffset => 14#16 | .cosOffset => 15#16 | .gain => 16#16

/-- FIXED_ITEMS: FIXED_SIN_OFFSET, FIXED_COS_OFFSET or FIXED_GAIN (R10, R11). -/
def execFixedItems (r : Req) (item : FixedItem) (channel : Word) (values : List Word) (s : State) : Result :=
  serve r 2 (serveWrite (fixedNumber item) channel values) s

end Sys2Proof.Machine
end

