-- ==== Sys2Proof/Machine/Events.lean ====
section
/-! DEFINITION. The meanings of the events a marker, a COMMAND frame or a SAMPLE frame brings about. Each row is the frame that
brings the event: it is that frame's whole effect where the event comes about, and no such command, leaving everything as it is,
where it does not (assumption 1). -/

namespace Sys2Proof.Machine

/-! ### When each event comes about -/

/-- The state in which a marker is about to reach the sequencer. -/
def atSeq (number : Word) (s : State) : State := markBeforeSeq number (goodFrameSeen s)

/-- Whether a CYCLE marker makes a configured member ABSENT (R56). -/
def memberDue (d : Drive) (m : Fin 4) (s : State) : Bool :=
  match (s.dgu.members.get d)[m.val]? with
  | some x => absentDue s.items.memberSilenceLimit x
  | none => false

/-- Whether a CYCLE marker raises SHOE_MISMATCH (R145). -/
def mismatchDue (s : State) : Bool :=
  walking s.wsq.state && decide (s.items.shoeLimit ≤ mismatchNext s) && !s.alu.raised cShoeMismatch

/-- Whether a CYCLE marker raises SHOE_DISAGREE (R145). -/
def disagreeDue (s : State) : Bool :=
  walking s.wsq.state && decide (s.items.shoeLimit ≤ disagreeNext s) && !s.alu.raised cShoeDisagree

/-- What a SAMPLE frame would leave of the channel it is delivered to. -/
def sampled (src : Byte) (d : SampleData) (s : State) : Option (Channel × Channel) :=
  match sampleTarget src d s with
  | some a => some (s.chan a, (takeSample (s.chanCtx a) d (s.chan a)).run.chan)
  | none => none

/-- Whether a SAMPLE frame brings the stuck count to 16 (R9). -/
def stuckDue (src : Byte) (d : SampleData) (s : State) : Bool :=
  match sampled src d s with
  | some (old, new) => old.state != .fault && new.state == .fault && new.cause == some .stuck
  | none => false

/-- Whether a SAMPLE frame brings the settle count to 8 in ACQUIRE (R25). -/
def settledDue (src : Byte) (d : SampleData) (s : State) : Bool :=
  match sampled src d s with
  | some (old, new) => old.state == .acquire && new.state == .tracking
  | none => false

/-! ### The meanings -/

/-- A CYCLE marker that brings an event about. -/
def cycleEvent (due : Bool) (l : Link) (number : Word) (s : State) : Result :=
  if due then .next (arrival l 2 (takeCycle l number) s) else .next s

/-- A SAMPLE frame that brings an event about. -/
def sampleEvent (due : Bool) (l : Link) (d : SampleData) (s : State) : Result :=
  if due then .next (delivered kindSample l (sampleWords d) (takeSampleFrame l.src d) s) else .next s

/-- CHANNEL_STALE (R29). -/
def execChannelStale (l : Link) (number : Word) (a : Axis) (s : State) : Result :=
  cycleEvent (staleDue (s.items.channels.get a) (s.chan a)) l number s

/-- MEMBER_ABSENT (R56). -/
def execMemberAbsent (l : Link) (number : Word) (d : Drive) (m : Fin 4) (s : State) : Result :=
  cycleEvent (memberDue d m s) l number s

/-- DISCRETE_STALE (R67). -/
def execDiscreteStale (l : Link) (number : Word) (s : State) : Result :=
  cycleEvent (imageDue s.items.discreteStaleLimit s.dgu.image) l number s

/-- CMD_LOST (R89). -/
def execCmdLost (l : Link) (number : Word) (g : Axis) (s : State) : Result := cycleEvent (lossDue g s) l number s

/-- TRANSFER_TIMEOUT (R137). -/
def execTransferTimeout (l : Link) (number : Word) (s : State) : Result :=
  cycleEvent (transferDue (atSeq number s)) l number s

/-- SHOE_MISMATCH (R145). -/
def execShoeMismatch (l : Link) (number : Word) (s : State) : Result :=
  cycleEvent (mismatchDue (atSeq number s)) l number s

/-- SHOE_DISAGREE (R145). -/
def execShoeDisagree (l : Link) (number : Word) (s : State) : Result :=
  cycleEvent (disagreeDue (atSeq number s)) l number s

/-- BRAKE_DELAY_EXPIRY (R92). -/
def execBrakeDelayExpiry (l : Link) (g : Axis) (lever : Word) (s : State) : Result :=
  if brakeDelayDue g lever (goodFrameSeen s) then
    .next (arrival l 4 (takeCommand l (natWord g.code) lever) s)
  else .next s

/-- STUCK (R9). -/
def execStuck (l : Link) (d : SampleData) (s : State) : Result := sampleEvent (stuckDue l.src d s) l d s

/-- SETTLED (R25). -/
def execSettled (l : Link) (d : SampleData) (s : State) : Result := sampleEvent (settledDue l.src d s) l d s

end Sys2Proof.Machine
end

