-- ==== Sys2Proof/Machine/Dispatch.lean ====
section
/-! DEFINITION. One arm for each command: its meaning. -/

namespace Sys2Proof.Machine

def exec (i : Instr) (s : State) : Host.Outcome State Fault Refusal :=
  match i with
  | .powerOnReset => Sys2Proof.Machine.execPowerOnReset s
  | .pinReset => Sys2Proof.Machine.execPinReset s
  | .resetComplete straps => Sys2Proof.Machine.execResetComplete straps s
  | .bypassStart => Sys2Proof.Machine.execBypassStart s
  | .softReset => Sys2Proof.Machine.execSoftReset s
  | .cycle l number => Sys2Proof.Machine.execCycle l number s
  | .cab l selector pushes => Sys2Proof.Machine.execCab l selector pushes s
  | .command l group lever => Sys2Proof.Machine.execCommand l group lever s
  | .sample l d => Sys2Proof.Machine.execSample l d s
  | .discrete l low high => Sys2Proof.Machine.execDiscrete l low high s
  | .driveStatus l d => Sys2Proof.Machine.execDriveStatus l d s
  | .forwardedFrame bytes => Sys2Proof.Machine.execForwardedFrame bytes s
  | .ownFrameRemoval bytes => Sys2Proof.Machine.execOwnFrameRemoval bytes s
  | .badFrame bytes => Sys2Proof.Machine.execBadFrame bytes s
  | .frameTransmitted => Sys2Proof.Machine.execFrameTransmitted s
  | .loopSilent => Sys2Proof.Machine.execLoopSilent s
  | .read r item index count => Sys2Proof.Machine.execRead r item index count s
  | .write r item index values => Sys2Proof.Machine.execWrite r item index values s
  | .openTable r table => Sys2Proof.Machine.execOpenTable r table s
  | .loadTable r table first mode words => Sys2Proof.Machine.execLoadTable r table first mode words s
  | .closeTable r table => Sys2Proof.Machine.execCloseTable r table s
  | .abandonTable r table => Sys2Proof.Machine.execAbandonTable r table s
  | .readTable r table first count => Sys2Proof.Machine.execReadTable r table first count s
  | .start r => Sys2Proof.Machine.execStart r s
  | .stop r => Sys2Proof.Machine.execStop r s
  | .learn r channel => Sys2Proof.Machine.execLearn r channel s
  | .zero r channel values => Sys2Proof.Machine.execZero r channel values s
  | .force r condition => Sys2Proof.Machine.execForce r condition s
  | .ack r target => Sys2Proof.Machine.execAck r target s
  | .readAlarms r position count => Sys2Proof.Machine.execReadAlarms r position count s
  | .reset r => Sys2Proof.Machine.execReset r s
  | .unknownCode r code => Sys2Proof.Machine.execUnknownCode r code s
  | .discardCountRead r item index count => Sys2Proof.Machine.execDiscardCountRead r item index count s
  | .crossingFlags r values => Sys2Proof.Machine.execCrossingFlags r values s
  | .pitHeading r values => Sys2Proof.Machine.execPitHeading r values s
  | .correctionMode r channel values => Sys2Proof.Machine.execCorrectionMode r channel values s
  | .speedLimit r channel values => Sys2Proof.Machine.execSpeedLimit r channel values s
  | .offsetLimit r channel values => Sys2Proof.Machine.execOffsetLimit r channel values s
  | .gainLimit r channel values => Sys2Proof.Machine.execGainLimit r channel values s
  | .gainMode r channel values => Sys2Proof.Machine.execGainMode r channel values s
  | .gainLow r channel values => Sys2Proof.Machine.execGainLow r channel values s
  | .gainHigh r channel values => Sys2Proof.Machine.execGainHigh r channel values s
  | .swingGear r values => Sys2Proof.Machine.execSwingGear r values s
  | .hoistRopeK r values => Sys2Proof.Machine.execHoistRopeK r values s
  | .dragRopeK r values => Sys2Proof.Machine.execDragRopeK r values s
  | .camZero r values => Sys2Proof.Machine.execCamZero r values s
  | .channelStale l number channel => Sys2Proof.Machine.execChannelStale l number channel s
  | .memberAbsent l number group member => Sys2Proof.Machine.execMemberAbsent l number group member s
  | .discreteStale l number => Sys2Proof.Machine.execDiscreteStale l number s
  | .cmdLost l number group => Sys2Proof.Machine.execCmdLost l number group s
  | .transferTimeout l number => Sys2Proof.Machine.execTransferTimeout l number s
  | .shoeMismatch l number => Sys2Proof.Machine.execShoeMismatch l number s
  | .shoeDisagree l number => Sys2Proof.Machine.execShoeDisagree l number s
  | .brakeDelayExpiry l group lever => Sys2Proof.Machine.execBrakeDelayExpiry l group lever s
  | .stuck l d => Sys2Proof.Machine.execStuck l d s
  | .settled l d => Sys2Proof.Machine.execSettled l d s
  | .fixedItems r item channel values => Sys2Proof.Machine.execFixedItems r item channel values s

end Sys2Proof.Machine
end

