-- ==== Sys2Proof/Safety.lean ====
section
/-! DEFINITION. What counts as a safe state and a safe step, in the terms the statements use. Each property below is one the manual
promises of every state of the part. -/

namespace Sys2Proof.Machine

/-- A step that goes on: no command of this block faults or is refused. -/
def Continues (s : State) : Prop := ∃ t, step s = .next t

/-- The transmit queue holds up to 8 frames (R173). -/
def QueueOk (s : State) : Prop := s.lpu.queue.length ≤ Config.queueCapacity

/-- There is one record for each of the sixty conditions (R149), and the alarm list never holds more than 32 entries (R154). -/
def AlarmsOk (s : State) : Prop := s.alu.conds.length = Config.conditionCount ∧ s.alu.list.length ≤ Config.alarmCapacity

/-- Whether a listing state has an entry in the alarm list (R154). -/
def Listing.listed : Listing → Bool
  | .activeNew | .activeSeen | .goneNew => true
  | .quiet | .unlisted => false

/-- Whether a listing state is that of a condition that stands (R154). -/
def Listing.stands : Listing → Bool
  | .activeNew | .activeSeen | .unlisted => true
  | .quiet | .goneNew => false

/-- The alarm list and the listing states agree (R154, R155, R157): one entry, and no more, for each condition whose state has one; a
condition stands in the listing while it is raised and not masked; a masked condition is QUIET (R151, R153); no event stays
raised (R150); an UNLISTED condition stands only while the list is full. -/
def ListingOk (s : State) : Prop :=
  (s.alu.list.map Entry.cond).Nodup ∧ (∀ e ∈ s.alu.list, e.cond < 60 ∧ 1 ≤ e.count ∧ e.count ≤ 255) ∧ s.alu.seq < 65536
    ∧ (∀ n, n < 60 →
        ((s.alu.cond n).listing.listed = true ↔ ∃ e ∈ s.alu.list, e.cond = n)
        ∧ ((s.alu.cond n).listing.stands = true ↔ s.alu.raised n = true ∧ effMask s.tables.t10 n = false)
        ∧ (effMask s.tables.t10 n = true → (s.alu.cond n).listing = .quiet)
        ∧ ((condSpec n).event = true → s.alu.raised n = false)
        ∧ ((s.alu.cond n).listing = .unlisted → s.alu.list.length = 32))

/-- In HELD and CUT, Q is 0 (R86). -/
def RestOk (s : State) : Prop := ∀ g, (s.group g).state = .held ∨ (s.group g).state = .cut → (s.group g).q = 0

/-- While the part is HALTED every group is CUT (R95). -/
def HaltedOk (s : State) : Prop := s.mgu.mode = .halted → ∀ g, (s.group g).state = .cut

/-- A group is ACTIVE only in RUN (R91, R93). -/
def RunOk (s : State) : Prop := ∀ g, (s.group g).state = .active → s.mgu.mode = .run

/-- The states of the groups are consistent with rest, with HALTED and with RUN. -/
def GroupsOk (s : State) : Prop := RestOk s ∧ HaltedOk s ∧ RunOk s

/-- A group handed a severity of STOP or TRIP is not ACTIVE (R162). -/
def SeverityOk (s : State) : Prop := ∀ g, (s.group g).state = .active → stops (s.alu.severity.get g) = false

/-- What the ALU has handed on is what its conditions give: the group severities to the shapers (R162) and the standing TRIP to the
MGU, which is then HALTED (R163, R182). -/
def HandedOk (s : State) : Prop :=
  s.alu.severity = s.alu.groupSeverities s.tables.t10 ∧ s.mgu.tripStanding = s.alu.tripStanding s.tables.t10
    ∧ (s.mgu.tripStanding = true → s.mgu.mode = .halted)

/-- HOIST, DRAG and SWING are ACTIVE only while the walk sequencer is in DIGGING (R146). -/
def DiggingOk (s : State) : Prop := ∀ g, g ≠ .walk → (s.group g).state = .active → s.wsq.state = .digging

/-- The contactor command is WALK only in CLOSING_WALK, WALK_READY, STEPPING or FINISHING (R136). -/
def CommandOk (s : State) : Prop :=
  s.wsq.command = .walk →
    s.wsq.state = .closingWalk ∨ s.wsq.state = .walkReady ∨ s.wsq.state = .stepping ∨ s.wsq.state = .finishing

/-- The gain level of a channel lies from GAIN_LOW to GAIN_HIGH, and these from 0 to 7 (R3, R23). -/
def GainOk (s : State) : Prop :=
  ∀ a, (s.items.channels.get a).gainLow ≤ (s.chan a).gain ∧ (s.chan a).gain ≤ (s.items.channels.get a).gainHigh
    ∧ (s.items.channels.get a).gainHigh ≤ 7

/-- The correction ranges of a channel contain a set of values (R11). -/
def InCorrectionRange (it : ChannelItems) (k : Correction) : Prop :=
  -it.offsetLimit ≤ k.so ∧ k.so ≤ it.offsetLimit ∧ -it.offsetLimit ≤ k.co ∧ k.co ≤ it.offsetLimit
    ∧ 1024 - gainSpan it ≤ k.g ∧ k.g ≤ 1024 + gainSpan it

/-- The correction values in use, and the fixed items, lie within the ranges; the limits are not negative (R3, R11). -/
def CorrectionOk (s : State) : Prop :=
  ∀ a, 0 ≤ (s.items.channels.get a).offsetLimit ∧ 0 ≤ (s.items.channels.get a).gainLimit
    ∧ InCorrectionRange (s.items.channels.get a) (s.chan a).used
    ∧ InCorrectionRange (s.items.channels.get a)
        ⟨(s.items.channels.get a).fixedSin, (s.items.channels.get a).fixedCos, (s.items.channels.get a).fixedGain⟩

/-- While T0 is LIVE, T1 is LIVE as well (R74). -/
def EnvelopeTablesOk (s : State) : Prop := s.tables.t0.state = .live → s.tables.t1.state = .live

/-- While T0 is LIVE every used cell and the doubtful profile name existing records of T1, and the ENV holds a band of each drum
within its breakpoints with that cell's profile, or the doubtful one, selected (R74, R79, R80); while it is not, the ENV holds
no band and no profile (R84). -/
def EnvelopeOk (s : State) : Prop :=
  let t0 := s.tables.t0
  let e := s.env
  (t0.state = .live →
    t0.num 0 ≤ 15 ∧ t0.num 16 ≤ 15 ∧ t0.num 288 < s.tables.t1.num 0
      ∧ (∀ hb db, hb ≤ t0.num 0 → db ≤ t0.num 16 → t0.num (32 + 16 * hb + db) < s.tables.t1.num 0)
      ∧ ∃ hb db, hb ≤ t0.num 0 ∧ db ≤ t0.num 16 ∧ e.band = ⟨some hb, some db⟩
          ∧ e.cellProfile = some (t0.num (32 + 16 * hb + db))
          ∧ e.selected = (if e.lastDoubt.hoist || e.lastDoubt.drag then some (t0.num 288) else e.cellProfile))
  ∧ (t0.state ≠ .live → e.band = ⟨none, none⟩ ∧ e.cellProfile = none ∧ e.selected = none)

/-- While the part is in RUN, every table that START requires is LIVE (R180). -/
def RunTablesOk (s : State) : Prop := s.mgu.mode = .run → ∀ i ∈ startTables, (s.table i).state = .live

/-- The couplings of table states. -/
def TablesOk (s : State) : Prop := EnvelopeTablesOk s ∧ RunTablesOk s

/-- The speed caps and gains that shape a reference are in their ranges (R33, R87, R110). -/
def CapItemsOk (s : State) : Prop :=
  (0 ≤ s.items.limitCreep ∧ s.items.limitCreep ≤ 1000) ∧ (0 ≤ s.items.noDumpCap ∧ s.items.noDumpCap ≤ 1000)
    ∧ (0 ≤ s.items.doubtCreep ∧ s.items.doubtCreep ≤ 1000) ∧ (0 ≤ s.items.headingCreep ∧ s.items.headingCreep ≤ 1000)
    ∧ (0 ≤ s.items.pullbackGain ∧ s.items.pullbackGain ≤ 1000) ∧ (1 ≤ s.items.finishSpeed ∧ s.items.finishSpeed ≤ 1000)

/-- The conditions START checks (R180). -/
def ReadyToRun (s : State) : Prop :=
  (∀ i ∈ startTables, (s.table i).state = .live) ∧ (∀ a, (s.chan a).state = .tracking)
    ∧ (∀ d, (s.dgu.values.get d).form ≠ .unresolved) ∧ s.wsq.state ≠ .unsettled ∧ s.dgu.image.state = .fresh

/-- What a command leaves of the configuration: items and tables. -/
def SameConfig (s t : State) : Prop := t.items = s.items ∧ t.tables = s.tables

/-- What a command leaves of the blocks that measure: channels, member records and input image, envelope. -/
def SameMeasured (s t : State) : Prop := t.tru = s.tru ∧ t.dgu = s.dgu ∧ t.env = s.env

/-- What the loop port keeps through every command that neither resets the device nor is a marker: the own address, the number of the
last marker and the bypass (R167, R171, R176). -/
def PortKept (s t : State) : Prop :=
  t.lpu.ownAddress = s.lpu.ownAddress ∧ t.lpu.lastCycle = s.lpu.lastCycle ∧ t.lpu.bypass = s.lpu.bypass

/-- The silence timer as a good frame leaves it (R169, R175). -/
def Restarted (s t : State) : Prop :=
  t.lpu.timer = .running ∧ t.lpu.timerLength = s.items.silenceTime ∧ t.lpu.trafficSeen = true

/-- The silence timer left as it was (R175). -/
def TimerKept (s t : State) : Prop :=
  t.lpu.timer = s.lpu.timer ∧ t.lpu.timerLength = s.lpu.timerLength ∧ t.lpu.trafficSeen = s.lpu.trafficSeen

/-- A frame stands behind those that were queued, if the queue has a place for a forwarded frame; the discard count rises by one if it
has none (R173, R174). -/
def Forwarded (bs : Bytes) (s t : State) : Prop :=
  t.lpu.queue = (if s.lpu.queue.length < 8 then s.lpu.queue ++ [bs] else s.lpu.queue)
    ∧ t.lpu.discard = (if s.lpu.queue.length < 8 then s.lpu.discard else min 65535 (s.lpu.discard + 1)) ∧ PortKept s t

/-- A good frame taken and forwarded: the silence timer restarts as well (R169, R175). -/
def Delivered (bs : Bytes) (s t : State) : Prop := Forwarded bs s t ∧ Restarted s t

/-- A request is a good frame, and a response with the given status and values stands behind the frames that were queued, if the queue
has a place for an inserted frame; the discard count, `d` before, rises by one if it has none (R172 to R175, chapter 12.5). -/
def AnsweredFrom (d : Nat) (r : Req) (code status : Nat) (values : List Word) (s t : State) : Prop :=
  t.lpu.queue =
      (if s.lpu.queue.length ≤ 6 then
        s.lpu.queue ++ [frame kindResponse r.src s.ownByte
          (wordsToBytes (packBytes code status :: r.tag :: natWord values.length :: values))]
      else s.lpu.queue)
    ∧ t.lpu.discard = (if s.lpu.queue.length ≤ 6 then d else min 65535 (d + 1)) ∧ PortKept s t ∧ Restarted s t

/-- An answer to a request that leaves the discard count to the queue (R172, R173). -/
def Answered (r : Req) (code status : Nat) (values : List Word) (s t : State) : Prop :=
  AnsweredFrom s.lpu.discard r code status values s t

/-- What every block but the loop port holds is as it was, and of the port all but its queue, discard count and timer: the command was
refused, or only forwarded. -/
def NothingElse (s t : State) : Prop := (∃ l, t = s.withLpu l) ∧ PortKept s t

/-- A word `v` loaded at index `n` is stored as `w`: as sent, but in T10 with a severity above 4 taken as TRIP and raised to the floor,
and no mask under a floor of STOP or TRIP (R152, R188). That the unused bits are stored as sent is the model's choice
(assumption 21). -/
def LoadedAs (i : TableId) (n : Nat) (v w : Word) : Prop :=
  if i = .t10 then
    w.toNat % 8 = max (min 4 (v.toNat % 8)) (condSpec n).floor.code
      ∧ w.getLsbD 15 = (v.getLsbD 15 && decide ((condSpec n).floor.code < 3))
      ∧ w.toNat % 32768 / 8 = v.toNat % 32768 / 8
  else w = v

/-- No condition that a COMMAND frame may raise or report has the severity TRIP, what the ALU handed on is up to date, and the
sequencer waits for no group that is already at rest: the frame leaves the part mode as it is. -/
def FrameQuiet (s : State) : Prop :=
  AlarmsOk s ∧ HandedOk s
    ∧ (∀ n ∈ [cTightline, cSwingAtEdge, cWalkDenied, cHeadingUnconfirmed], effSeverity s.tables.t10 n ≠ .trip)
    ∧ (walking s.wsq.state = true → (s.group .walk).moving = true)
    ∧ (s.wsq.state = .openingDrag → s.wsq.command = .drag → (s.group .drag).moving = true)

/-- What an acknowledgement of the conditions `ns` leaves of the alarm list and the records (R154, R157, R158): ACTIVE_NEW becomes
ACTIVE_SEEN and GONE_NEW QUIET, its entry removed; for each removal one UNLISTED condition, while any stands, is appended anew, the
highest effective severity first and among equals the lowest number; every other listing state, and every raw state, detail and
forced flag, is as it was. -/
def Acknowledged (ns : List Nat) (s t : State) : Prop :=
  let gone (n : Nat) : Bool := ns.contains n && (s.alu.cond n).listing == .goneNew
  let kept := s.alu.list.filter (fun e => !gone e.cond)
  ∃ new : List Entry, t.alu.list = kept ++ new
    ∧ new.length = min (s.alu.list.length - kept.length) s.alu.unlistedCount
    ∧ (∀ k (h : k < new.length), new[k].count = 1 ∧ new[k].seq = (s.alu.seq + k) % 65536 ∧ new[k].cycle = s.lpu.lastCycle
        ∧ (s.alu.cond new[k].cond).listing = .unlisted ∧ new[k].cond < 60
        ∧ ∀ m, m < 60 → (s.alu.cond m).listing = .unlisted → (∀ j (h' : j < new.length), j ≤ k → new[j].cond ≠ m) →
            (effSeverity s.tables.t10 m).code < (effSeverity s.tables.t10 new[k].cond).code
              ∨ ((effSeverity s.tables.t10 m).code = (effSeverity s.tables.t10 new[k].cond).code ∧ new[k].cond < m))
    ∧ t.alu.seq = (if new = [] then s.alu.seq else (s.alu.seq + new.length) % 65536)
    ∧ ∀ n, n < 60 → t.alu.cond n = { s.alu.cond n with
        listing := match (s.alu.cond n).listing with
          | .activeNew => if ns.contains n then .activeSeen else .activeNew
          | .goneNew => if ns.contains n then .quiet else .goneNew
          | .unlisted => if new.any (fun e => e.cond == n) then .activeNew else .unlisted
          | x => x }

/-- The sequencer reacts to no change of the groups' states: it neither walks nor waits for DRAG to rest (R136, R144). -/
def SequencerIdle (s : State) : Prop := s.wsq.state ≠ .openingDrag ∧ walking s.wsq.state = false

/-! ### The walk request (R135) -/

/-- Check `n` of a walk request passes; numbers above 8 name none. -/
def WalkCheck (s : State) : Nat → Prop
  | 1 => s.mgu.mode = .run
  | 2 => ∃ r, s.env.selected = some r ∧ s.tables.t1.num (1 + 13 * r + 12) % 2 = 1
  | 3 => (s.group .hoist).state = .held
  | 4 => (s.group .swing).state = .held
  | 5 => s.wsq.brake = true
  | 6 => (s.group .drag).lastLever = some 0
  | 7 => (s.group .walk).lastLever = some 0
  | 8 => s.dgu.members.drag ≠ [] ∧ ∀ m ∈ s.dgu.members.drag, m.presence ≠ .absent
  | _ => True

/-! ### What CLOSE accepts of each table, in the words of its chapter -/

/-- T9 (R51). -/
def ValidT9 (t : Table) (own : Nat) : Prop :=
  let used (i : Nat) : Prop := ∃ g < 3, ∃ k < t.num (6 * g), i = 6 * g + 1 + k
  (∀ g < 3, 1 ≤ t.num (6 * g) ∧ t.num (6 * g) ≤ 4 ∧ t.num (6 * g + 5) ≤ 2)
    ∧ (∀ i, used i → t.num i ≤ 31 ∧ t.num i ≠ own) ∧ ∀ i j, used i → used j → i ≠ j → t.num i ≠ t.num j

/-- T1 (R71, R72). -/
def ValidT1 (t : Table) : Prop :=
  1 ≤ t.num 0 ∧ t.num 0 ≤ 32
    ∧ ∀ r < t.num 0, ∀ f < 13,
        t.num (1 + 13 * r + f)
          ≤ (match f with
            | 0 => 4
            | 3 | 4 | 7 | 8 | 10 => 2000
            | 11 => 4000
            | 12 => 1
            | _ => 1000)

/-- The breakpoints of one drum, from the word of their count (R73). -/
def ValidBreaks (t : Table) (base : Nat) : Prop :=
  1 ≤ t.num base ∧ t.num base ≤ 15
    ∧ ∀ k < t.num base, t.num (base + 1 + k) ≤ 65000 ∧ (k ≠ 0 → t.num (base + k) < t.num (base + 1 + k))

/-- T0 against T1 (R73). -/
def ValidT0 (t t1 : Table) : Prop :=
  t1.state = .live ∧ ValidBreaks t 0 ∧ ValidBreaks t 16 ∧ t.num 288 < t1.num 0
    ∧ ∀ hb ≤ t.num 0, ∀ db ≤ t.num 16, t.num (32 + 16 * hb + db) < t1.num 0

/-- A curve, T2 to T5, whose point 0 is (0, 0) (R96). -/
def ValidCurve (t : Table) : Prop :=
  1 ≤ t.num 0 ∧ t.num 0 ≤ 8
    ∧ ∀ k < t.num 0, t.num (2 * k + 1) ≤ 1000 ∧ t.num (2 * k + 2) ≤ 1000
        ∧ (if k = 0 then 0 else t.num (2 * k - 1)) < t.num (2 * k + 1)
        ∧ (if k = 0 then 0 else t.num (2 * k)) ≤ t.num (2 * k + 2)

/-- T6 (R112, R113). -/
def ValidT6 (t : Table) : Prop :=
  t.num 0 ≤ 8
    ∧ ∀ k < t.num 0,
        (let f (i : Nat) := t.num (1 + 7 * k + i)
         f 0 ≤ 2 ∧ f 1 ≤ 35999 ∧ f 2 ≤ 35999 ∧ f 2 ≠ f 1 ∧ f 3 ≤ 18000 ∧ (f 4 = 0 ∨ (f 3 < f 4 ∧ f 4 ≤ 18000))
          ∧ f 5 ≤ 1000 ∧ f 6 ≤ 1000)

/-- T7 (R121). -/
def ValidT7 (t : Table) : Prop := t.num 0 ≤ 4 ∧ ∀ k < t.num 0, t.num (1 + 2 * k) ≤ 35999 ∧ t.num (2 + 2 * k) ≤ 1

/-- T8 (R132). -/
def ValidT8 (t : Table) : Prop :=
  let f (k i : Nat) := t.num (1 + 4 * k + i)
  2 ≤ t.num 0 ∧ t.num 0 ≤ 12 ∧ f 0 0 = 0 ∧ (∀ k, k + 1 < t.num 0 → f k 0 < f (k + 1) 0 ∧ f (k + 1) 0 ≤ 359)
    ∧ (∀ k < t.num 0, f k 1 ≤ 1000 ∧ f k 2 ≤ 2 ∧ f k 3 ≤ 1) ∧ ∃ k < t.num 0, f k 3 = 1 ∧ ∀ j < t.num 0, f j 3 = 1 → j = k

/-- T10 (R152). -/
def ValidT10 (t : Table) : Prop :=
  ∀ n < 60, (condSpec n).floor.code ≤ t.num n % 8 ∧ (3 ≤ (condSpec n).floor.code → (t.words.getD n 0).getLsbD 15 = false)

/-- What CLOSE accepts of a table. -/
def ValidTable (i : TableId) (s : State) : Prop :=
  match i with
  | .t0 => ValidT0 s.tables.t0 s.tables.t1
  | .t1 => ValidT1 s.tables.t1
  | .t2 => ValidCurve s.tables.t2
  | .t3 => ValidCurve s.tables.t3
  | .t4 => ValidCurve s.tables.t4
  | .t5 => ValidCurve s.tables.t5
  | .t6 => ValidT6 s.tables.t6
  | .t7 => ValidT7 s.tables.t7
  | .t8 => ValidT8 s.tables.t8
  | .t9 => ValidT9 s.tables.t9 s.lpu.ownAddress
  | .t10 => ValidT10 s.tables.t10

/-! ### Items of which a write only stores the value (R186, chapter 12.7) -/

/-- An item number, its range, and where its value is stored. -/
structure StoredItem (α : Type) where
  number : Nat
  lo : Int
  hi : Int
  put : Int → α → α

/-- The items of the part with a numeric range that no block acts on when they are written. -/
def plainItems : List (StoredItem Items) :=
  [⟨7, 2, 100, fun v it => { it with silenceTime := v.toNat }⟩,
    ⟨42, 0, 65000, fun v it => { it with markPayout := { it.markPayout with hoist := v } }⟩,
    ⟨43, 0, 65000, fun v it => { it with markPayout := { it.markPayout with drag := v } }⟩,
    ⟨44, 0, 35999, fun v it => { it with markAngle := v }⟩,
    ⟨47, 0, 1000, fun v it => { it with doubtCreep := v }⟩, ⟨48, 0, 1000, fun v it => { it with headingCreep := v }⟩,
    ⟨60, 1, 15, fun v it => { it with memberSilenceLimit := v.toNat }⟩,
    ⟨61, 0, 31, fun v it => { it with inputNode := v.toNat }⟩,
    ⟨62, 1, 15, fun v it => { it with discreteStaleLimit := v.toNat }⟩,
    ⟨72, 0, 2000, fun v it => { it with hysteresis := v }⟩,
    ⟨85, 1, 15, fun v it => { it with commandLossLimit := v.toNat }⟩,
    ⟨86, 0, 1000, fun v it => { it with limitCreep := v }⟩, ⟨87, 0, 1000, fun v it => { it with noDumpCap := v }⟩,
    ⟨88, 0, 2000, fun v it => { it with tightlineFloor := v }⟩,
    ⟨89, 0, 1000, fun v it => { it with pullbackGain := v }⟩, ⟨93, 0, 2000, fun v it => { it with adaptBase := v }⟩,
    ⟨94, 0, 2000, fun v it => { it with adaptFloor := v }⟩, ⟨95, 1, 100, fun v it => { it with adaptStep := v }⟩,
    ⟨101, 1, 255, fun v it => { it with transferLimit := v.toNat }⟩,
    ⟨102, 1, 1000, fun v it => { it with finishSpeed := v }⟩,
    ⟨103, 1, 255, fun v it => { it with shoeLimit := v.toNat }⟩]

/-- The items of a motion group (R87). -/
def plainGroupItems : List (StoredItem GroupItems) :=
  [⟨80, 0, 200, fun v it => { it with deadband := v }⟩, ⟨81, 1, 1000, fun v it => { it with accel := v }⟩,
    ⟨82, 1, 1000, fun v it => { it with decel := v }⟩, ⟨83, 1, 1000, fun v it => { it with stop := v }⟩,
    ⟨84, 1, 255, fun v it => { it with brakeDelay := v.toNat }⟩]

/-- The items of a channel with a range of their own that the channel only reads (R3). -/
def plainChannelItems : List (StoredItem ChannelItems) :=
  [⟨10, 0, 31, fun v it => { it with sampleSource := v.toNat }⟩,
    ⟨19, 64, 1024, fun v it => { it with lossLevel := v }⟩, ⟨27, 1, 15, fun v it => { it with staleLimit := v.toNat }⟩]

end Sys2Proof.Machine
end

