-- ==== Sys2Proof/WellFormed.lean ====
section
/-! DEFINITION. Which commands are well formed: the operands the loop, the pins and the management requests can carry. -/

namespace Sys2Proof

open Machine

/-- A node address, 0 to 31 (chapter 9.2). -/
def isNode (b : Byte) : Bool := decide (b.toNat ≤ 31)

/-- A destination: a node, or 63 for broadcast. -/
def isDestination (b : Byte) : Bool := isNode b || b == broadcast

/-- A link whose surplus leaves the payload of a kind within 48 bytes. -/
def Link.wellFormed (size : Nat) (l : Link) : Bool := isDestination l.dest && isNode l.src && fits l size

/-- A request comes from a node. -/
def Req.wellFormed (r : Req) : Bool := isNode r.src

/-- A request carries up to 20 value words (R184). -/
def valuesFit (vs : List Word) : Bool := decide (vs.length ≤ 20)

/-- Whether a command is well formed for a node with the given own address: its frame can stand on the loop and is one of its own
row's. -/
def Instr.wellFormed (own : Byte) : Instr → Bool
  | .powerOnReset | .pinReset | .resetComplete _ | .bypassStart | .softReset | .frameTransmitted | .loopSilent => true
  | .cycle l _ | .channelStale l _ _ | .memberAbsent l _ _ _ | .discreteStale l _ | .cmdLost l _ _
  | .transferTimeout l _ | .shoeMismatch l _ | .shoeDisagree l _ => l.wellFormed 2
  | .cab l _ _ | .command l _ _ | .discrete l _ _ | .brakeDelayExpiry l _ _ => l.wellFormed 4
  | .sample l _ | .stuck l _ | .settled l _ => l.wellFormed 8
  | .driveStatus l _ => l.wellFormed 12
  | .forwardedFrame bs => onlyForwarded own bs
  | .ownFrameRemoval bs => badReason bs == none && returnsOwn own bs
  | .badFrame bs => (badReason bs).isSome
  | .read r item index count => r.wellFormed && !readsDiscard item index count
  | .discardCountRead r item index count => r.wellFormed && readsDiscard item index count
  | .write r item _ vs => r.wellFormed && valuesFit vs && !specialItems.contains item.toNat
  | .loadTable r _ _ _ vs | .zero r _ vs => r.wellFormed && valuesFit vs
  | .openTable r _ | .closeTable r _ | .abandonTable r _ | .readTable r _ _ _ | .start r | .stop r | .learn r _
  | .force r _ | .ack r _ | .readAlarms r _ _ | .reset r => r.wellFormed
  | .unknownCode r code => r.wellFormed && (decide (code.toNat = 0) || decide (15 < code.toNat))
  | .crossingFlags r vs | .pitHeading r vs | .swingGear r vs | .hoistRopeK r vs | .dragRopeK r vs | .camZero r vs =>
    r.wellFormed && valuesFit vs
  | .correctionMode r _ vs | .speedLimit r _ vs | .offsetLimit r _ vs | .gainLimit r _ vs | .gainMode r _ vs
  | .gainLow r _ vs | .gainHigh r _ vs | .fixedItems r _ _ vs => r.wellFormed && valuesFit vs

end Sys2Proof
end

