-- ==== Sys2Proof/Certificates/Slice0/Obligations.lean ====
section
/-! DEFINITION. The statements for the provers. -/

open Sys2Proof Sys2Proof.Machine

/-! ### The machine as a whole -/

/-- A step runs the command at the front of the queue on the state with the rest of the queue. On an empty queue the block idles,
which is the model's choice (assumption 3). -/
def Obligations.StepRunsFrontCommand : Prop :=
  ∀ s : State, (∀ c rest, s.pending = c :: rest → step s = exec c (s.withPending rest))
    ∧ (s.pending = [] → step s = .next s)

/-- Every invariant below holds in the state after power-on reset. -/
def Obligations.ResetStateIsSafe : Prop :=
  QueueOk State.reset ∧ AlarmsOk State.reset ∧ ListingOk State.reset ∧ GroupsOk State.reset ∧ SeverityOk State.reset
    ∧ HandedOk State.reset ∧ DiggingOk State.reset ∧ CommandOk State.reset ∧ GainOk State.reset ∧ CorrectionOk State.reset
    ∧ TablesOk State.reset ∧ EnvelopeOk State.reset ∧ CapItemsOk State.reset

/-- "The transmit queue holds up to 8 frames" (R173): every step keeps it so. -/
def Obligations.StepKeepsQueueCapacity : Prop := ∀ s t, QueueOk s → step s = .next t → QueueOk t

/-- "The alarm list never holds more than 32 entries, nor two entries for the same condition" (R154): every step keeps it so, with the
listing states in agreement with the list. "The listed count and the count of UNLISTED conditions together equal the number of
conditions that are not QUIET and not masked" then. -/
def Obligations.StepKeepsAlarmCapacity : Prop :=
  (∀ s t, AlarmsOk s → step s = .next t → AlarmsOk t)
  ∧ (∀ s t, AlarmsOk s → ListingOk s → step s = .next t → ListingOk t)
  ∧ (∀ s, ListingOk s →
      s.alu.list.length + s.alu.unlistedCount
        = ((List.range 60).filter (fun n => (s.alu.cond n).listing != .quiet && !effMask s.tables.t10 n)).length)

/-- In HELD and CUT Q is 0, in HALTED every group is CUT, and a group is ACTIVE only in RUN (R86, R91, R93, R95): every step keeps
it so. -/
def Obligations.StepKeepsGroupStates : Prop := ∀ s t, GroupsOk s → step s = .next t → GroupsOk t

/-- A group handed a severity of STOP or TRIP is never ACTIVE (R162): every step keeps it so, with the severities handed the highest
over the level conditions that stand (R162), and the part HALTED while a TRIP stands (R163). -/
def Obligations.StepKeepsSeverityStops : Prop :=
  (∀ s t, SeverityOk s → step s = .next t → SeverityOk t) ∧ (∀ s t, HandedOk s → step s = .next t → HandedOk t)

/-- "HOIST, DRAG and SWING groups are ACTIVE only while the walk sequencer is in DIGGING" (R146): every step keeps it so. -/
def Obligations.StepKeepsDiggingInterlock : Prop := ∀ s t, DiggingOk s → step s = .next t → DiggingOk t

/-- The contactor command is WALK only in CLOSING_WALK, WALK_READY, STEPPING or FINISHING (R136): every step keeps it so. -/
def Obligations.StepKeepsContactorCommand : Prop := ∀ s t, CommandOk s → step s = .next t → CommandOk t

/-- "The gain level of every channel therefore lies from Llow to Lhigh in every state" (R23): every step keeps it so. -/
def Obligations.StepKeepsGainLevels : Prop := ∀ s t, GainOk s → step s = .next t → GainOk t

/-- "The correction values in use by a channel always lie within its offset range and gain range" (R11): every step keeps it so. -/
def Obligations.StepKeepsCorrectionRanges : Prop := ∀ s t, CorrectionOk s → step s = .next t → CorrectionOk t

/-- While T0 is LIVE T1 is LIVE as well, every used cell and the doubtful profile name existing records, and the ENV's bands and
profile are theirs (R74, R79, R80, R84); in RUN every table START requires is LIVE (R180): every step keeps it so. -/
def Obligations.StepKeepsTableStates : Prop :=
  (∀ s t, TablesOk s → step s = .next t → TablesOk t)
  ∧ (∀ s t, TablesOk s → EnvelopeOk s → step s = .next t → EnvelopeOk t)

/-- The caps and gains that shape a reference stay in their ranges, whatever is written to them (R33, R87, R130, R186). -/
def Obligations.StepKeepsCapItems : Prop := ∀ s t, CapItemsOk s → step s = .next t → CapItemsOk t

/-! ### Frames, bypass and resets -/

/-- The bytes of every well-formed frame command are classified at port A as that command (R168, R169, R184). -/
def Obligations.FrameBytesClassify : Prop :=
  ∀ (own : Byte) (c : Instr) (bs : Bytes), c.wellFormed own = true → bytesOf own c = some bs → classify own bs = c

/-- "Over the nine ASCII bytes of the digits 1 to 9 it gives 29B1h" (R168); and four measured angles (R18). -/
def Obligations.CheckAndAngleSamples : Prop :=
  crc [0x31#8, 0x32#8, 0x33#8, 0x34#8, 0x35#8, 0x36#8, 0x37#8, 0x38#8, 0x39#8] = 0x29B1#16
    ∧ measuredAngle 1000 0 = 0 ∧ measuredAngle 0 1000 = 16384 ∧ measuredAngle (-1000) 0 = 32768
    ∧ measuredAngle 0 (-1000) = 49152

/-- POWER_ON_RESET and PIN_RESET (R176, R191): every table EMPTY with every word 0, the part in STANDBY, last levers and reset push
absent, the queue lost, bypass begun; whatever the state before. -/
def Obligations.PowerOnAndPinReset : Prop :=
  ∀ s : State, ∃ t, exec .powerOnReset s = .next t ∧ exec .pinReset s = .next t
    ∧ (∀ i, (t.table i).state = .empty ∧ ∀ w ∈ (t.table i).words, w = 0#16)
    ∧ t.items = Items.reset ∧ t.mgu.mode = .standby ∧ t.mgu.lastLevers = .all none ∧ t.mgu.lastReset = none
    ∧ t.lpu.queue = [] ∧ t.lpu.discard = 0 ∧ t.lpu.lastCycle = 0 ∧ t.lpu.bypass = .reset
    ∧ (∀ a, (t.chan a).state = .unlocked ∧ (t.chan a).gain = 6) ∧ (∀ g, (t.group g).state = .held ∧ (t.group g).q = 0)
    ∧ t.wsq.state = .unsettled ∧ t.wsq.command = .keep ∧ t.dgu.image.state = .unloaded ∧ t.env.selected = none
    ∧ t.pending = s.pending

/-- RESET_COMPLETE (R176): the straps are read; bypass ends and the silence timer starts unless the address is 0, 1 or 31; no
other block is touched. -/
def Obligations.ResetCompletes : Prop :=
  ∀ (straps : BitVec 5) (s : State), s.lpu.bypass = .reset →
    ∃ t, exec (.resetComplete straps) s = .next t
      ∧ (if straps = 0#5 ∨ straps = 1#5 ∨ straps = 31#5 then
          t.lpu.bypass ≠ .off ∧ t = s.withLpu { s.lpu with ownAddress := straps.toNat, bypass := t.lpu.bypass }
        else t = s.withLpu { s.lpu with
          ownAddress := straps.toNat, bypass := .off, timer := .running, timerLength := s.items.silenceTime })

/-- BYPASS_START (R176, R177): with a RESET request answered and the queue empty the device enters bypass, and nothing else changes.
In bypass no frame and no request is taken: whatever arrives at port A leaves the state as it is. That the command leaves the
state as it is where no bypass is due is the model's choice (assumption 1), and so is asking for an empty queue, and no more of
the response's time on the loop (assumption 14). -/
def Obligations.BypassRules : Prop :=
  (∀ s : State,
    (s.mgu.resetPending = true → s.lpu.bypass = .off → s.lpu.queue = [] →
      ∃ t, exec .bypassStart s = .next t ∧ t = s.withLpu { s.lpu with bypass := .soft })
    ∧ ((s.mgu.resetPending = false ∨ s.lpu.bypass ≠ .off ∨ s.lpu.queue ≠ []) → exec .bypassStart s = .next s))
  ∧ (∀ (own : Byte) (c : Instr) (bs : Bytes) (s : State), bytesOf own c = some bs → s.lpu.bypass ≠ .off →
      exec c s = .next s)

/-- SOFT_RESET (R167, R190): items keep their values, LIVE tables stay and the others are EMPTY and cleared, the address is kept,
the discard count and cycle number are 0, the timer runs, and channels, groups and sequencer take their reset values. -/
def Obligations.SoftResetTaken : Prop :=
  ∀ s : State, s.lpu.bypass = .soft →
    ∃ t, exec .softReset s = .next t ∧ t.items = s.items
      ∧ (∀ i, if (s.table i).state = .live then t.table i = s.table i
        else (t.table i).state = .empty ∧ (∀ w ∈ (t.table i).words, w = 0#16)
          ∧ (t.table i).words.length = (s.table i).words.length)
      ∧ t.lpu.ownAddress = s.lpu.ownAddress ∧ t.lpu.queue = [] ∧ t.lpu.discard = 0 ∧ t.lpu.lastCycle = 0
      ∧ t.lpu.timer = .running ∧ t.lpu.timerLength = s.items.silenceTime ∧ t.lpu.trafficSeen = false ∧ t.lpu.bypass = .off
      ∧ t.mgu.mode ≠ .run ∧ t.mgu.lastLevers = .all none ∧ t.mgu.lastReset = none ∧ t.mgu.resetPending = false
      ∧ (∀ a, (t.chan a).state = .unlocked ∧ (t.chan a).phase = 0 ∧ (t.chan a).turns = 0)
      ∧ (∀ g, (t.group g).q = 0 ∧ (t.group g).neutralSeen = false ∧ (t.group g).lastLever = none)
      ∧ t.pos.doubtful = .all true ∧ t.pos.headingConfirmed = false
      ∧ t.pos.relative = (0 - s.items.pitHeading) % 36000 ∧ t.pos.cam = s.items.camZero % 360
      ∧ t.wsq.state = .unsettled ∧ t.wsq.command = .keep ∧ t.wsq.steps = 0 ∧ t.swu.fifo = []
      ∧ t.dgu.image.state = .unloaded ∧ t.pending = s.pending

/-- CYCLE (R171, R124): the number is taken, the timer restarts, LOOP_SILENT falls, every arrival note is cleared, the hoist torque
that the DGU's marker work leaves is pushed, and the marker is forwarded with the STATE frame of what the blocks' marker work leaves
behind it (R192), which clears the PULSE flags (R123); where the STATE frame does not enter they stand and the discard count rises
(R173, R174); no item and no table changes. The blocks' order within one marker is the model's choice (assumption 5). -/
def Obligations.CycleMarker : Prop :=
  ∀ (l : Link) (n : Word) (s : State), s.lpu.bypass = .off → fits l 2 = true →
    ∃ t, exec (.cycle l n) s = .next t
      ∧ t.lpu.lastCycle = n.toNat ∧ t.lpu.timer = .running ∧ t.lpu.timerLength = s.items.silenceTime
      ∧ t.lpu.trafficSeen = true ∧ t.lpu.ownAddress = s.lpu.ownAddress ∧ t.lpu.bypass = .off
      ∧ t.alu.raised cLoopSilent = false
      ∧ (∀ a, (t.chan a).note = false) ∧ (∀ g, (t.group g).note = false) ∧ t.dgu.image.note = false
      ∧ (∀ d, ∀ m ∈ t.dgu.members.get d, m.note = false)
      ∧ t.swu.fifo = (s.swu.fifo ++ [t.dgu.values.hoist.torque]).drop (s.swu.fifo.length + 1 - 8)
      ∧ (let u := seqMarker (markBeforeSeq n (goodFrameSeen s))
         let w (k : Nat) : Word := (stateWords u).getD k 0
         t = (u.withLpu t.lpu).withSwu { u.swu with marks := t.swu.marks }
         ∧ (s.lpu.queue.length ≤ 5 →
             t.lpu.queue = s.lpu.queue ++ [received kindCycle l [n], frame kindState broadcast s.ownByte (wordsToBytes (stateWords u))]
               ∧ t.lpu.discard = s.lpu.discard)
         ∧ (s.lpu.queue.length = 6 ∨ s.lpu.queue.length = 7 →
             t.lpu.queue = s.lpu.queue ++ [received kindCycle l [n]] ∧ t.lpu.discard = min 65535 (s.lpu.discard + 1))
         ∧ (8 ≤ s.lpu.queue.length → t.lpu.queue = s.lpu.queue ∧ t.lpu.discard = min 65535 (s.lpu.discard + 2))
         ∧ (stateWords u).length = 24 ∧ w 0 = n ∧ w 2 = natWord s.lpu.discard ∧ (w 13).toNat % 256 = n.toNat % 7
         ∧ (w 1).toNat / 16384 = u.mgu.mode.code ∧ (w 1).toNat / 1024 % 16 = u.wsq.state.code
         ∧ (w 1).toNat / 256 % 4 = u.wsq.command.code ∧ w 4 = packBytes u.alu.list.length u.alu.newCount
         ∧ (stateWords u).take 16 = fixedWords u ∧ (stateWords u).drop 16 = pageWords u (n.toNat % 7)
         ∧ (n.toNat % 7 = 0 → w 16 = wordOf u.pos.payout.hoist ∧ w 17 = wordOf u.pos.payout.drag ∧ w 18 = wordOf u.pos.house
             ∧ w 19 = wordOf u.pos.relative ∧ w 20 = wordOf u.pos.cam)
         ∧ (n.toNat % 7 = 1 → w 17 = wordOf u.dgu.values.hoist.torque ∧ w 18 = wordOf u.dgu.values.hoist.speed
             ∧ w 20 = wordOf u.dgu.values.drag.torque ∧ w 21 = wordOf u.dgu.values.drag.speed
             ∧ w 23 = wordOf u.dgu.values.swing.torque)
         ∧ (n.toNat % 7 = 2 → w 16 = wordOf u.dgu.values.swing.speed ∧ w 17 = u.dgu.image.inputs.setWidth 16
             ∧ w 18 = (u.dgu.image.inputs >>> 16).setWidth 16 ∧ w 21 = wordOf u.wsq.steps
             ∧ w 23 = packBytes u.wsq.mismatch u.wsq.disagree)
         ∧ (∀ g : Axis, n.toNat % 7 = 3 + g.code → w 17 = wordOf (u.group g).q ∧ w 18 = wordOf (u.group g).lastRef.speed
             ∧ w 19 = wordOf (u.group g).lastRef.motoring ∧ w 20 = wordOf (u.group g).lastRef.regen
             ∧ (w 16).toNat / 16384 = (u.group g).state.code))
      ∧ (s.lpu.queue.length ≤ 5 → ∀ m ∈ t.swu.marks, m.pulse = false)
      ∧ (6 ≤ s.lpu.queue.length → ∀ k, (s.swu.marks.getD k .reset).pulse = true → (t.swu.marks.getD k .reset).pulse = true)
      ∧ SameConfig s t ∧ t.pending = s.pending

/-- CAB (R49, R131, R158, R169, R179): the selector and the three pushes are taken as last seen and the frame is forwarded; no item,
table, channel, member record or envelope value changes. A reset edge leaves HALTED only when no TRIP stands and every lever is
neutral (R183); a confirm edge confirms the heading (R49, R50); an acknowledge edge acknowledges every entry unless the method is
READ (R158); a WALK edge in DIGGING is checked and begins the transfer (R135, R136), elsewhere it ends a pending return (R131); a
DIG edge acts by the state of the sequencer (R138). Each edge is stated for a frame that brings no other edge before it. -/
def Obligations.CabFrame : Prop :=
  (∀ (l : Link) (selector pushes : Word) (s : State), s.lpu.bypass = .off → fits l 4 = true →
    ∃ t, exec (.cab l selector pushes) s = .next t
      ∧ t.wsq.selector = some (if selector = 0#16 then .dig else .walk)
      ∧ t.pos.lastConfirm = some (pushes.getLsbD 2) ∧ t.alu.lastAck = some (pushes.getLsbD 0)
      ∧ t.mgu.lastReset = some (pushes.getLsbD 1)
      ∧ Delivered (received kindCab l [selector, pushes]) s t
      ∧ SameConfig s t ∧ SameMeasured s t ∧ t.pending = s.pending)
  ∧ (∀ (pressed : Bool) (s : State), s.mgu.mode = .halted →
      (s.mgu.lastReset = some false ∧ pressed = true ∧ s.mgu.tripStanding = false
          ∧ (∀ g, s.mgu.lastLevers.get g = some 0) →
        (takeResetPush pressed s).mgu.mode = .standby
          ∧ ∀ g, ((takeResetPush pressed s).group g).state = .held
            ∧ ((takeResetPush pressed s).group g).neutralSeen = false)
      ∧ (¬ (s.mgu.lastReset = some false ∧ pressed = true ∧ s.mgu.tripStanding = false
          ∧ ∀ g, s.mgu.lastLevers.get g = some 0) →
        (takeResetPush pressed s).mgu.mode = .halted ∧ (takeResetPush pressed s).groups = s.groups))
  ∧ (∀ (l : Link) (selector pushes : Word) (s : State), s.lpu.bypass = .off → fits l 4 = true → AlarmsOk s → HandedOk s →
      SequencerIdle s → (s.wsq.selector = none ∨ s.wsq.selector = some (if selector = 0#16 then .dig else .walk)) →
      ∃ t, exec (.cab l selector pushes) s = .next t
        ∧ t.wsq = { s.wsq with selector := some (if selector = 0#16 then .dig else .walk) }
        ∧ (let edge := s.pos.lastConfirm = some false ∧ pushes.getLsbD 2 = true
           (edge → t.pos = { s.pos with headingConfirmed := true, lastConfirm := some true } ∧ t.swu.heldHeading = true
              ∧ t.alu.raised cHeadingUnconfirmed = false)
            ∧ (¬ edge → t.pos = { s.pos with lastConfirm := some (pushes.getLsbD 2) } ∧ t.swu = s.swu
              ∧ (ListingOk s → s.alu.lastAck = some false → pushes.getLsbD 0 = true → s.items.ackMethod ≠ .read →
                  Acknowledged (s.alu.list.map Entry.cond) s t)
              ∧ (s.alu.lastAck ≠ some false ∨ pushes.getLsbD 0 = false ∨ s.items.ackMethod = .read →
                  t.alu = { s.alu with lastAck := some (pushes.getLsbD 0) })
              ∧ (GroupsOk s → s.mgu.mode = .halted →
                  (s.mgu.lastReset = some false ∧ pushes.getLsbD 1 = true ∧ s.alu.tripStanding s.tables.t10 = false
                      ∧ (∀ g, s.mgu.lastLevers.get g = some 0) →
                    t.mgu.mode = .standby ∧ ∀ g, (t.group g).state = .held ∧ (t.group g).q = 0 ∧ (t.group g).neutralSeen = false)
                  ∧ (¬ (s.mgu.lastReset = some false ∧ pushes.getLsbD 1 = true ∧ s.alu.tripStanding s.tables.t10 = false
                      ∧ ∀ g, s.mgu.lastLevers.get g = some 0) →
                    t.mgu.mode = .halted ∧ t.groups = s.groups)))))
  ∧ (∀ (l : Link) (selector : Word) (s : State), s.lpu.bypass = .off → fits l 4 = true → AlarmsOk s → HandedOk s →
      s.wsq.selector = some .dig → selector ≠ 0#16 → s.wsq.state = .digging →
      (∀ n, 1 ≤ n → n ≤ 8 → ¬ WalkCheck s n → (∀ k, k < n → WalkCheck s k) →
        ∃ t, exec (.cab l selector 0) s = .next t ∧ t.wsq = { s.wsq with selector := some .walk }
          ∧ (t.alu.cond cWalkDenied).detail = some n
          ∧ (effMask s.tables.t10 cWalkDenied = false → (s.alu.cond cWalkDenied).listing = .quiet → s.alu.list.length < 32 →
              t.alu.list = s.alu.list ++ [⟨cWalkDenied, 1, s.alu.seq, s.lpu.lastCycle⟩]))
      ∧ ((∀ n, WalkCheck s n) →
        ∃ t, exec (.cab l selector 0) s = .next t ∧ t.alu.list = s.alu.list
          ∧ t.wsq.transfer = 0 ∧ t.wsq.steps = 0 ∧ t.wsq.returnPending = false ∧ t.wsq.dir = none
          ∧ (∀ g, g ≠ .walk → (t.group g).state ≠ .active)
          ∧ ((s.group .drag).moving = true →
              t.wsq.state = .openingDrag ∧ t.wsq.command = .drag ∧ (t.group .drag).state = .stopping)
          ∧ ((s.group .drag).moving = false → s.dgu.summary ≠ .none → t.wsq.state = .openingDrag ∧ t.wsq.command = .none)
          ∧ ((s.group .drag).moving = false → s.dgu.summary = .none → t.wsq.state = .closingWalk ∧ t.wsq.command = .walk)))
  ∧ (∀ (l : Link) (selector : Word) (s : State), s.lpu.bypass = .off → fits l 4 = true → AlarmsOk s → HandedOk s →
      s.wsq.selector = some .dig → selector ≠ 0#16 → s.wsq.state ≠ .digging → s.wsq.state ≠ .openingDrag →
      (walking s.wsq.state = true → s.mgu.mode ≠ .halted ∧ (s.group .walk).moving = true) →
      ∃ t, exec (.cab l selector 0) s = .next t
        ∧ t.wsq = { s.wsq with
            selector := some .walk
            returnPending := if walking s.wsq.state then false else s.wsq.returnPending })
  ∧ (∀ (l : Link) (s : State), s.lpu.bypass = .off → fits l 4 = true → AlarmsOk s → HandedOk s → s.wsq.selector = some .walk →
      ∃ t, exec (.cab l 0 0) s = .next t
        ∧ (s.wsq.state = .unsettled ∨ s.wsq.state = .digging ∨ s.wsq.state = .openingWalk ∨ s.wsq.state = .closingDrag →
            t.wsq = { s.wsq with selector := some .dig })
        ∧ (s.wsq.state = .openingDrag →
            t.wsq = { s.wsq with
              selector := some .dig, command := .drag, transfer := 0
              state := if s.dgu.summary = .drag then .digging else .closingDrag })
        ∧ (s.wsq.state = .closingWalk ∨ s.wsq.state = .transferFault →
            t.wsq = { s.wsq with
              selector := some .dig, transfer := 0
              command := if s.dgu.summary = .none then .drag else .none
              state := if s.dgu.summary = .none then .closingDrag else .openingWalk })
        ∧ (s.wsq.state = .walkReady → s.wsq.offPark = true →
            t.wsq = { s.wsq with selector := some .dig } ∧ (t.alu.cond cWalkDenied).detail = some 9)
        ∧ (s.wsq.state = .walkReady → s.wsq.offPark = false →
            t.wsq = { s.wsq with
              selector := some .dig, transfer := 0, returnPending := false
              command := if s.dgu.summary = .none then .drag else .none
              state := if s.dgu.summary = .none then .closingDrag else .openingWalk }
            ∧ t.pos.headingConfirmed = (s.pos.headingConfirmed && s.wsq.steps == 0)
            ∧ t.swu.heldHeading = (s.swu.heldHeading && s.wsq.steps == 0)
            ∧ (s.wsq.steps ≠ 0 → t.alu.raised cHeadingUnconfirmed = true))
        ∧ (walking s.wsq.state = true → s.mgu.mode ≠ .halted → (s.group .walk).moving = true →
            t.wsq = { s.wsq with selector := some .dig, returnPending := true }))

/-- COMMAND (R88, R90, R91, R105): the group's note is set, its loss count 0, the lever after clamp and deadband its last lever, and the
REFERENCE frame of chapter 12.3 that carries what its shaper gives, `shape`, takes the frame's place and is the group's last
reference; the other groups' last levers and references, every item, table, channel, member record and envelope value are
unchanged. A group field above 3 is forwarded unchanged. A HELD group becomes ACTIVE when the lever is outside the deadband and
every condition of R91, and for WALK of R139, holds, the severity read after the fall of CMD_LOST_x; else it stays HELD with Q as it
was, the neutral-seen flag set by a neutral lever alone, and a frame of its own reference carries enable false. That a group in CUT takes
the note, the loss count and the lever as well is the model's choice (assumption 10), and so are the moment of the frame's own reports
(assumption 33) and of the sequencer's reaction (assumption 13). -/
def Obligations.CommandFrame : Prop :=
  (∀ (l : Link) (g : Axis) (lever : Word) (s : State), s.lpu.bypass = .off → fits l 4 = true →
    (let o := shape g lever (goodFrameSeen s)
     let bs := referenceFrame g o.ref o.state
     ∃ t, exec (.command l (natWord g.code) lever) s = .next t
      ∧ (t.group g).note = true ∧ (t.group g).loss = 0
      ∧ (let v := max (-1000) (min 1000 lever.toInt)
         (t.group g).lastLever = some (if |v| < (s.items.groups.get g).deadband then 0 else v)
           ∧ t.mgu.lastLevers.get g = (t.group g).lastLever)
      ∧ Delivered bs s t ∧ frameKind bs = kindReference ∧ frameDest bs = broadcast ∧ frameSrc bs = s.ownByte
      ∧ (let walk : Bool := g == .walk
         bs = frame kindReference broadcast s.ownByte (wordsToBytes
          [packBytes g.code (if o.ref.enable then 1 else 0), wordOf o.ref.speed, wordOf o.ref.motoring, wordOf o.ref.regen,
            packBytes o.ref.form.code (if g = .drag then o.state.wsq.command.code else 0),
            packBytes s.lpu.ownAddress (if walk then o.state.wsq.state.code else 255), natWord s.lpu.lastCycle,
            if walk then wordOf o.state.wsq.steps else 0, if walk && o.state.wsq.offPark then 1 else 0]))
      ∧ (t.group g).lastRef = o.ref
      ∧ (∀ h, h ≠ g → (t.group h).lastRef = (s.group h).lastRef ∧ (t.group h).lastLever = (s.group h).lastLever
          ∧ ((t.group h).q = (s.group h).q ∨ (t.group h).q = 0))
      ∧ SameConfig s t ∧ SameMeasured s t ∧ t.pending = s.pending))
  ∧ (∀ (l : Link) (group lever : Word) (s : State), s.lpu.bypass = .off → fits l 4 = true → 3 < group.toNat →
      ∃ t, exec (.command l group lever) s = .next t ∧ NothingElse s t
        ∧ Delivered (received kindCommand l [group, lever]) s t)
  ∧ (∀ (l : Link) (g : Axis) (lever : Word) (s : State), s.lpu.bypass = .off → fits l 4 = true → FrameQuiet s →
      (s.group g).state = .held →
      (let v := frameLever g lever s
       let ready : Prop := s.mgu.mode = .run ∧ (s.group g).neutralSeen = true
        ∧ stops ((commandArrives g (goodFrameSeen s)).alu.severity.get g) = false
        ∧ (match g with
          | .walk => s.wsq.state = .walkReady ∧ (s.group .hoist).state = .held ∧ (s.group .swing).state = .held
              ∧ s.wsq.brake = true ∧ s.tables.t8.state = .live
          | _ => (s.dgu.values.get g.drive).form ≠ .unresolved ∧ s.wsq.state = .digging)
       (v ≠ 0 → ready → 1 ≤ (s.items.groups.get g).brakeDelay →
          ∃ t, exec (.command l (natWord g.code) lever) s = .next t ∧ (t.group g).state = .active ∧ (t.group g).idle = 0
            ∧ (t.group g).lastRef.enable = true ∧ t.mgu.mode = .run
            ∧ (g = .walk → t.wsq = { s.wsq with
                state := .stepping, dir := some (if 0 < v then .forward else .back), mismatch := 0, disagree := 0 }))
       ∧ (v = 0 ∨ ¬ ready →
          ∃ t, exec (.command l (natWord g.code) lever) s = .next t ∧ (t.group g).state = .held
            ∧ (t.group g).q = (s.group g).q ∧ (t.group g).idle = (s.group g).idle
            ∧ (t.group g).neutralSeen = ((s.group g).neutralSeen || v == 0) ∧ t.mgu.mode = s.mgu.mode ∧ t.wsq = s.wsq
            ∧ (¬ (g = .drag ∧ carriesWalk s.wsq.state = true) →
                (t.group g).lastRef.enable = false ∧ (t.group g).lastRef.speed = 0))))

/-- SAMPLE (R4, R5, R30): the frame goes to the channel its channel field names if its source is that channel's digitiser; the
channel hands its state, φ and turn count to the POS and a recovery sets the DOUBTFUL flag; the other channels, the items,
tables and the DGU are unchanged. A duplicate changes no block, and neither does a frame from another source. That the first
frame of a channel without a last sequence number sets the note, the stale count and the number is the model's choice
(assumption 8). -/
def Obligations.SampleFrame : Prop :=
  ∀ (l : Link) (d : SampleData) (s : State), s.lpu.bypass = .off → fits l 8 = true →
    (∀ a, d.channel.toNat = a.code → (s.items.channels.get a).sampleSource = l.src.toNat →
      (s.chan a).lastSeq ≠ some d.sequence.toNat → (∀ q, (s.chan a).lastSeq = some q → q < 256) →
      ∃ t, exec (.sample l d) s = .next t
        ∧ t.chan a = (takeSample (s.chanCtx a) d (s.chan a)).run.chan
        ∧ (t.chan a).lastSeq = some d.sequence.toNat ∧ (t.chan a).note = true ∧ (t.chan a).stale = 0
        ∧ (∀ b, b ≠ a → t.chan b = s.chan b)
        ∧ t.pos.handed = s.pos.handed.set a ⟨(t.chan a).state, (t.chan a).phase, (t.chan a).turns⟩
        ∧ ((s.chan a).state = .fault → (t.chan a).state = .acquire → ∀ e : Drive, e.axis = a → t.pos.doubtful.get e = true)
        ∧ ((takeSample (s.chanCtx a) d (s.chan a)).recovered = true → ∀ e : Drive, e.axis = a → t.pos.doubtful.get e = true)
        ∧ Delivered (received kindSample l (sampleWords d)) s t
        ∧ SameConfig s t ∧ t.dgu = s.dgu ∧ t.pending = s.pending)
    ∧ (∀ a, d.channel.toNat = a.code → (s.chan a).lastSeq = some d.sequence.toNat →
        ∃ t, exec (.sample l d) s = .next t ∧ NothingElse s t ∧ Delivered (received kindSample l (sampleWords d)) s t)
    ∧ ((∀ a, d.channel.toNat = a.code → (s.items.channels.get a).sampleSource ≠ l.src.toNat) →
        ∃ t, exec (.sample l d) s = .next t ∧ NothingElse s t ∧ Delivered (received kindSample l (sampleWords d)) s t)

/-- DISCRETE (R66, R67, R68, R69): a frame from INPUT_NODE loads the whole image, FRESH, decodes the brakes, hands the brake and shoe
inputs to the sequencer and the marks to the POS, and the inputs' own conditions follow their inputs; items, tables, channels
and members are unchanged. A frame from another source is only forwarded. -/
def Obligations.DiscreteFrame : Prop :=
  ∀ (l : Link) (low high : Word) (s : State), s.lpu.bypass = .off → fits l 4 = true → AlarmsOk s →
    (s.items.inputNode = l.src.toNat →
      ∃ t, exec (.discrete l low high) s = .next t
        ∧ t.dgu.image = { inputs := high ++ low, state := .fresh, stale := 0, note := true }
        ∧ (∀ e : Drive, t.dgu.brakes.get e =
            if low.getLsbD (6 + 2 * e.code) then (if low.getLsbD (7 + 2 * e.code) then .good else .worn) else .failed)
        ∧ t.wsq.brake = low.getLsbD 5 ∧ (∀ e : Drive, t.pos.marks.get e = some (low.getLsbD (2 + e.code)))
        ∧ t.wsq.left = (if low.getLsbD 12 && low.getLsbD 13 then .seated
            else if low.getLsbD 12 || low.getLsbD 13 then .partly else .lifted)
        ∧ t.wsq.right = (if low.getLsbD 14 && low.getLsbD 15 then .seated
            else if low.getLsbD 14 || low.getLsbD 15 then .partly else .lifted)
        ∧ t.alu.raised cEstop = high.getLsbD 1 ∧ t.alu.raised cBoomLimit = high.getLsbD 0
        ∧ t.alu.raised cHoistTopLimit = low.getLsbD 0 ∧ t.alu.raised cDragInLimit = low.getLsbD 1
        ∧ t.alu.raised cDiscreteStale = false
        ∧ (∀ e : Drive, t.alu.raised (cBrakeWorn e) = (t.dgu.brakes.get e == .worn)
            ∧ t.alu.raised (cBrakeFailed e) = (t.dgu.brakes.get e == .failed))
        ∧ (∀ k, k < 6 → t.alu.raised (cExternal k) = high.getLsbD (2 + k))
        ∧ t.dgu.members = s.dgu.members ∧ t.dgu.values = s.dgu.values ∧ t.tru = s.tru
        ∧ Delivered (received kindDiscrete l [low, high]) s t ∧ SameConfig s t ∧ t.pending = s.pending)
    ∧ (s.items.inputNode ≠ l.src.toNat →
        ∃ t, exec (.discrete l low high) s = .next t ∧ NothingElse s t
          ∧ Delivered (received kindDiscrete l [low, high]) s t)

/-- DRIVE_STATUS (R54, R55, R59, R60): the member whose address is the source takes presence, torque and speed from the frame, the
other members keep their records, and the capacity and group torque follow from the records; the hoist torque is handed to the
SWU. A frame from a node that is no member is only forwarded. -/
def Obligations.DriveStatusFrame : Prop :=
  ∀ (l : Link) (d : DriveData) (s : State), s.lpu.bypass = .off → fits l 12 = true →
    ((∃ g, ∃ m ∈ s.dgu.members.get g, m.address = l.src.toNat) →
      ∃ t, exec (.driveStatus l d) s = .next t
        ∧ (∀ g, ∀ m ∈ t.dgu.members.get g, m.address = l.src.toNat →
            m.presence = (if d.fault ≠ 0#16 then .faulted else if d.ready ≠ 0#16 then .ready else .present)
              ∧ m.torque = some (max (-2000) (min 2000 d.torque.toInt))
              ∧ m.speed = some (max (-2000) (min 2000 d.speed.toInt)) ∧ m.note = true ∧ m.silence = 0)
        ∧ (∀ g, (t.dgu.members.get g).map Member.address = (s.dgu.members.get g).map Member.address
            ∧ (t.dgu.members.get g).filter (fun m => m.address != l.src.toNat)
              = (s.dgu.members.get g).filter (fun m => m.address != l.src.toNat))
        ∧ (∀ g, (t.dgu.values.get g).configured = (t.dgu.members.get g).length
            ∧ (t.dgu.values.get g).ready = ((t.dgu.members.get g).filter (fun m => m.presence == .ready)).length
            ∧ (t.dgu.values.get g).torque = (if (t.dgu.members.get g).length = 0 then 0 else
                Int.tdiv ((((t.dgu.members.get g).filter (fun m => m.presence == .ready)).map
                  (fun m => m.torque.getD 0)).sum) (t.dgu.members.get g).length))
        ∧ t.swu.heldTorque = t.dgu.values.hoist.torque ∧ t.dgu.image = s.dgu.image ∧ t.dgu.brakes = s.dgu.brakes
        ∧ Delivered (received kindDriveStatus l (driveWords d)) s t
        ∧ SameConfig s t ∧ t.tru = s.tru ∧ t.env = s.env ∧ t.pending = s.pending)
    ∧ ((∀ g, ∀ m ∈ s.dgu.members.get g, m.address ≠ l.src.toNat) →
        ∃ t, exec (.driveStatus l d) s = .next t ∧ NothingElse s t
          ∧ Delivered (received kindDriveStatus l (driveWords d)) s t)

/-- FORWARDED_FRAME, OWN_FRAME_REMOVAL and BAD_FRAME (R169, R170, R175): a frame only forwarded leaves as received; a returning own
frame enters no queue; a bad or short frame is forwarded and its reason and kind are BAD_FRAME's detail, and only a short one,
which is good, restarts the timer. -/
def Obligations.PassingFrames : Prop :=
  ∀ (bs : Bytes) (s : State), s.lpu.bypass = .off →
    (onlyForwarded s.ownByte bs = true →
      ∃ t, exec (.forwardedFrame bs) s = .next t ∧ NothingElse s t ∧ Delivered bs s t)
    ∧ (badReason bs = none → returnsOwn s.ownByte bs = true →
        ∃ t, exec (.ownFrameRemoval bs) s = .next t ∧ NothingElse s t ∧ t.lpu.queue = s.lpu.queue
          ∧ t.lpu.discard = s.lpu.discard ∧ Restarted s t)
    ∧ (∀ k, badReason bs = some k → AlarmsOk s →
        ∃ t, exec (.badFrame bs) s = .next t ∧ Forwarded bs s t
          ∧ (t.alu.cond cBadFrame).detail = some (256 * k + (frameKind bs).toNat)
          ∧ (if k = 2 then Restarted s t else TimerKept s t)
          ∧ SameConfig s t ∧ SameMeasured s t ∧ t.pending = s.pending)

/-- FRAME_TRANSMITTED (R173): the front frame leaves the queue and nothing else changes. LOOP_SILENT (R163, R175): a running timer
that expires raises the condition with detail 0 or 1 by the traffic-seen flag, stops, and takes the part to HALTED with every
group CUT. -/
def Obligations.TransmissionAndSilence : Prop :=
  (∀ s : State, ∃ t, exec .frameTransmitted s = .next t ∧ t = s.withLpu { s.lpu with queue := s.lpu.queue.drop 1 })
  ∧ (∀ s : State, s.lpu.bypass = .off → s.lpu.timer = .running → AlarmsOk s → GroupsOk s →
      s.alu.raised cLoopSilent = false →
      ∃ t, exec .loopSilent s = .next t ∧ t.lpu = { s.lpu with timer := .expired } ∧ t.alu.raised cLoopSilent = true
        ∧ (t.alu.cond cLoopSilent).detail = some (if s.lpu.trafficSeen then 1 else 0)
        ∧ t.mgu.mode = .halted ∧ (∀ g, (t.group g).state = .cut ∧ (t.group g).q = 0)
        ∧ SameConfig s t ∧ SameMeasured s t ∧ t.pending = s.pending)

/-! ### Management requests -/

/-- READ, DISCARD_COUNT_READ and READ_TABLE (R174, R186, R189): a served READ answers the words of the item map from the named item
on, as many as its count, 0 taken as 1 and above 16 as 16, and changes nothing but DISCARD_COUNT, which becomes 0 where the range
includes it, and then counts the response if the queue drops it; an unknown item is NO_ITEM, a range past the map OUT_OF_RANGE.
READ_TABLE answers the table's words as they stand, in any table state. PROFILE_SELECTION and FEEDBACK_SUMMARY are coded in the order
in which R75 and R63 list their values. That the range of a READ_TABLE is tested with the clamped count is the model's choice
(assumption 31), and so is the layout of some read-only items' words (assumptions 16, 17 and 30). -/
def Obligations.ReadRequests : Prop :=
  (∀ (r : Req) (item index : Word) (count : Byte) (s : State), s.lpu.bypass = .off →
    (let c := max 1 (min 16 count.toNat)
     ((namedItem item.toNat index.toNat).isSome = true → c ≤ wordsFrom item.toNat →
       (let vs := ((itemsFrom item.toNat).flatMap (fun k => itemWords k index.toNat s)).take c
        let kept := if coversDiscard item.toNat c then 0 else s.lpu.discard
        ∃ t, exec (.read r item index count) s = .next t ∧ exec (.discardCountRead r item index count) s = .next t
          ∧ vs.length = c ∧ vs.head? = (itemWords item.toNat index.toNat s).head?
          ∧ AnsweredFrom kept r 1 (if c = count.toNat then 0 else 1) vs s t ∧ NothingElse s t))
     ∧ (namedItem item.toNat index.toNat = none →
         ∃ t, exec (.read r item index count) s = .next t ∧ NothingElse s t ∧ Answered r 1 3 [] s t)
     ∧ ((namedItem item.toNat index.toNat).isSome = true → wordsFrom item.toNat < c →
         ∃ t, exec (.read r item index count) s = .next t ∧ NothingElse s t ∧ Answered r 1 6 [] s t)))
  ∧ (∀ (r : Req) (table first : Word) (count : Byte) (i : TableId) (s : State), s.lpu.bypass = .off →
      table.toNat = i.code →
      (let c := max 1 (min 16 count.toNat)
       (first.toNat + c ≤ (s.table i).words.length →
         ∃ t, exec (.readTable r table first count) s = .next t ∧ NothingElse s t
           ∧ Answered r 7 (if c = count.toNat then 0 else 1) (((s.table i).words.drop first.toNat).take c) s t)
       ∧ ((s.table i).words.length < first.toNat + c →
         ∃ t, exec (.readTable r table first count) s = .next t ∧ NothingElse s t ∧ Answered r 7 6 [] s t)))
  ∧ (∀ (index : Nat) (s : State),
      itemWords 77 index s = [match s.env.selection with | .cell => 0 | .doubtful => 1 | .none => 2]
      ∧ itemWords 69 index s
          = [match s.dgu.summary with
              | .conflict => 0 | .incomplete => 1 | .drag => 2 | .walk => 3 | .none => 4 | .mixed => 5])

/-- WRITE (R186): the tests in their order, NO_ITEM, READ_ONLY, OUT_OF_RANGE, the mode; a refused WRITE changes no block; an
accepted one, for each item whose value only is stored, of the part, of a group and of a channel, stores the value clamped into the
item's range, its set of codes or values (R3), or the bound its relation to another item gives (R23), and changes nothing else; the
run items in every part mode, DISCARD_COUNT among them (R174). -/
def Obligations.WriteRequests : Prop :=
  ∀ (r : Req) (item index : Word) (vs : List Word) (s : State), s.lpu.bypass = .off →
    (namedItem item.toNat index.toNat = none →
      ∃ t, exec (.write r item index vs) s = .next t ∧ NothingElse s t ∧ Answered r 2 3 [] s t)
    ∧ (∀ row, namedItem item.toNat index.toNat = some row →
        (row.cls = .readOnly → ∃ t, exec (.write r item index vs) s = .next t ∧ NothingElse s t ∧ Answered r 2 4 [] s t)
        ∧ (row.cls ≠ .readOnly → vs.length ≠ 1 →
            ∃ t, exec (.write r item index vs) s = .next t ∧ NothingElse s t ∧ Answered r 2 6 [] s t)
        ∧ (row.cls = .setup → vs.length = 1 → s.mgu.mode = .run →
            ∃ t, exec (.write r item index vs) s = .next t ∧ NothingElse s t ∧ Answered r 2 2 [] s t))
    ∧ (∀ w, ∃ t, exec (.write r 86 index [w]) s = .next t
        ∧ t = (s.withLpu t.lpu).withItems { s.items with limitCreep := min 1000 (w.toNat : Int) }
        ∧ Answered r 2 (if w.toNat ≤ 1000 then 0 else 1) [] s t)
    ∧ (∀ w, ∃ t, exec (.write r 6 index [w]) s = .next t ∧ NothingElse s t
        ∧ AnsweredFrom w.toNat r 2 0 [] s t)
    ∧ (∀ w, ∃ t, exec (.write r 8 index [w]) s = .next t ∧ t.items.ackMethod.code = min 2 w.toNat
        ∧ t = (s.withLpu t.lpu).withItems { s.items with ackMethod := t.items.ackMethod }
        ∧ Answered r 2 (if w.toNat ≤ 2 then 0 else 1) [] s t)
    ∧ (∀ w, ∃ t, exec (.write r 92 index [w]) s = .next t ∧ t.items.adaptMode.code = min 3 w.toNat
        ∧ t = (s.withLpu t.lpu).withItems { s.items with adaptMode := t.items.adaptMode }
        ∧ Answered r 2 (if w.toNat ≤ 3 then 0 else 1) [] s t)
    ∧ (∀ w a, s.mgu.mode ≠ .run →
        (let it := s.items.channels.get a
         let u : Int := (w.toNat : Int)
         let stores (n : Word) (it' : ChannelItems) (status : Nat) : Prop :=
           ∃ t, exec (.write r n (natWord a.code) [w]) s = .next t
             ∧ t = (s.withLpu t.lpu).withItems { s.items with channels := s.items.channels.set a it' }
             ∧ Answered r 2 status [] s t
         (∃ v ∈ [32, 64, 128, 256, 512, 1024, 2048],
             (∀ m ∈ [32, 64, 128, 256, 512, 1024, 2048], |v - u| < |m - u| ∨ (|v - u| = |m - u| ∧ m ≤ v))
               ∧ stores 11 { it with noiseThreshold := v } (if v = u then 0 else 1))
         ∧ stores 12 { it with noiseMode := if w.toNat = 0 then .one else .two } (if w.toNat ≤ 1 then 0 else 1)
         ∧ (let v := max (max 1 (it.bandDown + 1)) (min 32768 u)
            stores 24 { it with bandUp := v } (if v = u then 0 else 1))
         ∧ (let v := max 0 (min (min 32767 (it.bandUp - 1)) u)
            stores 25 { it with bandDown := v } (if v = u then 0 else 1))
         ∧ stores 26 { it with recoveryGain := if w.toNat = 0 then .high else .keep } (if w.toNat ≤ 1 then 0 else 1)))
    ∧ (∀ w, ∀ e ∈ plainItems, (s.mgu.mode ≠ .run ∨ e.number ∈ [47, 48, 86, 93, 94, 95]) →
        ∃ t, exec (.write r (natWord e.number) index [w]) s = .next t
          ∧ t = (s.withLpu t.lpu).withItems (e.put (max e.lo (min e.hi (w.toNat : Int))) s.items)
          ∧ Answered r 2 (if e.lo ≤ (w.toNat : Int) ∧ (w.toNat : Int) ≤ e.hi then 0 else 1) [] s t)
    ∧ (∀ w g, ∀ e ∈ plainGroupItems, s.mgu.mode ≠ .run →
        ∃ t, exec (.write r (natWord e.number) (natWord g.code) [w]) s = .next t
          ∧ t.items.groups = s.items.groups.set g (e.put (max e.lo (min e.hi (w.toNat : Int))) (s.items.groups.get g))
          ∧ t = (s.withLpu t.lpu).withItems { s.items with groups := t.items.groups }
          ∧ Answered r 2 (if e.lo ≤ (w.toNat : Int) ∧ (w.toNat : Int) ≤ e.hi then 0 else 1) [] s t)
    ∧ (∀ w a, ∀ e ∈ plainChannelItems, s.mgu.mode ≠ .run →
        ∃ t, exec (.write r (natWord e.number) (natWord a.code) [w]) s = .next t
          ∧ t.items.channels = s.items.channels.set a (e.put (max e.lo (min e.hi (w.toNat : Int))) (s.items.channels.get a))
          ∧ t = (s.withLpu t.lpu).withItems { s.items with channels := t.items.channels }
          ∧ Answered r 2 (if e.lo ≤ (w.toNat : Int) ∧ (w.toNat : Int) ≤ e.hi then 0 else 1) [] s t)

/-- OPEN and ABANDON (R74, R187): outside RUN, OPEN passes a table to EDIT with its content kept and ABANDON to EMPTY with every
word 0; a LIVE T0 goes to EDIT with T1; the other tables are unchanged. In RUN both are refused. -/
def Obligations.OpenAndAbandon : Prop :=
  ∀ (r : Req) (i : TableId) (s : State), s.lpu.bypass = .off →
    (s.mgu.mode ≠ .run →
      ∃ t u, exec (.openTable r (natWord i.code)) s = .next t ∧ exec (.abandonTable r (natWord i.code)) s = .next u
        ∧ (t.table i).state = .edit ∧ (t.table i).words = (s.table i).words
        ∧ (u.table i).state = .empty ∧ (∀ w ∈ (u.table i).words, w = 0#16)
        ∧ (u.table i).words.length = (s.table i).words.length
        ∧ (∀ j, j ≠ i → (i = .t1 → j = .t0 → (s.table .t0).state ≠ .live) → t.table j = s.table j ∧ u.table j = s.table j)
        ∧ (i = .t1 → (s.table .t1).state ≠ .edit → (s.table .t0).state = .live →
            t.table .t0 = { s.table .t0 with state := .edit } ∧ u.table .t0 = { s.table .t0 with state := .edit })
        ∧ t.items = s.items ∧ u.items = s.items ∧ t.tru = s.tru ∧ u.tru = s.tru
        ∧ Answered r 3 0 [] s t ∧ Answered r 6 0 [] s u)
    ∧ (s.mgu.mode = .run →
        ∃ t u, exec (.openTable r (natWord i.code)) s = .next t ∧ exec (.abandonTable r (natWord i.code)) s = .next u
          ∧ NothingElse s t ∧ NothingElse s u ∧ Answered r 3 2 [] s t ∧ Answered r 6 2 [] s u)

/-- LOAD (R152, R187, R188, R193): into a table in EDIT, outside RUN, BLOCK_UP writes its values at the first index and above, BLOCK_DOWN
at the first index and below, FILL one value at `count` indices upward, SINGLE one value at the first index; every other word, every
other table, the table's own state and every block is as it was. Each word is stored as sent, but for one sent to T10, which is brought
within the floor of the condition at its own index; the answer is OK_CLAMPED where that changed a word, else OK. A range with a word
outside the table, a mode above 3, a count outside 1 to 16, missing value words and a table number above 10 are answered OUT_OF_RANGE,
a table not in EDIT NOT_OPEN, and RUN REFUSED_MODE; they write nothing. That the count test applies to SINGLE too is the model's
choice (assumption 21). -/
def Obligations.LoadRequests : Prop :=
  (∀ (r : Req) (i : TableId) (first : Word) (s : State), s.lpu.bypass = .off →
    (let size := (s.table i).words.length
     let a := first.toNat
     let writes (mode : Byte) (ws : List Word) (n : Nat) (pos : Nat → Nat) (sent : Nat → Word) : Prop :=
       ∃ t, exec (.loadTable r (natWord i.code) first mode ws) s = .next t
         ∧ (∀ k, k < n → LoadedAs i (pos k) (sent k) ((t.table i).words.getD (pos k) 0))
         ∧ (∀ j, (∀ k, k < n → j ≠ pos k) → (t.table i).words.getD j 0 = (s.table i).words.getD j 0)
         ∧ (t.table i).words.length = size ∧ (t.table i).state = .edit ∧ (∀ k, k ≠ i → t.table k = s.table k)
         ∧ t = (s.withLpu t.lpu).withTables t.tables
         ∧ Answered r 4 (if ∀ k, k < n → (t.table i).words.getD (pos k) 0 = sent k then 0 else 1) [] s t
     let fails (mode : Byte) (ws : List Word) (status : Nat) : Prop :=
       ∃ t, exec (.loadTable r (natWord i.code) first mode ws) s = .next t ∧ NothingElse s t ∧ Answered r 4 status [] s t
     (s.mgu.mode ≠ .run → (s.table i).state = .edit →
       (∀ n vs, 1 ≤ n → n ≤ 16 → n ≤ vs.length →
         (a + n ≤ size → writes 1 (natWord n :: vs) n (fun k => a + k) (fun k => vs.getD k 0))
         ∧ (size < a + n → fails 1 (natWord n :: vs) 6)
         ∧ (n ≤ a + 1 → a < size → writes 2 (natWord n :: vs) n (fun k => a - k) (fun k => vs.getD k 0))
         ∧ (a + 1 < n ∨ size ≤ a → fails 2 (natWord n :: vs) 6))
       ∧ (∀ n v vs, 1 ≤ n → n ≤ 16 →
         (a + n ≤ size → writes 3 (natWord n :: v :: vs) n (fun k => a + k) (fun _ => v))
         ∧ (size < a + n → fails 3 (natWord n :: v :: vs) 6)
         ∧ (a < size → writes 0 (natWord n :: v :: vs) 1 (fun _ => a) (fun _ => v))
         ∧ (size ≤ a → fails 0 (natWord n :: v :: vs) 6))
       ∧ (∀ mode ws, 3 < mode.toNat ∨ ws = [] → fails mode ws 6)
       ∧ (∀ (mode : Byte) (c : Word) vs,
           c.toNat = 0 ∨ 16 < c.toNat ∨ vs = [] ∨ (mode.toNat = 1 ∨ mode.toNat = 2) ∧ vs.length < c.toNat →
           fails mode (c :: vs) 6))
     ∧ (s.mgu.mode ≠ .run → (s.table i).state ≠ .edit → ∀ mode ws, fails mode ws 5)
     ∧ (s.mgu.mode = .run → ∀ mode ws, fails mode ws 2)))
  ∧ (∀ (r : Req) (table first : Word) (mode : Byte) (ws : List Word) (s : State), s.lpu.bypass = .off → 10 < table.toNat →
      ∃ t, exec (.loadTable r table first mode ws) s = .next t ∧ NothingElse s t ∧ Answered r 4 6 [] s t)

/-- CLOSE (R189): outside RUN a table in EDIT whose words all pass becomes LIVE with its content; one with a failing word stays as
it is and the first failing index is answered with INVALID; a table not in EDIT is answered NOT_OPEN. T0 fails at word 0 while
T1 is not LIVE (R73). The words that pass are those each table's chapter accepts (R51, R72, R73, R96, R113, R121, R132, R152). -/
def Obligations.CloseRequests : Prop :=
  (∀ (r : Req) (i : TableId) (s : State), s.lpu.bypass = .off → s.mgu.mode ≠ .run →
    ((s.table i).state = .edit → (∀ c ∈ checks i s, c.2 = true) →
      ∃ t, exec (.closeTable r (natWord i.code)) s = .next t ∧ t.table i = { s.table i with state := .live }
        ∧ (∀ j, j ≠ i → t.table j = s.table j) ∧ t.items = s.items ∧ t.tru = s.tru ∧ Answered r 5 0 [] s t)
    ∧ (∀ pre k post, (s.table i).state = .edit → checks i s = pre ++ (k, false) :: post → (∀ c ∈ pre, c.2 = true) →
        ∃ t, exec (.closeTable r (natWord i.code)) s = .next t ∧ NothingElse s t ∧ Answered r 5 7 [natWord k] s t)
    ∧ ((s.table i).state ≠ .edit →
        ∃ t, exec (.closeTable r (natWord i.code)) s = .next t ∧ NothingElse s t ∧ Answered r 5 5 [] s t))
  ∧ (∀ s : State, (s.table .t1).state ≠ .live → (checks .t0 s).head? = some (0, false))
  ∧ (∀ (i : TableId) (s : State), (∀ c ∈ checks i s, c.2 = true) ↔ ValidTable i s)

/-- START (R180): in STANDBY with every check passed the part enters RUN and no group changes; with a check failed it stays in
STANDBY and the answer is NOT_READY with the reason and the index of the first failing check; in RUN and HALTED it is refused.
STOP (R181): in RUN the part enters STANDBY at once and each ACTIVE group STOPPING, the others as they are; in STANDBY it is
answered OK and changes nothing; in HALTED it is refused. -/
def Obligations.StartAndStopRequests : Prop :=
  ∀ (r : Req) (s : State), s.lpu.bypass = .off →
    (let tables := ∀ i ∈ startTables, (s.table i).state = .live
     let channels := ∀ a, (s.chan a).state = .tracking
     let forms := ∀ d, (s.dgu.values.get d).form ≠ .unresolved
     let fails (reason index : Nat) := ∃ t, exec (.start r) s = .next t ∧ NothingElse s t
        ∧ Answered r 8 8 [natWord reason, natWord index] s t
     s.mgu.mode = .standby →
      (ReadyToRun s →
        ∃ t, exec (.start r) s = .next t ∧ t = (s.withLpu t.lpu).withMgu { s.mgu with mode := .run }
          ∧ Answered r 8 0 [] s t)
      ∧ (∀ pre i post, startTables = pre ++ i :: post → (∀ j ∈ pre, (s.table j).state = .live) →
          (s.table i).state ≠ .live → fails 1 i.code)
      ∧ (∀ pre a post, tables → Axis.all = pre ++ a :: post → (∀ b ∈ pre, (s.chan b).state = .tracking) →
          (s.chan a).state ≠ .tracking → fails 2 a.code)
      ∧ (∀ pre d post, tables → channels → Drive.all = pre ++ d :: post →
          (∀ e ∈ pre, (s.dgu.values.get e).form ≠ .unresolved) → (s.dgu.values.get d).form = .unresolved → fails 3 d.code)
      ∧ (tables → channels → forms → s.wsq.state = .unsettled → fails 4 0)
      ∧ (tables → channels → forms → s.wsq.state ≠ .unsettled →
          (s.dgu.image.state = .unloaded → fails 5 0) ∧ (s.dgu.image.state = .stale → fails 5 1)))
    ∧ (s.mgu.mode ≠ .standby → ∃ t, exec (.start r) s = .next t ∧ NothingElse s t ∧ Answered r 8 2 [] s t)
    ∧ (s.mgu.mode = .run →
      ∃ t, exec (.stop r) s = .next t ∧ t = ((s.withLpu t.lpu).withMgu { s.mgu with mode := .standby }).withGroups t.groups
        ∧ (∀ g, (s.group g).state = .active → t.group g = { s.group g with state := .stopping, idle := 0 })
        ∧ (∀ g, (s.group g).state ≠ .active → t.group g = s.group g) ∧ Answered r 9 0 [] s t)
    ∧ (s.mgu.mode = .standby → ∃ t, exec (.stop r) s = .next t ∧ NothingElse s t ∧ Answered r 9 0 [] s t)
    ∧ (s.mgu.mode = .halted → ∃ t, exec (.stop r) s = .next t ∧ NothingElse s t ∧ Answered r 9 2 [] s t)

/-- LEARN (R12): OUT_OF_RANGE above channel 3; accepted, in every part mode, when the channel is TRACKING in LEARN_ONCE, whatever
its learning state; else NOT_READY. -/
def Obligations.LearnRequests : Prop :=
  ∀ (r : Req) (s : State), s.lpu.bypass = .off →
    (∀ ch : Word, 3 < ch.toNat → ∃ t, exec (.learn r ch) s = .next t ∧ NothingElse s t ∧ Answered r 10 6 [] s t)
    ∧ (∀ a, (s.chan a).state = .tracking → (s.items.channels.get a).correctionMode = .learnOnce →
        ∃ t, exec (.learn r (natWord a.code)) s = .next t
          ∧ t = (s.withLpu t.lpu).setChan a { s.chan a with learn := .waitingIndex, acc := none }
          ∧ Answered r 10 0 [] s t)
    ∧ (∀ a, (s.chan a).state ≠ .tracking ∨ (s.items.channels.get a).correctionMode ≠ .learnOnce →
        ∃ t, exec (.learn r (natWord a.code)) s = .next t ∧ NothingElse s t ∧ Answered r 10 8 [] s t)

/-- ZERO (R43, R44, R45): outside RUN, or with the channel's group HELD, and with the channel in ACQUIRE or TRACKING, the derived
position becomes the value clamped into its range, and the DOUBTFUL flag is cleared; the channels are not touched. In RUN with
the group not HELD it is refused. -/
def Obligations.ZeroRequests : Prop :=
  ∀ (r : Req) (w : Word) (s : State), s.lpu.bypass = .off →
    (∀ a, s.mgu.mode ≠ .run ∨ (s.group a).state = .held →
      ((s.pos.handed.get a).state = .acquire ∨ (s.pos.handed.get a).state = .tracking) →
      ∃ t, exec (.zero r (natWord a.code) [w]) s = .next t
        ∧ (match a with
          | .hoist => t.pos.payout.hoist = min 65000 (w.toNat : Int) ∧ t.pos.doubtful.hoist = false ∧ t.items = s.items
          | .drag => t.pos.payout.drag = min 65000 (w.toNat : Int) ∧ t.pos.doubtful.drag = false ∧ t.items = s.items
          | .swing => t.pos.house = min 35999 (w.toNat : Int) ∧ t.pos.doubtful.swing = false ∧ t.items = s.items
              ∧ t.swu.marks = s.swu.marks
          | .walk => t.pos.cam = min 359 (w.toNat : Int) ∧ t.pos.doubtful = s.pos.doubtful
              ∧ t.items = { s.items with camZero := t.items.camZero })
        ∧ t.tru = s.tru ∧ t.dgu = s.dgu ∧ t.tables = s.tables
        ∧ Answered r 11 (if (w.toNat : Int) ≤ zeroTop a then 0 else 1) [] s t)
    ∧ (∀ a, s.mgu.mode = .run → (s.group a).state ≠ .held →
        ∃ t, exec (.zero r (natWord a.code) [w]) s = .next t ∧ NothingElse s t ∧ Answered r 11 2 [] s t)
    ∧ (∀ ch : Word, 3 < ch.toNat → ∃ t, exec (.zero r ch [w]) s = .next t ∧ NothingElse s t ∧ Answered r 11 6 [] s t)

/-- FORCE (R161): in STANDBY a condition that is not masked and, if a level, not raised is raised as an event with the forced flag
set and no detail, its raw state as it was; from QUIET with room in the list it is appended and stands GONE_NEW. Numbers above
59, other modes and masked or raised conditions are answered OUT_OF_RANGE, REFUSED_MODE and NOT_READY. -/
def Obligations.ForceRequests : Prop :=
  ∀ (r : Req) (c : Word) (s : State), s.lpu.bypass = .off → AlarmsOk s →
    (59 < c.toNat → ∃ t, exec (.force r c) s = .next t ∧ NothingElse s t ∧ Answered r 12 6 [] s t)
    ∧ (c.toNat ≤ 59 → s.mgu.mode ≠ .standby → ∃ t, exec (.force r c) s = .next t ∧ NothingElse s t ∧ Answered r 12 2 [] s t)
    ∧ (c.toNat ≤ 59 → s.mgu.mode = .standby →
        (effMask s.tables.t10 c.toNat = true ∨ ((condSpec c.toNat).event = false ∧ s.alu.raised c.toNat = true)) →
        ∃ t, exec (.force r c) s = .next t ∧ NothingElse s t ∧ Answered r 12 8 [] s t)
    ∧ (c.toNat ≤ 59 → s.mgu.mode = .standby → effMask s.tables.t10 c.toNat = false →
        ((condSpec c.toNat).event = true ∨ s.alu.raised c.toNat = false) →
        ∃ t, exec (.force r c) s = .next t ∧ Answered r 12 0 [] s t ∧ SameConfig s t ∧ SameMeasured s t
          ∧ (SequencerIdle s → (t.alu.cond c.toNat).forced = true ∧ (t.alu.cond c.toNat).detail = none
              ∧ t.alu.raised c.toNat = s.alu.raised c.toNat ∧ t.pos = s.pos ∧ t.wsq = s.wsq
              ∧ ((s.alu.cond c.toNat).listing = .quiet → s.alu.list.length < 32 →
                  (t.alu.cond c.toNat).listing = .goneNew
                    ∧ t.alu.list = s.alu.list ++ [⟨c.toNat, 1, s.alu.seq, s.lpu.lastCycle⟩])))

/-- ACK and READ_ALARMS (R154, R157, R159, R160): ACK of a condition moves ACTIVE_NEW to ACTIVE_SEEN and GONE_NEW to QUIET, of 255
every entry of the list, each removal followed by one relisting; targets from 60 to 254 and above 255 are OUT_OF_RANGE.
READ_ALARMS answers five words for each entry from the position on, as it stood, acknowledges nothing under OPERATOR and each
entry carried under READ and BOTH, and above position 31 is OUT_OF_RANGE. -/
def Obligations.AlarmRequests : Prop :=
  ∀ (r : Req) (s : State), s.lpu.bypass = .off → AlarmsOk s →
    (∀ c : Word, c.toNat ≤ 59 →
      ∃ t, exec (.ack r c) s = .next t ∧ Answered r 13 0 [] s t ∧ SameConfig s t ∧ SameMeasured s t
        ∧ (SequencerIdle s → t.pos = s.pos ∧ t.wsq = s.wsq ∧ t.alu.raised c.toNat = s.alu.raised c.toNat
            ∧ (t.alu.cond c.toNat).listing = (match (s.alu.cond c.toNat).listing with
                | .activeNew => .activeSeen
                | .goneNew => .quiet
                | x => x)
            ∧ (ListingOk s → Acknowledged [c.toNat] s t)))
    ∧ (∃ t, exec (.ack r 255) s = .next t ∧ Answered r 13 0 [] s t ∧ SameConfig s t ∧ SameMeasured s t
        ∧ (SequencerIdle s → ListingOk s →
            t.pos = s.pos ∧ t.wsq = s.wsq ∧ Acknowledged (s.alu.list.map Entry.cond) s t))
    ∧ (∀ c : Word, 59 < c.toNat → c.toNat ≠ 255 →
        ∃ t, exec (.ack r c) s = .next t ∧ NothingElse s t ∧ Answered r 13 6 [] s t)
    ∧ (∀ (p : Word) (n : Byte), 31 < p.toNat →
        ∃ t, exec (.readAlarms r p n) s = .next t ∧ NothingElse s t ∧ Answered r 14 6 [] s t)
    ∧ (∀ (p : Word) (n : Byte), p.toNat ≤ 31 →
        (let es := (s.alu.list.drop p.toNat).take (max 1 (min 4 n.toNat))
         let vs := es.flatMap (entryWords s)
         ∃ t, exec (.readAlarms r p n) s = .next t
           ∧ Answered r 14 (if 1 ≤ n.toNat ∧ n.toNat ≤ 4 then 0 else 1) vs s t
           ∧ vs.length = 5 * min (max 1 (min 4 n.toNat)) (s.alu.list.length - p.toNat) ∧ SameConfig s t ∧ SameMeasured s t
           ∧ (s.items.ackMethod = .operator → NothingElse s t)
           ∧ (s.items.ackMethod ≠ .operator → SequencerIdle s → ListingOk s →
               t.pos = s.pos ∧ t.wsq = s.wsq ∧ Acknowledged (es.map Entry.cond) s t)))

/-- RESET (R190) is accepted in every part mode and answered OK, the soft reset to follow. A code that names no request is answered
INVALID with count 0 and changes nothing (R184). -/
def Obligations.ResetAndUnknownCode : Prop :=
  ∀ (r : Req) (s : State), s.lpu.bypass = .off →
    (∃ t, exec (.reset r) s = .next t ∧ t = (s.withLpu t.lpu).withMgu { s.mgu with resetPending := true }
      ∧ Answered r 15 0 [] s t)
    ∧ (∀ code : Byte, code.toNat = 0 ∨ 15 < code.toNat →
        ∃ t, exec (.unknownCode r code) s = .next t ∧ NothingElse s t ∧ Answered r code.toNat 7 [] s t)

/-! ### Writes of items with a behaviour of their own -/

/-- CROSSING_FLAGS (R123): the latched flags of the named marks that exist and are LATCHED are cleared, every other flag and every
direction stands, and no other block changes. -/
def Obligations.CrossingFlagsWrite : Prop :=
  ∀ (r : Req) (w : Word) (s : State), s.lpu.bypass = .off → s.swu.marks.length = 4 →
    ∃ t, exec (.crossingFlags r [w]) s = .next t ∧ t = (s.withLpu t.lpu).withSwu { s.swu with marks := t.swu.marks }
      ∧ (∀ k, k < 4 →
          t.swu.marks.getD k .reset = { s.swu.marks.getD k .reset with
            latched := if w.getLsbD (15 - 4 * k) = true ∧ s.tables.t7.state = .live ∧ k < s.tables.t7.num 0
                ∧ s.tables.t7.num (2 + 2 * k) ≠ 1 then false
              else (s.swu.marks.getD k .reset).latched })
      ∧ Answered r 2 0 [] s t

/-- PIT_HEADING (R48): accepted outside RUN, or with SWING HELD; the value is stored clamped, Hr recomputed from H as a datum change
that crosses no mark, and the heading confirmed. Otherwise it is refused and changes nothing. -/
def Obligations.PitHeadingWrite : Prop :=
  ∀ (r : Req) (w : Word) (s : State), s.lpu.bypass = .off →
    (s.mgu.mode ≠ .run ∨ (s.group .swing).state = .held → walking s.wsq.state = false →
      ∃ t, exec (.pitHeading r [w]) s = .next t
        ∧ t.items = { s.items with pitHeading := min 35999 (w.toNat : Int) } ∧ t.pos.headingConfirmed = true
        ∧ t.swu.heldHeading = true ∧ t.pos.relative = (t.pos.house - min 35999 (w.toNat : Int)) % 36000
        ∧ t.swu.heldHr = t.pos.relative ∧ t.swu.marks = s.swu.marks ∧ t.pos.houseZero = s.pos.houseZero
        ∧ t.tables = s.tables ∧ SameMeasured s t ∧ Answered r 2 (if w.toNat ≤ 35999 then 0 else 1) [] s t)
    ∧ (s.mgu.mode = .run → (s.group .swing).state ≠ .held →
        ∃ t, exec (.pitHeading r [w]) s = .next t ∧ NothingElse s t ∧ Answered r 2 2 [] s t)

/-- Writes of the correction items (R10, R11, R16), outside RUN: CORRECTION_MODE ends learning and puts the mode's values in use at
once; OFFSET_LIMIT and GAIN_LIMIT bring the three fixed items and the three values in use into the new ranges; a fixed item is
clamped into its range and, in FIXED mode, in use at once. No other item, channel or block changes. -/
def Obligations.CorrectionItemWrites : Prop :=
  ∀ (r : Req) (a : Axis) (w : Word) (s : State), s.lpu.bypass = .off → s.mgu.mode ≠ .run →
    (let it := s.items.channels.get a
     let c := s.chan a
     let u : Int := (w.toNat : Int)
     let span (gainLimit : Int) : Int := Int.tdiv (1024 * gainLimit) 1000
     let offset (limit v : Int) : Int := max (-limit) (min limit v)
     let gain (limit v : Int) : Int := max (1024 - span limit) (min (1024 + span limit) v)
     let leaves (i : Instr) (it' : ChannelItems) (c' : Channel) (status : Nat) : Prop :=
       ∃ t, exec i s = .next t ∧ t.items = { s.items with channels := s.items.channels.set a it' } ∧ t.chan a = c'
         ∧ (∀ b, b ≠ a → t.chan b = s.chan b) ∧ t = ((s.withLpu t.lpu).withItems t.items).withTru t.tru
         ∧ Answered r 2 status [] s t
     let limits (ol gl : Int) (k : Correction) : Correction := ⟨offset ol k.so, offset ol k.co, gain gl k.g⟩
     let fixes (i : Instr) (it' : ChannelItems) (exact : Bool) : Prop :=
       leaves i it'
         (if it.correctionMode = .fixed then { c with used := ⟨it'.fixedSin, it'.fixedCos, it'.fixedGain⟩ } else c)
         (if exact then 0 else 1)
     (∃ m, CorrectionMode.code m = min 3 w.toNat
       ∧ leaves (.correctionMode r (natWord a.code) [w]) { it with correctionMode := m }
           { c with
             used := if w.toNat = 0 then ⟨0, 0, 1024⟩ else ⟨it.fixedSin, it.fixedCos, it.fixedGain⟩
             learn := if 3 ≤ w.toNat ∧ c.state = .tracking then .waitingIndex else .idle
             acc := none }
           (if w.toNat ≤ 3 then 0 else 1))
     ∧ (let lim := min 256 u
        leaves (.offsetLimit r (natWord a.code) [w])
          { it with
            offsetLimit := lim, fixedSin := offset lim it.fixedSin, fixedCos := offset lim it.fixedCos
            fixedGain := gain it.gainLimit it.fixedGain }
          { c with used := limits lim it.gainLimit c.used } (if w.toNat ≤ 256 then 0 else 1))
     ∧ (let lim := min 400 u
        leaves (.gainLimit r (natWord a.code) [w])
          { it with
            gainLimit := lim, fixedSin := offset it.offsetLimit it.fixedSin, fixedCos := offset it.offsetLimit it.fixedCos
            fixedGain := gain lim it.fixedGain }
          { c with used := limits it.offsetLimit lim c.used } (if w.toNat ≤ 400 then 0 else 1))
     ∧ (let v := offset it.offsetLimit w.toInt
        fixes (.fixedItems r .sinOffset (natWord a.code) [w]) { it with fixedSin := v } (v == w.toInt))
     ∧ (let v := offset it.offsetLimit w.toInt
        fixes (.fixedItems r .cosOffset (natWord a.code) [w]) { it with fixedCos := v } (v == w.toInt))
     ∧ (let v := gain it.gainLimit u
        fixes (.fixedItems r .gain (natWord a.code) [w]) { it with fixedGain := v } (v == u)))

/-- Writes of the loop items (R21, R23), outside RUN: each stores its item clamped into its range and no other item; SPEED_LIMIT clamps ω
at once and OVERSPEED_x follows; GAIN_MODE to FIXED clears the boost and sets L to GAIN_LOW, to SCHEDULED leaves both; GAIN_LOW and
GAIN_HIGH keep their order, bring L into the new range and, in FIXED mode, set it to GAIN_HIGH while the boost is set and to GAIN_LOW
while it is clear. The other channels keep their records, and the answer tells whether the value was clamped. That a write of
SPEED_LIMIT acts on ω and OVERSPEED_x of a channel in FAULT too is the model's choice (assumption 36). -/
def Obligations.LoopItemWrites : Prop :=
  ∀ (r : Req) (a : Axis) (w : Word) (s : State), s.lpu.bypass = .off → s.mgu.mode ≠ .run →
    (let it := s.items.channels.get a
     let c := s.chan a
     let leaves (i : Instr) (it' : ChannelItems) (c' : Channel) (exact : Bool) : Prop :=
       ∃ t, exec i s = .next t ∧ t.items = { s.items with channels := s.items.channels.set a it' } ∧ t.chan a = c'
         ∧ (∀ b, b ≠ a → t.chan b = s.chan b) ∧ t = ((s.withLpu t.lpu).withItems t.items).withTru t.tru
         ∧ Answered r 2 (if exact then 0 else 1) [] s t
     (AlarmsOk s →
       (let v := max 16 (min 8192 (w.toNat : Int))
        ∃ t, exec (.speedLimit r (natWord a.code) [w]) s = .next t
          ∧ t.items = { s.items with channels := s.items.channels.set a { it with speedLimit := v } }
          ∧ t.chan a = { c with speed := max (-v) (min v c.speed) }
          ∧ t.alu.raised (cOverspeed a) = (|(t.chan a).speed| == v)
          ∧ (∀ b, b ≠ a → t.chan b = s.chan b) ∧ t.tables = s.tables ∧ t.dgu = s.dgu ∧ t.env = s.env
          ∧ (SequencerIdle s → t.pos = s.pos ∧ t.wsq = s.wsq ∧ t.swu = s.swu)
          ∧ Answered r 2 (if v = (w.toNat : Int) then 0 else 1) [] s t))
     ∧ leaves (.gainMode r (natWord a.code) [w]) { it with gainMode := if w.toNat = 0 then .scheduled else .fixed }
         (if w.toNat = 0 then c else { c with boost := false, gain := it.gainLow }) (decide (w.toNat ≤ 1))
     ∧ (it.gainLow ≤ it.gainHigh → it.gainHigh ≤ 7 →
         (let low := min w.toNat it.gainHigh
          leaves (.gainLow r (natWord a.code) [w]) { it with gainLow := low }
            { c with
              gain := if it.gainMode = .fixed then (if c.boost then it.gainHigh else low) else max low (min it.gainHigh c.gain) }
            (low == w.toNat))
         ∧ (let high := max it.gainLow (min 7 w.toNat)
            leaves (.gainHigh r (natWord a.code) [w]) { it with gainHigh := high }
              { c with
                gain := if it.gainMode = .fixed then (if c.boost then high else it.gainLow)
                  else max it.gainLow (min high c.gain) }
              (high == w.toNat))))

/-- Writes of the scale items (R31, R40), outside RUN: a changed rope constant or gearing is stored, the position recomputed and put
in doubt, the SWING turn count first reduced by the new gearing; the value already held changes nothing; CAM_ZERO recomputes C. The
answer tells whether the value was clamped. -/
def Obligations.ScaleItemWrites : Prop :=
  ∀ (r : Req) (w : Word) (s : State), s.lpu.bypass = .off → s.mgu.mode ≠ .run →
    (let v : Int := max 1 (w.toNat : Int)
     let answered (t : State) : Prop := Answered r 2 (if 1 ≤ w.toNat then 0 else 1) [] s t
     (s.items.ropeK.hoist ≠ v →
       ∃ t, exec (.hoistRopeK r [w]) s = .next t ∧ t.items = { s.items with ropeK := s.items.ropeK.set .hoist v }
         ∧ t.pos.doubtful.hoist = true ∧ t.pos.payoutZero = s.pos.payoutZero ∧ t.env.lastDoubt.hoist = true
         ∧ t.pos.payout.hoist = max 0 (min 65000 (s.pos.payoutZero.hoist + Int.fdiv
             (((s.pos.handed.hoist).turns * 65536 + (s.pos.handed.hoist).phase) * v) 6553600))
         ∧ t.env.lastPayout.hoist = t.pos.payout.hoist
         ∧ t.tru = s.tru ∧ t.tables = s.tables ∧ t.dgu = s.dgu ∧ answered t)
     ∧ (s.items.ropeK.drag ≠ v →
       ∃ t, exec (.dragRopeK r [w]) s = .next t ∧ t.items = { s.items with ropeK := s.items.ropeK.set .drag v }
         ∧ t.pos.doubtful.drag = true ∧ t.pos.payoutZero = s.pos.payoutZero ∧ t.env.lastDoubt.drag = true
         ∧ t.pos.payout.drag = max 0 (min 65000 (s.pos.payoutZero.drag + Int.fdiv
             (((s.pos.handed.drag).turns * 65536 + (s.pos.handed.drag).phase) * v) 6553600))
         ∧ t.env.lastPayout.drag = t.pos.payout.drag
         ∧ t.tru = s.tru ∧ t.tables = s.tables ∧ t.dgu = s.dgu ∧ answered t)
     ∧ (s.items.swingGear ≠ v →
       ∃ t, exec (.swingGear r [w]) s = .next t ∧ t.items = { s.items with swingGear := v }
         ∧ (t.chan .swing) = { s.chan .swing with turns := (s.chan .swing).turns % v }
         ∧ t.pos.handed.swing = ⟨(s.chan .swing).state, (s.chan .swing).phase, (s.chan .swing).turns % v⟩
         ∧ t.pos.house = (s.pos.houseZero + Int.fdiv
             (((s.chan .swing).turns % v * 65536 + (s.chan .swing).phase) * 36000) (v * 65536)) % 36000
         ∧ t.pos.houseZero = s.pos.houseZero
         ∧ t.pos.relative = (t.pos.house - s.items.pitHeading) % 36000 ∧ t.swu.heldHr = t.pos.relative
         ∧ t.pos.doubtful.swing = true ∧ t.swu.heldDoubt = true ∧ t.swu.marks = s.swu.marks
         ∧ t.tables = s.tables ∧ t.dgu = s.dgu ∧ answered t)
     ∧ (s.items.ropeK.hoist = v → ∃ t, exec (.hoistRopeK r [w]) s = .next t ∧ NothingElse s t ∧ answered t)
     ∧ (s.items.ropeK.drag = v → ∃ t, exec (.dragRopeK r [w]) s = .next t ∧ NothingElse s t ∧ answered t)
     ∧ (s.items.swingGear = v → ∃ t, exec (.swingGear r [w]) s = .next t ∧ NothingElse s t ∧ answered t))
    ∧ (∃ t, exec (.camZero r [w]) s = .next t ∧ t.items = { s.items with camZero := min 359 (w.toNat : Int) }
        ∧ t.pos.cam = (min 359 (w.toNat : Int) + Int.fdiv (s.pos.handed.walk.phase * 360) 65536) % 360
        ∧ t.wsq.heldCam = t.pos.cam ∧ t.tru = s.tru ∧ t.tables = s.tables ∧ t.dgu = s.dgu
        ∧ Answered r 2 (if w.toNat ≤ 359 then 0 else 1) [] s t)

/-! ### Events -/

/-- CHANNEL_STALE (R26, R29): a marker that finds the channel's stale count at its limit puts it in FAULT with cause STALE, φ, ω and
turn count held, learning ended, and TRACK_FAULT_x raised with that cause. That the row is the whole marker, whose number is
taken, is the model's choice (assumption 1). -/
def Obligations.ChannelStale : Prop :=
  ∀ (l : Link) (n : Word) (a : Axis) (s : State), s.lpu.bypass = .off → fits l 2 = true → AlarmsOk s →
    (s.items.channels.get a).staleLimit ≤ (if (s.chan a).note then (s.chan a).stale else min 15 ((s.chan a).stale + 1)) →
    (s.chan a).stale ≤ 15 → ¬ ((s.chan a).state = .fault ∧ (s.chan a).cause = some .stale) →
    ∃ t, exec (.channelStale l n a) s = .next t ∧ (t.chan a).state = .fault ∧ (t.chan a).cause = some .stale
      ∧ (t.chan a).phase = (s.chan a).phase ∧ (t.chan a).speed = (s.chan a).speed ∧ (t.chan a).turns = (s.chan a).turns
      ∧ (t.chan a).learn = .idle ∧ (t.chan a).note = false ∧ t.alu.raised (cTrackFault a) = true
      ∧ (t.alu.cond (cTrackFault a)).detail = some 4 ∧ t.lpu.lastCycle = n.toNat ∧ SameConfig s t
      ∧ ((s.chan a).state ≠ .fault → t.pos.handed.get a = ⟨.fault, (s.chan a).phase, (s.chan a).turns⟩)

/-- MEMBER_ABSENT and DISCRETE_STALE (R56, R67): a member silent for MEMBER_SILENCE_LIMIT markers becomes ABSENT with its reported
fields absent and its address kept; an image without a load for DISCRETE_STALE_LIMIT markers becomes STALE with its inputs held,
and DISCRETE_STALE is raised. That each row is the whole marker, whose number is taken, is the model's choice (assumption 1). -/
def Obligations.SilentNodes : Prop :=
  ∀ (l : Link) (n : Word) (s : State), s.lpu.bypass = .off → fits l 2 = true → AlarmsOk s →
    (∀ (d : Drive) (i : Fin 4) (m : Member), (s.dgu.members.get d)[i.val]? = some m → m.presence ≠ .absent →
      m.note = false → m.silence < 15 → s.items.memberSilenceLimit ≤ m.silence + 1 →
      ∃ t, exec (.memberAbsent l n d i) s = .next t
        ∧ (t.dgu.members.get d)[i.val]? = some { Member.begin m.address with silence := m.silence + 1 }
        ∧ t.lpu.lastCycle = n.toNat ∧ SameConfig s t)
    ∧ (s.dgu.image.state ≠ .stale → s.dgu.image.note = false → s.dgu.image.stale < 15 →
        s.items.discreteStaleLimit ≤ s.dgu.image.stale + 1 →
        ∃ t, exec (.discreteStale l n) s = .next t ∧ t.dgu.image.state = .stale
          ∧ t.dgu.image.inputs = s.dgu.image.inputs ∧ t.dgu.brakes = s.dgu.brakes ∧ t.alu.raised cDiscreteStale = true
          ∧ (∀ g, (t.group g).state ≠ .active) ∧ t.lpu.lastCycle = n.toNat ∧ SameConfig s t)

/-- CMD_LOST (R89, R93): a marker that brings the loss count to the limit raises CMD_LOST_x, makes the last lever absent for the
shaper and for the MGU, and leaves the group not ACTIVE. That the row is the whole marker, whose number is taken, is the model's
choice (assumption 1). -/
def Obligations.CommandLost : Prop :=
  ∀ (l : Link) (n : Word) (g : Axis) (s : State), s.lpu.bypass = .off → fits l 2 = true → AlarmsOk s →
    (s.group g).note = false → (s.group g).loss < 15 → s.items.commandLossLimit ≤ (s.group g).loss + 1 →
    s.alu.raised (cCmdLost g) = false →
    ∃ t, exec (.cmdLost l n g) s = .next t ∧ t.alu.raised (cCmdLost g) = true ∧ (t.group g).loss = (s.group g).loss + 1
      ∧ (t.group g).lastLever = none ∧ t.mgu.lastLevers.get g = none ∧ (t.group g).state ≠ .active
      ∧ (t.group g).lastRef = (s.group g).lastRef ∧ t.lpu.lastCycle = n.toNat ∧ SameConfig s t

/-- TRANSFER_TIMEOUT (R137): a marker that brings the transfer count to TRANSFER_LIMIT raises the event with the code of the state
left, leaves DRAG and WALK not ACTIVE and the count 0; from OPENING_WALK and CLOSING_DRAG the sequencer enters TRANSFER_FAULT with
command NONE; from OPENING_DRAG it turns back to CLOSING_DRAG, or straight to DIGGING where the summary is DRAG; from CLOSING_WALK
to OPENING_WALK, or straight to CLOSING_DRAG where it is NONE. That the row is the whole marker is the model's choice
(assumption 1), and so is the order that puts the sequencer after the other blocks' marker work, `markBeforeSeq` (assumption 5). -/
def Obligations.TransferTimeout : Prop :=
  ∀ (l : Link) (n : Word) (s : State), s.lpu.bypass = .off → fits l 2 = true →
    (let u := markBeforeSeq n (goodFrameSeen s)
     let raises (t : State) : Prop := AlarmsOk s → (t.alu.cond cTransferTimeout).detail = some u.wsq.state.code
       ∧ (t.group .drag).state ≠ .active ∧ (t.group .walk).state ≠ .active
       ∧ ((u.alu.cond cTransferTimeout).listing = .quiet → u.alu.list.length < 32 →
           (t.alu.cond cTransferTimeout).listing = .goneNew
             ∧ t.alu.list = u.alu.list ++ [⟨cTransferTimeout, 1, u.alu.seq, n.toNat⟩])
     u.items.transferLimit ≤ u.wsq.transfer + 1 → u.wsq.transfer < 255 →
     (u.wsq.state = .openingWalk ∨ u.wsq.state = .closingDrag →
       ∃ t, exec (.transferTimeout l n) s = .next t ∧ t.wsq.state = .transferFault ∧ t.wsq.command = .none
         ∧ t.wsq.transfer = 0 ∧ t.wsq.steps = u.wsq.steps ∧ SameConfig s t ∧ raises t)
     ∧ (u.wsq.state = .openingDrag →
         ∃ t, exec (.transferTimeout l n) s = .next t ∧ t.wsq.command = .drag ∧ t.wsq.transfer = 0
           ∧ t.wsq.state = (if u.dgu.summary = .drag then .digging else .closingDrag) ∧ SameConfig s t ∧ raises t)
     ∧ (u.wsq.state = .closingWalk →
         ∃ t, exec (.transferTimeout l n) s = .next t ∧ t.wsq.transfer = 0
           ∧ t.wsq.state = (if u.dgu.summary = .none then .closingDrag else .openingWalk) ∧ SameConfig s t ∧ raises t))

/-- SHOE_MISMATCH and SHOE_DISAGREE (R145): a marker that brings the count to SHOE_LIMIT while stepping or finishing gives the
condition its detail, the held cam sector or the two shoe codes, and WALK is not ACTIVE after it; with WALK ACTIVE or STOPPING and
no TRIP in play the condition then stands raised. While SHOE_MISMATCH stays raised each marker updates its detail. Shoes that match,
or agree, bring the count to 0 and the condition down. That each row is the whole marker is the model's choice (assumption 1), and
so is the order that puts the sequencer after the other blocks' marker work, `markBeforeSeq` (assumption 5). -/
def Obligations.ShoeSupervision : Prop :=
  ∀ (l : Link) (n : Word) (s : State), s.lpu.bypass = .off → fits l 2 = true → AlarmsOk s →
    (let u := markBeforeSeq n (goodFrameSeen s)
     let stays := (u.group .walk).moving = true ∧ u.alu.tripStanding u.tables.t10 = false
       ∧ effSeverity u.tables.t10 cShoeMismatch ≠ .trip ∧ effSeverity u.tables.t10 cShoeDisagree ≠ .trip
     walking u.wsq.state = true →
     (shoesMatch u = false → u.wsq.mismatch < 255 → u.items.shoeLimit ≤ u.wsq.mismatch + 1 →
       u.alu.raised cShoeMismatch = false →
       ∃ t, exec (.shoeMismatch l n) s = .next t ∧ (t.alu.cond cShoeMismatch).detail = some (u.wsq.heldSector.getD 255)
         ∧ (t.group .walk).state ≠ .active ∧ SameConfig s t
         ∧ (stays → t.alu.raised cShoeMismatch = true ∧ t.wsq.mismatch = u.wsq.mismatch + 1 ∧ t.wsq.state = u.wsq.state
             ∧ (t.group .walk).state = .stopping))
     ∧ (u.wsq.left ≠ u.wsq.right → u.wsq.disagree < 255 → u.items.shoeLimit ≤ u.wsq.disagree + 1 →
         u.alu.raised cShoeDisagree = false →
         ∃ t, exec (.shoeDisagree l n) s = .next t
           ∧ (t.alu.cond cShoeDisagree).detail = some (4 * u.wsq.left.code + u.wsq.right.code)
           ∧ (t.group .walk).state ≠ .active ∧ SameConfig s t
           ∧ (stays → t.alu.raised cShoeDisagree = true ∧ t.wsq.disagree = u.wsq.disagree + 1 ∧ t.wsq.state = u.wsq.state
               ∧ (t.group .walk).state = .stopping))
     ∧ (shoesMatch u = false → u.alu.raised cShoeMismatch = true →
         ∃ t, exec (.cycle l n) s = .next t ∧ (t.alu.cond cShoeMismatch).detail = some (u.wsq.heldSector.getD 255)
           ∧ (stays → t.alu.raised cShoeMismatch = true))
     ∧ (shoesMatch u = true → ∃ t, exec (.cycle l n) s = .next t ∧ t.alu.raised cShoeMismatch = false ∧ t.wsq.mismatch = 0)
     ∧ (u.wsq.left = u.wsq.right →
         ∃ t, exec (.cycle l n) s = .next t ∧ t.alu.raised cShoeDisagree = false ∧ t.wsq.disagree = 0))

/-- BRAKE_DELAY_EXPIRY (R92): the neutral frame that brings an ACTIVE HOIST group's idle count to BRAKE_DELAY with Q at 0 takes it to
rest with the idle count 0, neutral seen cleared and a reference with enable false; and so for each group by the pipeline's own
test. -/
def Obligations.BrakeDelayExpiry : Prop :=
  (∀ (l : Link) (g : Axis) (lever : Word) (s : State), s.lpu.bypass = .off → fits l 4 = true →
    brakeDelayDue g lever (goodFrameSeen s) = true →
    ∃ t, exec (.brakeDelayExpiry l g lever) s = .next t ∧ (t.group g).atRest = true ∧ (t.group g).q = 0
      ∧ (t.group g).idle = 0 ∧ (t.group g).neutralSeen = false ∧ (t.group g).lastRef.enable = false
      ∧ (t.group g).lastRef.speed = 0 ∧ SameConfig s t ∧ SameMeasured s t)
  ∧ (∀ (s : State), (s.group .hoist).state = .active → (s.group .hoist).q = 0 → s.alu.raised (cCmdLost .hoist) = false →
      (s.group .hoist).idle < 255 → (s.items.groups.get .hoist).brakeDelay ≤ (s.group .hoist).idle + 1 →
      0 ≤ s.items.limitCreep → brakeDelayDue .hoist 0 s = true)

/-- STUCK (R9, R26) and SETTLED (R25): the accepted pair that brings the stuck count to 16 puts the channel in FAULT with cause STUCK;
the update that brings the settle count to 8 in ACQUIRE puts it in TRACKING with the count 0. Each is a frame one sequence number
on, in NOISE_MODE ONE within the threshold. That each row is the whole frame, hand-off to the POS included, is the model's
choice (assumption 1). -/
def Obligations.StuckAndSettled : Prop :=
  ∀ (l : Link) (d : SampleData) (a : Axis) (p : Pair) (q : Nat) (s : State), s.lpu.bypass = .off → fits l 8 = true →
    AlarmsOk s → d.channel.toNat = a.code → (s.items.channels.get a).sampleSource = l.src.toNat →
    (s.chan a).lastSeq = some q → q < 256 → (q + 1) % 256 = d.sequence.toNat → d.excitation ≠ 0#16 →
    p = ⟨d.sine.toInt, d.cosine.toInt⟩ → -2048 < p.s → p.s < 2047 → -2048 < p.c → p.c < 2047 →
    (s.items.channels.get a).noiseMode = .one → (s.chan a).rejects < 3 →
    ((s.chan a).state = .tracking ∨ (s.chan a).state = .acquire → (s.chan a).last = some p → 4 ≤ |(s.chan a).speed| →
      (s.chan a).stuckCount = 15 → 0 ≤ (s.items.channels.get a).noiseThreshold →
      ∃ t, exec (.stuck l d) s = .next t ∧ (t.chan a).state = .fault ∧ (t.chan a).cause = some .stuck
        ∧ (t.chan a).stuckCount = 16 ∧ (t.chan a).phase = (s.chan a).phase ∧ (t.chan a).speed = (s.chan a).speed
        ∧ t.alu.raised (cTrackFault a) = true ∧ (t.alu.cond (cTrackFault a)).detail = some 3
        ∧ (t.pos.handed.get a).state = .fault ∧ SameConfig s t)
    ∧ (∀ p0 : Pair, (s.chan a).state = .acquire → (s.chan a).settle = 7 → (s.chan a).last = some p0 → p0 ≠ p →
        |p.s - p0.s| ≤ (s.items.channels.get a).noiseThreshold → |p.c - p0.c| ≤ (s.items.channels.get a).noiseThreshold →
        tooWeak (s.items.channels.get a) (correct (s.chan a).used p) = false →
        |loopError (angleOf (correct (s.chan a).used p)) (s.chan a).phase| < (s.items.channels.get a).bandUp →
        ∃ t, exec (.settled l d) s = .next t ∧ (t.chan a).state = .tracking ∧ (t.chan a).settle = 0
          ∧ (t.chan a).last = some p ∧ (t.pos.handed.get a).state = .tracking ∧ SameConfig s t)

/-- SAMPLE, the front tests (R6, R17, R26): excitation bad gives FAULT(LOSS), whatever the pair; else a raw value at or outside the
ends of its range FAULT(CLIP); else, in UNLOCKED, a corrected pair below LOSS_LEVEL FAULT(LOSS). φ, ω, the turn count and the
history are held and TRACK_FAULT_x carries the cause. -/
def Obligations.SampleFaults : Prop :=
  ∀ (l : Link) (d : SampleData) (a : Axis) (s : State), s.lpu.bypass = .off → fits l 8 = true → AlarmsOk s →
    d.channel.toNat = a.code → (s.items.channels.get a).sampleSource = l.src.toNat →
    ((s.chan a).lastSeq = none ∨ ∃ q, (s.chan a).lastSeq = some q ∧ q < 256 ∧ (q + 1) % 256 = d.sequence.toNat) →
    (let faults (cause : Cause) := ∃ t, exec (.sample l d) s = .next t ∧ (t.chan a).state = .fault
        ∧ (t.chan a).cause = some cause ∧ (t.chan a).phase = (s.chan a).phase ∧ (t.chan a).speed = (s.chan a).speed
        ∧ (t.chan a).turns = (s.chan a).turns ∧ (t.chan a).last = (s.chan a).last ∧ (t.chan a).learn = .idle
        ∧ t.alu.raised (cTrackFault a) = true ∧ (t.alu.cond (cTrackFault a)).detail = some cause.code
        ∧ (t.pos.handed.get a).state = .fault ∧ SameConfig s t
     let outside (v : Int) := v ≤ -2048 ∨ 2047 ≤ v
     (d.excitation = 0#16 → faults .loss)
      ∧ (d.excitation ≠ 0#16 → outside d.sine.toInt ∨ outside d.cosine.toInt → faults .clip)
      ∧ (d.excitation ≠ 0#16 → ¬ outside d.sine.toInt → ¬ outside d.cosine.toInt → (s.chan a).state = .unlocked →
          (s.chan a).learn = .idle →
          (let k := correct (s.chan a).used ⟨d.sine.toInt, d.cosine.toInt⟩
           k.s * k.s + k.c * k.c < (s.items.channels.get a).lossLevel * (s.items.channels.get a).lossLevel →
            faults .loss)))

/-- SAMPLE, acquisition and the loop (R19, R20, R21, R22, R24): a good pair takes UNLOCKED to ACQUIRE with φ the measured angle, ω 0
and the highest gain; an accepted pair in TRACKING moves ω and φ by the error, carries the phase into the turn count of the
channel, sets OVERSPEED_x by the clamp and reschedules the gain. -/
def Obligations.AcquisitionAndTracking : Prop :=
  ∀ (l : Link) (d : SampleData) (a : Axis) (p : Pair) (s : State), s.lpu.bypass = .off → fits l 8 = true → AlarmsOk s →
    d.channel.toNat = a.code → (s.items.channels.get a).sampleSource = l.src.toNat → d.excitation ≠ 0#16 →
    p = ⟨d.sine.toInt, d.cosine.toInt⟩ → -2048 < p.s → p.s < 2047 → -2048 < p.c → p.c < 2047 →
    (let it := s.items.channels.get a
     let c := s.chan a
     tooWeak it (correct c.used p) = false →
      (c.state = .unlocked → c.lastSeq = none →
        ∃ t, exec (.sample l d) s = .next t ∧ (t.chan a).state = .acquire ∧ (t.chan a).cause = none
          ∧ (t.chan a).phase = angleOf (correct c.used p) ∧ (t.chan a).speed = 0 ∧ (t.chan a).gain = it.gainHigh
          ∧ (t.chan a).boost = true ∧ (t.chan a).last = some p ∧ (t.chan a).second = none ∧ (t.chan a).settle = 0
          ∧ (t.chan a).rejects = 0 ∧ (t.chan a).stuckCount = 0 ∧ (t.chan a).turns = c.turns
          ∧ t.alu.raised (cTrackFault a) = false ∧ t.alu.raised (cOverspeed a) = false ∧ SameConfig s t)
      ∧ (∀ q p0, c.state = .tracking → c.learn = .idle → c.lastSeq = some q → q < 256 →
          (q + 1) % 256 = d.sequence.toNat → it.noiseMode = .one → c.rejects < 3 → c.last = some p0 → p0 ≠ p →
          |p.s - p0.s| ≤ it.noiseThreshold → |p.c - p0.c| ≤ it.noiseThreshold →
          (let e := (angleOf (correct c.used p) - c.phase + 32768) % 65536 - 32768
           let w := max (-it.speedLimit) (min it.speedLimit (c.speed + Int.tdiv (e * 2 ^ c.gain) 4096))
           let raw := c.phase + w + Int.tdiv (e * 2 ^ c.gain) 128
           let turn (step : Int) : Int := match a with
             | .hoist | .drag => max (-32768) (min 32767 (c.turns + step))
             | .swing => (c.turns + step) % s.items.swingGear
             | .walk => c.turns
           ∃ t, exec (.sample l d) s = .next t ∧ (t.chan a).state = .tracking ∧ (t.chan a).speed = w
            ∧ (t.chan a).phase = (if 65536 ≤ raw then raw - 65536 else if raw < 0 then raw + 65536 else raw)
            ∧ (t.chan a).turns = (if 65536 ≤ raw then turn 1 else if raw < 0 then turn (-1) else c.turns)
            ∧ (it.gainMode = .scheduled → (t.chan a).gain = (if it.bandUp ≤ |e| then min it.gainHigh (c.gain + 1)
                else if |e| < it.bandDown then max it.gainLow (c.gain - 1) else c.gain))
            ∧ t.alu.raised (cOverspeed a) = (|w| == it.speedLimit)
            ∧ (t.chan a).last = some p ∧ (t.chan a).second = some p0 ∧ (t.chan a).used = c.used ∧ SameConfig s t)))

/-! ### Rules of the blocks -/

/-- R106: "While the part is in STANDBY or HALTED, every REFERENCE frame the 7140 produces carries enable false, speed 0 and torque
limits 0." The words of the frame that replaces a COMMAND frame of any group say so. -/
def Obligations.DisabledOutsideRun : Prop :=
  ∀ (g : Axis) (lever : Word) (s : State), s.mgu.mode ≠ .run →
    ∃ w0 rest, referenceWords g (shape g lever s).ref (shape g lever s).state = w0 :: 0#16 :: 0#16 :: 0#16 :: rest
      ∧ w0 = natWord (256 * g.code)

/-- R101: the speed reference of a frame is at most, in magnitude, the cap in force for its direction: for the frame a group writes
itself, the caps of the state it leaves; for a DRAG frame that carries the walk reference, the walk cap. The caps are those of R98 and
R99 for HOIST and DRAG and of R140 for WALK; those of SWING stand with its windows, in CrossingsAndWindows. -/
def Obligations.SpeedWithinCap : Prop :=
  (∀ (g : Axis) (v : Int) (s : State), CapItemsOk s →
    -(capsOf g s).neg ≤ (shapeRest g v s).ref.speed ∧ (shapeRest g v s).ref.speed ≤ (capsOf g s).pos
      ∧ 0 ≤ (capsOf g s).pos ∧ 0 ≤ (capsOf g s).neg)
  ∧ (∀ s : State, CapItemsOk s → |(walkReference s).speed| ≤ walkCap s)
  ∧ (∀ s : State, CapItemsOk s →
      (let low (g : Axis) (c : Int) : Int := if s.alu.severity.get g = some .limit then min c s.items.limitCreep else c
       let limit (i : Nat) (c : Int) : Int := if s.dgu.image.inputs.getLsbD i then 0 else c
       let dumping : Prop := ∃ k, k < s.tables.t6.num 0 ∧ (window s.tables.t6 k).kind = .dump ∧ s.swu.heldDoubt = false
         ∧ (window s.tables.t6 k).contains s.swu.heldHr = true
       let capped : Prop := s.profile .cls = 1 ∧ s.tables.t6.state = .live
         ∧ (∃ k, k < s.tables.t6.num 0 ∧ (window s.tables.t6 k).kind = .dump) ∧ ¬ dumping
       (capsOf .hoist s).pos = limit 0 (low .hoist (s.profile .hoistUp))
         ∧ (capsOf .hoist s).neg = low .hoist (s.profile .hoistDown)
         ∧ (capsOf .drag s).pos = limit 1 (low .drag (s.profile .dragIn))
         ∧ (capped → (capsOf .drag s).neg = min (low .drag (s.profile .dragOut)) s.items.noDumpCap)
         ∧ (¬ capped → (capsOf .drag s).neg = low .drag (s.profile .dragOut))
         ∧ (capsOf .walk s).neg = (capsOf .walk s).pos
         ∧ (s.wsq.heldSector = none ∨ s.env.selected = none → (capsOf .walk s).pos = 0)
         ∧ (∀ k, s.wsq.heldSector = some k → s.env.selected.isSome = true →
             (capsOf .walk s).pos = low .walk (sectorCap s.tables.t8 k))
         ∧ (s.env.selected = none → ∀ f, s.profile f = 0)))

/-- R94, R97, R100, R101, R104 and R140: a curve gives the magnitude on the segment of the lever's magnitude, with the lever's sign, and 0
while its table is not LIVE; the ramp moves Q as R100's table says, a rise of its magnitude by at most `accel` and a fall by at most
`decel`, "Q never crosses zero within one frame", and it rests where the target is; pullback takes from the magnitude the excess torque
times the gain, and "never reverses the reference, and it never raises its magnitude". A COMMAND frame of an ACTIVE group in RUN leaves Q
the ramp's value toward the clipped target, clipped, and counts the idle frames of a neutral lever; one of a STOPPING group leaves Q
nearer to 0 by STOP_RATE and clipped, the frame that brings it to 0 takes the group to HELD, and in STANDBY the next one does. That a DRAG
group STOPPING under the walk reference is ramped so is read from R94 (DEDUCED, assumption 34). -/
def Obligations.RampAndPullback : Prop :=
  (∀ accel decel t q : Int, 0 ≤ accel → 0 ≤ decel →
    (0 ≤ q → 0 ≤ t → 0 ≤ ramp accel decel t q) ∧ (q ≤ 0 → t ≤ 0 → ramp accel decel t q ≤ 0)
      ∧ (0 < q → 0 ≤ ramp accel decel t q) ∧ (q < 0 → ramp accel decel t q ≤ 0)
      ∧ |ramp accel decel t q| - |q| ≤ accel ∧ |q| - |ramp accel decel t q| ≤ decel
      ∧ |ramp accel decel t q - t| ≤ |q - t| ∧ ramp accel decel q q = q
      ∧ (0 ≤ q → q < t → ramp accel decel t q = q + min accel (t - q))
      ∧ (q ≤ 0 → t < q → ramp accel decel t q = q - min accel (q - t))
      ∧ (0 < t → t < q → ramp accel decel t q = q - min decel (q - t))
      ∧ (t < 0 → q < t → ramp accel decel t q = q + min decel (t - q))
      ∧ (0 < q → t ≤ 0 → ramp accel decel t q = q - min decel q)
      ∧ (q < 0 → 0 ≤ t → ramp accel decel t q = q + min decel (-q)))
  ∧ (∀ (gain motoring : Int) (v : GroupValues) (q : Int), 0 ≤ gain →
      (let less := Int.tdiv (max 0 (|v.torque| - motoring) * gain) 1000
       (0 ≤ q → 0 ≤ pullback gain motoring v q ∧ pullback gain motoring v q ≤ q)
        ∧ (q ≤ 0 → q ≤ pullback gain motoring v q ∧ pullback gain motoring v q ≤ 0)
        ∧ (v.form = .full → pullback gain motoring v q = q)
        ∧ (v.form ≠ .full → 0 ≤ q → pullback gain motoring v q = q - min q less)
        ∧ (v.form ≠ .full → q ≤ 0 → pullback gain motoring v q = q + min (-q) less)
        ∧ (|v.torque| ≤ motoring → pullback gain motoring v q = q)))
  ∧ (∀ (t : Table) (v : Int),
      (let n := t.num 0
       let x (k : Nat) : Int := if k = 0 then 0 else (t.num (2 * k - 1) : Int)
       let y (k : Nat) : Int := if k = 0 then 0 else (t.num (2 * k) : Int)
       (v = 0 ∨ t.state ≠ .live → curveTarget t v = 0)
        ∧ (v ≠ 0 → t.state = .live →
          (∀ k, k < n → x k < |v| → |v| ≤ x (k + 1) → (∀ j, j < k → x (j + 1) < |v|) →
            curveTarget t v = v.sign * (y k + Int.tdiv ((y (k + 1) - y k) * (|v| - x k)) (x (k + 1) - x k)))
          ∧ ((∀ j, j < n → x (j + 1) < |v|) → curveTarget t v = v.sign * y n))))
  ∧ (∀ (l : Link) (g : Axis) (lever : Word) (s : State), s.lpu.bypass = .off → fits l 4 = true → FrameQuiet s →
      (let u := commandArrives g (goodFrameSeen s)
       let it := s.items.groups.get g
       let r := s.group g
       let v := frameLever g lever s
       let clip (x : Int) : Int := max (-(capsOf g u).neg) (min (capsOf g u).pos x)
       let leaves (good : State → Prop) : Prop := ∃ t, exec (.command l (natWord g.code) lever) s = .next t ∧ good t
       let holds : Prop := leaves (fun t => (t.group g).state = .held ∧ (t.group g).q = 0 ∧ (t.group g).idle = 0
         ∧ (t.group g).neutralSeen = false
         ∧ (¬ (g = .drag ∧ carriesWalk s.wsq.state = true) → (t.group g).lastRef.enable = false))
       (r.state = .active → s.mgu.mode = .run → stops (u.alu.severity.get g) = false →
          ¬ (g = .drag ∧ carriesWalk s.wsq.state = true) →
          (g = .walk → walking s.wsq.state = true ∧ (s.wsq.state = .stepping → v = 0 → s.inPark = false)) →
          (let finishing : Prop := g = .walk ∧ (s.wsq.state = .finishing ∨ v = 0)
           let target : Int := if finishing then (if s.wsq.dir = some .back then -s.items.finishSpeed else s.items.finishSpeed)
             else curveTarget (s.table (curveTable g)) v
           let q := clip (ramp it.accel it.decel (clip target) r.q)
           (v ≠ 0 ∨ q ≠ 0 → 1 ≤ it.brakeDelay →
              leaves (fun t => (t.group g).state = .active ∧ (t.group g).q = q ∧ (t.group g).idle = 0
                ∧ (t.group g).lastRef.enable = true
                ∧ (g = .walk → s.wsq.state = .stepping → t.wsq.state = (if v = 0 then .finishing else .stepping)
                    ∧ (v ≠ 0 → t.wsq.dir = some (if 0 < v then .forward else .back)))))
           ∧ (v = 0 → q = 0 → r.idle < 255 → r.idle + 1 < it.brakeDelay →
              leaves (fun t => (t.group g).state = .active ∧ (t.group g).q = 0 ∧ (t.group g).idle = r.idle + 1
                ∧ (t.group g).lastRef.enable = true ∧ (t.group g).lastRef.speed = 0))
           ∧ (v = 0 → q = 0 → r.idle < 255 → it.brakeDelay ≤ r.idle + 1 → holds)))
       ∧ (r.state = .stopping → 0 ≤ it.stop →
          (let q := clip (if 0 ≤ r.q then r.q - min it.stop r.q else r.q + min it.stop (-r.q))
           (s.mgu.mode = .run → q ≠ 0 →
              leaves (fun t => (t.group g).state = .stopping ∧ (t.group g).q = q
                ∧ (¬ (g = .drag ∧ carriesWalk s.wsq.state = true) → (t.group g).lastRef.enable = true)))
           ∧ (s.mgu.mode = .run → q = 0 → holds) ∧ (s.mgu.mode = .standby → holds)))))

/-- R77 and R80: a payout hand-off takes the band up at once, and down to the fresh band only below the lowest breakpoint passed less
the hysteresis, else to the one above it; the profile is then the doubtful one while either drum is in doubt, else the cell's. -/
def Obligations.EnvelopeSelection : Prop :=
  ∀ (t0 : Table) (h : Int) (d : Drum) (p : Int) (doubt : Bool) (e : Env) (b c : Nat), t0.state = .live →
    e.band.get d = some b → e.band.get (match d with | .hoist => .drag | .drag => .hoist) = some c →
    (let e' := takePayout t0 h d p doubt e
     (∃ b', e'.band.get d = some b' ∧ (b ≤ freshBand t0 d p → b' = freshBand t0 d p)
       ∧ (freshBand t0 d p < b → b' = if p < (breakpoints t0 d).getD (freshBand t0 d p) 0 - h then freshBand t0 d p
           else freshBand t0 d p + 1)
       ∧ freshBand t0 d p ≤ b')
     ∧ e'.band.get (match d with | .hoist => .drag | .drag => .hoist) = some c
     ∧ e'.lastPayout.get d = p ∧ e'.lastDoubt.get d = doubt
     ∧ (e'.lastDoubt.hoist = true ∨ e'.lastDoubt.drag = true →
         e'.selection = .doubtful ∧ e'.selected = some (t0.num 288))
     ∧ (e'.lastDoubt.hoist = false → e'.lastDoubt.drag = false →
         e'.selection = .cell ∧ e'.selected = e'.cellProfile
           ∧ ∀ hb db, e'.band.hoist = some hb → e'.band.drag = some db →
               e'.cellProfile = some (t0.num (32 + hb * 16 + db))))

/-- R115 to R119 and R122: a movement crosses a mark exactly when the mark lies on the shorter arc, the old angle excluded and the new one
included; a window contains the angles clockwise from its start to its end, its start and not its end; a FORBIDDEN window caps each
direction by the taper to its stop band from outside, and from inside lets the house leave by the nearer edge; a SLOW window caps both
directions from inside and a DUMP window none. The caps of a direction are the least of the cap before windows and those of every existing
window, and the lesser of it and SWING_DOUBT_CREEP under suspension; a SWING frame records the windows' own, and one in CUT keeps those
recorded. That it keeps them also while the held doubt is set, where R119 has the field report both directions unrestricted, is the
model's choice (assumption 35). -/
def Obligations.CrossingsAndWindows : Prop :=
  (∀ old new m : Int, 0 ≤ old → old < 36000 → 0 ≤ new → new < 36000 → 0 ≤ m → m < 36000 →
    crossing old old m = none ∧ crossing old new old = none ∧ (new ≠ old → (crossing old new new).isSome = true)
      ∧ (crossing old new m = some .cw ↔ (new - old) % 36000 ≤ 18000 ∧ 1 ≤ (m - old) % 36000
          ∧ (m - old) % 36000 ≤ (new - old) % 36000)
      ∧ (crossing old new m = some .ccw ↔ 18000 < (new - old) % 36000 ∧ 1 ≤ (old - m) % 36000
          ∧ (old - m) % 36000 ≤ 36000 - (new - old) % 36000))
  ∧ (∀ w : Window, 0 ≤ w.start → w.start < 36000 → 0 ≤ w.stop → w.stop < 36000 → w.start ≠ w.stop →
      w.contains w.start = true ∧ w.contains w.stop = false
        ∧ (∀ hr, w.contains hr = true ↔ (hr - w.start) % 36000 < (w.stop - w.start) % 36000)
        ∧ (∀ hr, 0 ≤ hr → hr < 36000 →
            (w.contains hr = true ↔
              (if w.start < w.stop then w.start ≤ hr ∧ hr < w.stop else w.start ≤ hr ∨ hr < w.stop))))
  ∧ (∀ (w : Window) (vz hr : Int),
      (let tapered (d : Int) : Option Int := if d < w.stopBand then some 0
         else if d < w.margin then some (w.edge + Int.tdiv ((vz - w.edge) * (d - w.stopBand)) (w.margin - w.stopBand)) else none
       (w.kind = .forbidden → w.contains hr = false →
          windowCaps w vz hr = (tapered ((w.start - hr) % 36000), tapered ((hr - w.stop) % 36000)))
        ∧ (w.kind = .forbidden → w.contains hr = true →
          windowCaps w vz hr = (if (hr - w.start) % 36000 < (w.stop - hr) % 36000 then (some 0, some w.edge)
            else (some w.edge, some 0)))
        ∧ (w.kind = .slow → windowCaps w vz hr = (if w.contains hr then (some w.cap, some w.cap) else (none, none)))
        ∧ (w.kind = .dump → windowCaps w vz hr = (none, none))))
  ∧ (∀ s : State,
      (let t6 := s.tables.t6
       let stands (k : Nat) : Prop := t6.state = .live ∧ k < t6.num 0
       let caps (k : Nat) := windowCaps (window t6 k) (swingVz s) s.swu.heldHr
       let least (c : Int) (of : Nat → Option Int) : Prop :=
         c ≤ swingVz s ∧ (∀ k x, stands k → of k = some x → c ≤ x)
           ∧ (c = swingVz s ∨ ∃ k, stands k ∧ of k = some c)
       swingVz s = (let p := s.profile .swingCap
           let p := if s.alu.severity.get .swing = some .limit then min p s.items.limitCreep else p
           if s.swu.heldHeading then p else min p s.items.headingCreep)
        ∧ (s.swu.heldDoubt = true → (capsOf .swing s).pos = min (swingVz s) s.items.doubtCreep
            ∧ (capsOf .swing s).neg = min (swingVz s) s.items.doubtCreep ∧ leastCaps (swingWindows s) = (none, none))
        ∧ (s.swu.heldDoubt = false → least (capsOf .swing s).pos (fun k => (caps k).1)
            ∧ least (capsOf .swing s).neg (fun k => (caps k).2))))
  ∧ (∀ (l : Link) (lever : Word) (s : State), s.lpu.bypass = .off → fits l 4 = true → FrameQuiet s →
      (∃ t, exec (.command l 2 lever) s = .next t
        ∧ (if (s.group .swing).state = .cut then t.swu.capCw = s.swu.capCw ∧ t.swu.capCcw = s.swu.capCcw
          else (t.swu.capCw, t.swu.capCcw) = leastCaps (swingWindows (commandArrives .swing (goodFrameSeen s))))))

/-- R125, R126 and R127: the computed swing torque limit is the scaled profile torque less the adaptive reduction of the mean load, not
below the floor, and lies from 0 to the scaled profile torque; at a SWING frame the applied limit takes it directly when absent, else
moves toward it by at most ADAPT_GLIDE_STEP, and stays absent while the profile is NONE; a SWING reference carries the lesser of the
applied limit and the scaled profile torque as both its limits. R102 and R103: a HOIST or DRAG reference with enable true carries the
profile's limits scaled by the capacity, the motoring limit of DRAG less the tightline reduction, and under the regeneration flag the
motoring limit as regeneration limit where that is the lesser; the tightline field, and TIGHTLINE with it, tells whether the reduction is
active. That a WALK reference carries the DRAG group's is the model's choice (assumption 12), and so is that the field may stand after
the frame that takes DRAG to HELD (assumption 22). -/
def Obligations.SwingTorqueLimit : Prop :=
  (∀ s : State, 0 ≤ s.items.adaptFloor → 0 ≤ s.items.adaptStep →
    0 ≤ computedLimit s ∧ computedLimit s ≤ swingProfileTorque s
      ∧ (glideSwing s).swu.computed = some (computedLimit s)
      ∧ (s.env.selected = none → (glideSwing s).swu.applied = none)
      ∧ (s.env.selected.isSome = true → s.swu.applied = none → (glideSwing s).swu.applied = some (computedLimit s))
      ∧ (∀ x, s.env.selected.isSome = true → s.swu.applied = some x →
          ∃ y, (glideSwing s).swu.applied = some y ∧ |y - x| = min s.items.adaptStep |computedLimit s - x|
            ∧ |computedLimit s - y| = |computedLimit s - x| - |y - x|)
      ∧ (let gv := s.dgu.values.swing
         let torque : Int := if gv.configured = 0 then 0 else Int.tdiv (s.profile .swingTorque * gv.ready) gv.configured
         let load : Int := if s.swu.fifo = [] then 0 else Int.tdiv s.swu.fifo.sum s.swu.fifo.length
         let gain : Int := match s.items.adaptMode with | .off => 0 | .light => 250 | .medium => 500 | .strong => 1000
         swingProfileTorque s = torque ∧ (s.env.selected = none → torque = 0)
          ∧ computedLimit s = max (min s.items.adaptFloor torque)
              (torque - Int.tdiv (gain * max 0 (load - s.items.adaptBase)) 1000)
          ∧ (∀ x, s.swu.applied = some x → swingLimitSent s = min x torque)))
  ∧ (∀ (g : Axis) (v : Int) (s : State), (shapeRest g v s).ref.enable = true →
      (let ref := (shapeRest g v s).ref
       let gv := s.dgu.values.get g.drive
       let scaledBy (f : ProfileField) : Int := if gv.configured = 0 then 0 else Int.tdiv (s.profile f * gv.ready) gv.configured
       let sends (motoring regen : Int) : Prop :=
         ref.motoring = motoring ∧ ref.regen = if gv.regen then min motoring regen else regen
       let pull := max 0 s.dgu.values.hoist.torque + max 0 s.dgu.values.drag.torque
       let line := s.profile .tightline
       let active : Prop := line ≠ 0 ∧ line < pull
       match g with
       | .hoist => sends (scaledBy .hoistMotoring) (scaledBy .hoistRegen)
       | .drag =>
         (let base := scaledBy .dragMotoring
          sends (if active then max (min base s.items.tightlineFloor) (base - (pull - line)) else base) (scaledBy .dragRegen)
            ∧ ((((shapeRest .drag v s).state.group .drag).tightline = true) ↔ active))
       | .swing => ref.motoring = swingLimitSent s ∧ ref.regen = swingLimitSent s
       | .walk => sends (scaledBy .dragMotoring) (scaledBy .dragRegen)))
  ∧ (∀ (l : Link) (lever : Word) (s : State), s.lpu.bypass = .off → fits l 4 = true → AlarmsOk s →
      (let field := ((shape .drag lever (goodFrameSeen s)).state.group .drag).tightline
       (∃ t, exec (.command l 1 lever) s = .next t ∧ (t.group .drag).tightline = field ∧ t.alu.raised cTightline = field)
        ∧ ((s.group .drag).state = .held ∨ (s.group .drag).state = .cut → s.wsq.state ≠ .digging → field = false)
        ∧ (s.mgu.mode ≠ .run ∨ carriesWalk s.wsq.state = true ∨ s.profile .tightline = 0 → FrameQuiet s → field = false)))

/-- R151: the effective severity and mask come from T10 while it is LIVE and are the default and clear while it is not; a severity is
never below the floor, and a condition whose floor is STOP or TRIP is never masked. -/
def Obligations.SeverityFloors : Prop :=
  ∀ (t10 : Table) (n : Nat), n ≤ 59 →
    (condSpec n).floor.code ≤ (effSeverity t10 n).code
      ∧ (3 ≤ (condSpec n).floor.code → effMask t10 n = false)
      ∧ (t10.state ≠ .live → effSeverity t10 n = (condSpec n).default ∧ effMask t10 n = false)
      ∧ (t10.state = .live →
          (effSeverity t10 n).code = max (min 4 ((t10.words.getD n 0).toNat % 8)) (condSpec n).floor.code
            ∧ ((condSpec n).floor.code < 3 → effMask t10 n = (t10.words.getD n 0).getLsbD 15))

/-- R142 and R143: a hand-off of C that enters the park sector in STEPPING or FINISHING changes the step count by exactly one within
its bounds, up for 1 to 180 degrees forward; in FINISHING it also parks, leaving WALK neither ACTIVE nor STOPPING; in any other
state the count stands. -/
def Obligations.ParkEntries : Prop :=
  ∀ (c : Int) (chan : ChanState) (s : State),
    (let u := (takeCam c chan s).1
     (walking s.wsq.state = false → u.wsq.steps = s.wsq.steps ∧ u.wsq.state = s.wsq.state)
     ∧ (∀ k j, walking s.wsq.state = true → s.wsq.heldSector = some k → sectorOf s.tables.t8 c = some j →
         sectorPark s.tables.t8 k = false → sectorPark s.tables.t8 j = true → chan ≠ .acquire →
         -32768 ≤ s.wsq.steps → s.wsq.steps ≤ 32767 →
         u.wsq.steps = (if 1 ≤ (c - s.wsq.heldCam) % 360 ∧ (c - s.wsq.heldCam) % 360 ≤ 180 then min 32767 (s.wsq.steps + 1)
             else max (-32768) (s.wsq.steps - 1))
           ∧ (s.wsq.state = .stepping → u.wsq.state = .stepping ∧ u.groups = s.groups)
           ∧ (s.wsq.state = .finishing → (u.group .walk).atRest = true ∧ u.wsq.dir = none ∧ u.wsq.offPark = false
               ∧ (s.wsq.returnPending = false → u.wsq.state = .walkReady))))

/-- R57, R59 and R60: a group is FULL when the desired forms permit it and every member that takes part can run it, else PLAIN on the
same terms, else UNRESOLVED; with no member taking part it is UNRESOLVED, with ready count 0 and group torque 0. -/
def Obligations.FormResolution : Prop :=
  ∀ (ms : List Member) (want : Desired),
    (resolveForm ms want = .full ↔ taking ms ≠ [] ∧ want ≠ .plainOnly
      ∧ ∀ m ∈ ms, m.presence ≠ .absent → ∃ x, m.ability = some x ∧ x.full = true)
    ∧ (resolveForm ms want = .plain ↔ resolveForm ms want ≠ .full ∧ taking ms ≠ [] ∧ want ≠ .fullOnly
      ∧ ∀ m ∈ ms, m.presence ≠ .absent → ∃ x, m.ability = some x ∧ x.plain = true)
    ∧ ((∀ m ∈ ms, m.presence = .absent) →
        resolveForm ms want = .unresolved ∧ (groupValues ms want).ready = 0 ∧ (groupValues ms want).torque = 0)
end

