-- ==== Sys2Proof/Laws/Alu.lean ====
section
/-! SUPPORT. What the alarm unit's operations do: the listing operations change only listing states, the list and the sequence
counter, and keep the list within its capacity; a report gives its level conditions the raw state it says. -/

namespace Sys2Proof.Machine

/-! ### Condition records -/

@[simp] theorem Alu.setCond_length (a : Alu) (n : Nat) (c : Cond) : (a.setCond n c).conds.length = a.conds.length := by
  simp [Alu.setCond]
@[simp] theorem Alu.setCond_list (a : Alu) (n : Nat) (c : Cond) : (a.setCond n c).list = a.list := rfl
@[simp] theorem Alu.setCond_seq (a : Alu) (n : Nat) (c : Cond) : (a.setCond n c).seq = a.seq := rfl
@[simp] theorem Alu.setCond_severity (a : Alu) (n : Nat) (c : Cond) : (a.setCond n c).severity = a.severity := rfl
@[simp] theorem Alu.setCond_lastAck (a : Alu) (n : Nat) (c : Cond) : (a.setCond n c).lastAck = a.lastAck := rfl

theorem Alu.cond_setCond_other (a : Alu) {m n : Nat} (c : Cond) (h : m ≠ n) : (a.setCond n c).cond m = a.cond m := by
  simp [Alu.cond, Alu.setCond, List.getD, List.getElem?_set_ne (Ne.symm h)]

theorem Alu.cond_setCond_same (a : Alu) {n : Nat} (c : Cond) (h : n < a.conds.length) : (a.setCond n c).cond n = c := by
  simp [Alu.cond, Alu.setCond, List.getD, h]

/-- A record written to number n reads back, or n names no record. -/
theorem Alu.cond_setCond (a : Alu) (n m : Nat) (c : Cond) :
    (a.setCond n c).cond m = if m = n ∧ n < a.conds.length then c else a.cond m := by
  by_cases h : m = n
  · subst h
    by_cases hl : m < a.conds.length
    · simp [hl, Alu.cond_setCond_same]
    · simp [hl, Alu.cond, Alu.setCond, List.getD]
  · simp [h, Alu.cond_setCond_other]

/-! ### The listing operations -/

/-- Only listing states, the list and the sequence counter differ. -/
structure ListingOnly (a b : Alu) : Prop where
  length : b.conds.length = a.conds.length
  severity : b.severity = a.severity
  lastAck : b.lastAck = a.lastAck
  raised : ∀ n, (b.cond n).raised = (a.cond n).raised
  detail : ∀ n, (b.cond n).detail = (a.cond n).detail
  forced : ∀ n, (b.cond n).forced = (a.cond n).forced

theorem ListingOnly.refl (a : Alu) : ListingOnly a a := ⟨rfl, rfl, rfl, fun _ => rfl, fun _ => rfl, fun _ => rfl⟩

theorem ListingOnly.trans {a b c : Alu} (h : ListingOnly a b) (k : ListingOnly b c) : ListingOnly a c :=
  ⟨k.length.trans h.length, k.severity.trans h.severity, k.lastAck.trans h.lastAck, fun n => (k.raised n).trans (h.raised n),
    fun n => (k.detail n).trans (h.detail n), fun n => (k.forced n).trans (h.forced n)⟩

theorem listingOnly_of_list (a : Alu) (l : List Entry) (q : Nat) : ListingOnly a { a with list := l, seq := q } :=
  ⟨rfl, rfl, rfl, fun _ => rfl, fun _ => rfl, fun _ => rfl⟩

theorem listingOnly_setListing (a : Alu) (n : Nat) (l : Listing) : ListingOnly a (a.setListing n l) := by
  refine ⟨by simp [Alu.setListing], rfl, rfl, fun m => ?_, fun m => ?_, fun m => ?_⟩ <;>
    (simp only [Alu.setListing, Alu.cond_setCond]; split <;> simp_all)

theorem listingOnly_append (ctx : AluCtx) (n : Nat) (a : Alu) : ListingOnly a (a.append ctx n) :=
  (listingOnly_setListing a n .activeNew).trans (listingOnly_of_list _ _ _)

theorem listingOnly_remove (n : Nat) (a : Alu) : ListingOnly a (a.remove n) := listingOnly_of_list a _ a.seq

theorem listingOnly_relist (ctx : AluCtx) (a : Alu) : ListingOnly a (a.relist ctx) := by
  unfold Alu.relist
  split
  · split
    · exact listingOnly_append ctx _ a
    · exact .refl a
  · exact .refl a

theorem listingOnly_compete (ctx : AluCtx) (n : Nat) (a : Alu) : ListingOnly a (a.compete ctx n) := by
  simp only [Alu.compete]
  split
  · split
    · exact ((listingOnly_remove _ a).trans (listingOnly_setListing _ _ _)).trans (listingOnly_append ctx n _)
    · exact listingOnly_setListing a n _
  · exact listingOnly_setListing a n _

theorem listingOnly_raise (ctx : AluCtx) (n : Nat) (a : Alu) : ListingOnly a (a.raiseListing ctx n) := by
  unfold Alu.raiseListing
  split
  · split
    · exact listingOnly_append ctx n a
    · exact listingOnly_compete ctx n a
  · exact (listingOnly_setListing a n _).trans (listingOnly_of_list _ _ _)
  all_goals exact .refl a

theorem listingOnly_fall (ctx : AluCtx) (n : Nat) (a : Alu) : ListingOnly a (a.fallListing ctx n) := by
  unfold Alu.fallListing
  split
  · exact listingOnly_setListing a n _
  · exact ((listingOnly_remove n a).trans (listingOnly_setListing _ n _)).trans (listingOnly_relist ctx _)
  · exact listingOnly_setListing a n _
  all_goals exact .refl a

theorem listingOnly_acknowledge (ctx : AluCtx) (n : Nat) (a : Alu) : ListingOnly a (a.acknowledge ctx n) := by
  unfold Alu.acknowledge
  split
  · exact listingOnly_setListing a n _
  · exact ((listingOnly_remove n a).trans (listingOnly_setListing _ n _)).trans (listingOnly_relist ctx _)
  all_goals exact .refl a

/-- A fold of operations that change only the listing changes only the listing. -/
theorem listingOnly_foldl {β : Type} (f : Alu → β → Alu) (h : ∀ a b, ListingOnly a (f a b)) (bs : List β) (a : Alu) :
    ListingOnly a (bs.foldl f a) := by
  induction bs generalizing a with
  | nil => exact .refl a
  | cons b bs ih => exact (h a b).trans (ih (f a b))

theorem listingOnly_acknowledgeAll (ctx : AluCtx) (ns : List Nat) (a : Alu) : ListingOnly a (a.acknowledgeAll ctx ns) :=
  listingOnly_foldl _ (fun a n => listingOnly_acknowledge ctx n a) ns a

theorem listingOnly_retable (old new : Table) (cycle : Nat) (a : Alu) : ListingOnly a (a.retable old new cycle) := by
  simp only [Alu.retable]
  refine (ListingOnly.trans ?_ (listingOnly_foldl _ (fun a _ => listingOnly_relist ⟨new, cycle⟩ a) _ _)).trans
    (listingOnly_foldl _ (fun a n => listingOnly_raise ⟨new, cycle⟩ n a) _ _)
  exact listingOnly_foldl _ (fun a n => (listingOnly_remove n a).trans (listingOnly_setListing _ n _)) _ a

/-! ### The capacity of the list (R154) -/

/-- Within capacity. -/
def Alu.fitting (a : Alu) : Prop := a.list.length ≤ Config.alarmCapacity

@[simp] theorem Alu.setListing_list (a : Alu) (n : Nat) (l : Listing) : (a.setListing n l).list = a.list := rfl
theorem Alu.append_list (ctx : AluCtx) (n : Nat) (a : Alu) : (a.append ctx n).list = a.list ++ [⟨n, 1, a.seq, ctx.cycle⟩] := rfl
theorem Alu.remove_length (n : Nat) (a : Alu) : (a.remove n).list.length ≤ a.list.length := List.length_filter_le _ _

theorem Alu.remove_shorter {n : Nat} {a : Alu} {e : Entry} (h : e ∈ a.list) (k : e.cond = n) :
    (a.remove n).list.length < a.list.length := by
  refine List.length_filter_lt_length_iff_exists.mpr ⟨e, h, ?_⟩
  simp [k]

theorem fitting_relist (ctx : AluCtx) {a : Alu} (h : a.fitting) : (a.relist ctx).fitting := by
  unfold Alu.relist
  split
  · split
    · rename_i n _ hl
      simp only [Alu.fitting, Alu.append_list, List.length_append, List.length_singleton]
      exact hl
    · exact h
  · exact h

theorem fitting_compete (ctx : AluCtx) (n : Nat) {a : Alu} (h : a.fitting) : (a.compete ctx n).fitting := by
  simp only [Alu.compete]
  split
  · split
    · rename_i e he
      have hm := List.mem_of_find?_eq_some he
      have := Alu.remove_shorter hm rfl
      simp only [Alu.fitting, Alu.append_list, Alu.setListing_list, List.length_append, List.length_singleton] at *
      omega
    · exact h
  · exact h

theorem fitting_raise (ctx : AluCtx) (n : Nat) {a : Alu} (h : a.fitting) : (a.raiseListing ctx n).fitting := by
  unfold Alu.raiseListing
  split
  · split
    · rename_i hl
      simp only [Alu.fitting, Alu.append_list, List.length_append, List.length_singleton]
      exact hl
    · exact fitting_compete ctx n h
  · simpa [Alu.fitting] using h
  all_goals exact h

theorem fitting_fall (ctx : AluCtx) (n : Nat) {a : Alu} (h : a.fitting) : (a.fallListing ctx n).fitting := by
  unfold Alu.fallListing
  split
  · exact h
  · exact fitting_relist ctx (le_trans (Alu.remove_length n a) h)
  all_goals exact h

theorem fitting_acknowledge (ctx : AluCtx) (n : Nat) {a : Alu} (h : a.fitting) : (a.acknowledge ctx n).fitting := by
  unfold Alu.acknowledge
  split
  · exact h
  · exact fitting_relist ctx (le_trans (Alu.remove_length n a) h)
  all_goals exact h

theorem fitting_foldl {β : Type} (f : Alu → β → Alu) (h : ∀ a b, a.fitting → (f a b).fitting) (bs : List β) {a : Alu}
    (ha : a.fitting) : (bs.foldl f a).fitting := by
  induction bs generalizing a with
  | nil => exact ha
  | cons b bs ih => exact ih (h a b ha)

theorem fitting_acknowledgeAll (ctx : AluCtx) (ns : List Nat) {a : Alu} (h : a.fitting) : (a.acknowledgeAll ctx ns).fitting :=
  fitting_foldl _ (fun _ n k => fitting_acknowledge ctx n k) ns h

theorem fitting_retable (old new : Table) (cycle : Nat) {a : Alu} (h : a.fitting) : (a.retable old new cycle).fitting := by
  simp only [Alu.retable]
  refine fitting_foldl _ (fun _ n k => fitting_raise _ n k) _ (fitting_foldl _ (fun _ _ k => fitting_relist _ k) _ ?_)
  exact fitting_foldl (fun (a : Alu) n => (a.remove n).setListing n .quiet)
    (fun a n k => le_trans (Alu.remove_length n a) k) _ h

/-! ### Reports -/

/-- What one condition of a report does to the records: the length, the severities and the last push stand, the list keeps to its
capacity, and every other condition keeps raw state, detail and forced flag. -/
structure TakesOne (n : Nat) (a b : Alu) : Prop where
  length : b.conds.length = a.conds.length
  severity : b.severity = a.severity
  lastAck : b.lastAck = a.lastAck
  fitting : a.fitting → b.fitting
  raised : ∀ m, m ≠ n → (b.cond m).raised = (a.cond m).raised
  detail : ∀ m, m ≠ n → (b.cond m).detail = (a.cond m).detail
  forced : ∀ m, m ≠ n → (b.cond m).forced = (a.cond m).forced

theorem takesOne_of_setCond (n : Nat) (a : Alu) (c : Cond) {b : Alu} (h : ListingOnly (a.setCond n c) b)
    (k : a.fitting → b.fitting) : TakesOne n a b := by
  refine ⟨by simpa using h.length, h.severity, h.lastAck, k, fun m hm => ?_, fun m hm => ?_, fun m hm => ?_⟩
  · rw [h.raised, Alu.cond_setCond_other a c hm]
  · rw [h.detail, Alu.cond_setCond_other a c hm]
  · rw [h.forced, Alu.cond_setCond_other a c hm]

theorem takesOne_refl (n : Nat) (a : Alu) : TakesOne n a a :=
  ⟨rfl, rfl, rfl, id, fun _ _ => rfl, fun _ _ => rfl, fun _ _ => rfl⟩

theorem takesOne_occasion (ctx : AluCtx) (n : Nat) (d : Option Nat) (f : Bool) (a : Alu) : TakesOne n a (a.occasion ctx n d f) := by
  unfold Alu.occasion
  split
  · exact takesOne_of_setCond n a _ (.refl _) id
  · exact takesOne_of_setCond n a _ ((listingOnly_raise ctx n _).trans (listingOnly_fall ctx n _))
      (fun h => fitting_fall ctx n (fitting_raise ctx n h))

theorem takesOne_raiseLevel (ctx : AluCtx) (n : Nat) (d : Option Nat) (a : Alu) : TakesOne n a (a.raiseLevel ctx n d) := by
  simp only [Alu.raiseLevel]
  split
  · exact takesOne_of_setCond n a _ (.refl _) id
  · split
    · exact takesOne_of_setCond n a _ (.refl _) id
    · exact takesOne_of_setCond n a _ (listingOnly_raise ctx n _) (fun h => fitting_raise ctx n h)

theorem takesOne_fallLevel (ctx : AluCtx) (n : Nat) (a : Alu) : TakesOne n a (a.fallLevel ctx n) := by
  simp only [Alu.fallLevel]
  split
  · exact takesOne_of_setCond n a _ (listingOnly_fall ctx n _) (fun h => fitting_fall ctx n h)
  · exact takesOne_refl n a

theorem takesOne_takeOne (ctx : AluCtx) (p : Alu × Effect) (r : Report) : TakesOne r.number p.1 (takeOne ctx p r).1 := by
  match r with
  | .level n true d => exact takesOne_raiseLevel ctx n d p.1
  | .level n false d => exact takesOne_fallLevel ctx n p.1
  | .event n d => exact takesOne_occasion ctx n d false p.1

/-- A level condition reported raised is raised, with the detail reported. -/
theorem raiseLevel_cond (ctx : AluCtx) (n : Nat) (d : Option Nat) (a : Alu) (h : n < a.conds.length) :
    ((a.raiseLevel ctx n d).cond n).raised = true ∧ ((a.raiseLevel ctx n d).cond n).detail = d := by
  simp only [Alu.raiseLevel]
  split
  · rename_i hr
    simp [Alu.cond_setCond, h, hr]
  · split
    · simp [Alu.cond_setCond, h]
    · rw [(listingOnly_raise ctx n _).raised, (listingOnly_raise ctx n _).detail]
      simp [Alu.cond_setCond, h]

/-- A level condition reported not raised is not raised. -/
theorem fallLevel_cond (ctx : AluCtx) (n : Nat) (a : Alu) : ((a.fallLevel ctx n).cond n).raised = false := by
  simp only [Alu.fallLevel]
  split
  · rename_i hr
    rw [(listingOnly_fall ctx n _).raised]
    by_cases h : n < a.conds.length
    · simp [Alu.cond_setCond, h]
    · simp [Alu.cond, List.getD, Cond.reset, List.getElem?_eq_none (Nat.le_of_not_lt h)] at hr
  · simp_all

/-- An unmasked occasion leaves the detail and forced flag it was given, and the raw state as it was. -/
theorem occasion_cond (ctx : AluCtx) (n : Nat) (d : Option Nat) (f : Bool) (a : Alu) (h : n < a.conds.length)
    (k : effMask ctx.t10 n = false) :
    ((a.occasion ctx n d f).cond n).detail = d ∧ ((a.occasion ctx n d f).cond n).forced = f
      ∧ ((a.occasion ctx n d f).cond n).raised = (a.cond n).raised := by
  have l := (listingOnly_raise ctx n (a.setCond n { a.cond n with detail := d, forced := f })).trans (listingOnly_fall ctx n _)
  simp only [Alu.occasion, k, Bool.false_eq_true, if_false]
  rw [l.detail, l.forced, l.raised]
  simp [Alu.cond_setCond, h]

/-- What a whole report keeps. -/
structure TakesReport (rs : List Report) (a b : Alu) : Prop where
  length : b.conds.length = a.conds.length
  severity : b.severity = a.severity
  lastAck : b.lastAck = a.lastAck
  fitting : a.fitting → b.fitting
  raised : ∀ m, (∀ r ∈ rs, r.number ≠ m) → (b.cond m).raised = (a.cond m).raised
  detail : ∀ m, (∀ r ∈ rs, r.number ≠ m) → (b.cond m).detail = (a.cond m).detail
  forced : ∀ m, (∀ r ∈ rs, r.number ≠ m) → (b.cond m).forced = (a.cond m).forced

theorem takesReport_foldl (ctx : AluCtx) (rs : List Report) (p : Alu × Effect) :
    TakesReport rs p.1 (rs.foldl (takeOne ctx) p).1 := by
  induction rs generalizing p with
  | nil => exact ⟨rfl, rfl, rfl, id, fun _ _ => rfl, fun _ _ => rfl, fun _ _ => rfl⟩
  | cons r rs ih =>
    have h := takesOne_takeOne ctx p r
    have k := ih (takeOne ctx p r)
    refine ⟨k.length.trans h.length, k.severity.trans h.severity, k.lastAck.trans h.lastAck, fun x => k.fitting (h.fitting x),
      fun m hm => ?_, fun m hm => ?_, fun m hm => ?_⟩ <;> simp only [List.mem_cons, forall_eq_or_imp] at hm
    · exact (k.raised m hm.2).trans (h.raised m hm.1.symm)
    · exact (k.detail m hm.2).trans (h.detail m hm.1.symm)
    · exact (k.forced m hm.2).trans (h.forced m hm.1.symm)

theorem insertReport_perm (r : Report) (rs : List Report) : (insertReport r rs).Perm (r :: rs) := by
  induction rs with
  | nil => exact .refl _
  | cons x xs ih =>
    simp only [insertReport]
    split
    · exact .refl _
    · exact (ih.cons x).trans (.swap r x xs)

theorem sortReports_perm (rs : List Report) : (sortReports rs).Perm rs := by
  have h : ∀ acc : List Report, (rs.foldl (fun acc r => insertReport r acc) acc).Perm (rs ++ acc) := by
    induction rs with
    | nil => intro acc; exact .refl _
    | cons r rs ih =>
      intro acc
      exact (ih _).trans (((insertReport_perm r acc).append_left rs).trans List.perm_middle)
  simpa [sortReports] using h []

/-- What one owner's report does to the alarm unit (R150). -/
theorem take_spec (ctx : AluCtx) (rs : List Report) (a : Alu) : TakesReport rs a (a.take ctx rs).1 := by
  have h := takesReport_foldl ctx (sortReports rs) (a, Effect.none)
  have m : ∀ r, r ∈ sortReports rs ↔ r ∈ rs := fun r => (sortReports_perm rs).mem_iff
  exact ⟨h.length, h.severity, h.lastAck, h.fitting, fun n hn => h.raised n (fun r hr => hn r ((m r).1 hr)),
    fun n hn => h.detail n (fun r hr => hn r ((m r).1 hr)), fun n hn => h.forced n (fun r hr => hn r ((m r).1 hr))⟩

/-- In a fold of reports whose numbers differ, a level condition ends as it was reported. -/
theorem foldl_level (ctx : AluCtx) (rs : List Report) (p : Alu × Effect) (n : Nat) (b : Bool) (d : Option Nat)
    (hn : n < p.1.conds.length) (hmem : .level n b d ∈ rs) (hd : (rs.map Report.number).Nodup) :
    ((rs.foldl (takeOne ctx) p).1.cond n).raised = b
      ∧ (b = true → ((rs.foldl (takeOne ctx) p).1.cond n).detail = d) := by
  induction rs generalizing p with
  | nil => simp at hmem
  | cons r rs ih =>
    simp only [List.map_cons, List.nodup_cons] at hd
    rcases List.mem_cons.1 hmem with e | e
    · subst e
      have rest := takesReport_foldl ctx rs (takeOne ctx p (.level n b d))
      have other : ∀ r ∈ rs, r.number ≠ n := fun r hr hx => hd.1 (List.mem_map.2 ⟨r, hr, hx⟩)
      simp only [List.foldl_cons]
      rw [rest.raised n other, rest.detail n other]
      cases b
      · exact ⟨fallLevel_cond ctx n p.1, by simp⟩
      · exact ⟨(raiseLevel_cond ctx n d p.1 hn).1, fun _ => (raiseLevel_cond ctx n d p.1 hn).2⟩
    · have h := takesOne_takeOne ctx p r
      exact ih (takeOne ctx p r) (by rw [h.length]; exact hn) e hd.2

/-- A level condition that a report names once ends as it was reported (R150). -/
theorem take_level (ctx : AluCtx) (rs : List Report) (a : Alu) (n : Nat) (b : Bool) (d : Option Nat)
    (hn : n < a.conds.length) (hmem : .level n b d ∈ rs) (hd : (rs.map Report.number).Nodup) :
    ((a.take ctx rs).1.cond n).raised = b ∧ (b = true → ((a.take ctx rs).1.cond n).detail = d) :=
  foldl_level ctx (sortReports rs) (a, Effect.none) n b d hn ((sortReports_perm rs).mem_iff.2 hmem)
    (((sortReports_perm rs).map Report.number).nodup_iff.2 hd)

end Sys2Proof.Machine
end

