-- ==== Sys2Proof/Laws/Cells.lean ====
section
/-! SUPPORT. Reading and writing the cells of PerAxis, PerDrive and PerDrum, and the codes of their names. -/

namespace Sys2Proof

@[simp] theorem PerAxis.get_set {α : Type} (p : PerAxis α) (a : Axis) (v : α) : (p.set a v).get a = v := by cases a <;> rfl
theorem PerAxis.get_set_other {α : Type} (p : PerAxis α) {a b : Axis} (v : α) (n : b ≠ a) : (p.set a v).get b = p.get b := by
  cases a <;> cases b <;> first | rfl | exact absurd rfl n
@[simp] theorem PerAxis.get_map {α β : Type} (f : α → β) (p : PerAxis α) (a : Axis) : (p.map f).get a = f (p.get a) := by
  cases a <;> rfl
@[simp] theorem PerAxis.get_all {α : Type} (v : α) (a : Axis) : (PerAxis.all v).get a = v := by cases a <;> rfl
@[simp] theorem PerAxis.set_get {α : Type} (p : PerAxis α) (a : Axis) : p.set a (p.get a) = p := by cases a <;> rfl
@[simp] theorem PerAxis.set_set {α : Type} (p : PerAxis α) (a : Axis) (v w : α) : (p.set a v).set a w = p.set a w := by
  cases a <;> rfl
/-- Two values agree when they agree at each of the four names. -/
theorem PerAxis.eq_of_get {α : Type} {p q : PerAxis α} (h : ∀ a, p.get a = q.get a) : p = q := by
  cases p; cases q
  simp only [PerAxis.mk.injEq]
  exact ⟨h .hoist, h .drag, h .swing, h .walk⟩

@[simp] theorem PerDrive.get_set {α : Type} (p : PerDrive α) (d : Drive) (v : α) : (p.set d v).get d = v := by cases d <;> rfl
theorem PerDrive.get_set_other {α : Type} (p : PerDrive α) {d e : Drive} (v : α) (n : e ≠ d) : (p.set d v).get e = p.get e := by
  cases d <;> cases e <;> first | rfl | exact absurd rfl n
@[simp] theorem PerDrive.get_map {α β : Type} (f : α → β) (p : PerDrive α) (d : Drive) : (p.map f).get d = f (p.get d) := by
  cases d <;> rfl
@[simp] theorem PerDrive.get_all {α : Type} (v : α) (d : Drive) : (PerDrive.all v).get d = v := by cases d <;> rfl

@[simp] theorem PerDrum.get_set {α : Type} (p : PerDrum α) (d : Drum) (v : α) : (p.set d v).get d = v := by cases d <;> rfl
theorem PerDrum.get_set_other {α : Type} (p : PerDrum α) {d e : Drum} (v : α) (n : e ≠ d) : (p.set d v).get e = p.get e := by
  cases d <;> cases e <;> first | rfl | exact absurd rfl n

@[simp] theorem Axis.ofCode_code (a : Axis) : Axis.ofCode a.code = some a := by cases a <;> rfl
@[simp] theorem Drive.ofCode_code (d : Drive) : Drive.ofCode d.code = some d := by cases d <;> rfl
theorem Axis.ofCode_large {n : Nat} (h : 3 < n) : Axis.ofCode n = none := by
  match n with
  | 0 | 1 | 2 | 3 => omega
  | n + 4 => rfl
theorem Axis.ofCode_eq_some {n : Nat} {a : Axis} : Axis.ofCode n = some a ↔ n = a.code := by
  constructor
  · intro h
    match n with
    | 0 | 1 | 2 | 3 => simp [Axis.ofCode] at h; subst h; rfl
    | n + 4 => simp [Axis.ofCode] at h
  · rintro rfl; exact Axis.ofCode_code a
@[simp] theorem Axis.mem_all (a : Axis) : a ∈ Axis.all := by cases a <;> decide
@[simp] theorem Drive.mem_all (d : Drive) : d ∈ Drive.all := by cases d <;> decide

end Sys2Proof
end

