-- ==== Sys2Proof/Laws/State.lean ====
section
/-! SUPPORT. One lemma for each field of State under each of its updates, so that no proof unfolds a record update, and the same for
the views `group`, `chan` and `table`. -/

namespace Sys2Proof.Machine.State

/-! #### withLpu -/

@[simp] theorem withLpu_lpu (s : State) (x : Lpu) : (s.withLpu x).lpu = x := rfl
@[simp] theorem withLpu_mgu (s : State) (x : Lpu) : (s.withLpu x).mgu = s.mgu := rfl
@[simp] theorem withLpu_items (s : State) (x : Lpu) : (s.withLpu x).items = s.items := rfl
@[simp] theorem withLpu_tables (s : State) (x : Lpu) : (s.withLpu x).tables = s.tables := rfl
@[simp] theorem withLpu_tru (s : State) (x : Lpu) : (s.withLpu x).tru = s.tru := rfl
@[simp] theorem withLpu_pos (s : State) (x : Lpu) : (s.withLpu x).pos = s.pos := rfl
@[simp] theorem withLpu_dgu (s : State) (x : Lpu) : (s.withLpu x).dgu = s.dgu := rfl
@[simp] theorem withLpu_env (s : State) (x : Lpu) : (s.withLpu x).env = s.env := rfl
@[simp] theorem withLpu_groups (s : State) (x : Lpu) : (s.withLpu x).groups = s.groups := rfl
@[simp] theorem withLpu_swu (s : State) (x : Lpu) : (s.withLpu x).swu = s.swu := rfl
@[simp] theorem withLpu_wsq (s : State) (x : Lpu) : (s.withLpu x).wsq = s.wsq := rfl
@[simp] theorem withLpu_alu (s : State) (x : Lpu) : (s.withLpu x).alu = s.alu := rfl
@[simp] theorem withLpu_dguReportsFirst (s : State) (x : Lpu) : (s.withLpu x).dguReportsFirst = s.dguReportsFirst := rfl
@[simp] theorem withLpu_pending (s : State) (x : Lpu) : (s.withLpu x).pending = s.pending := rfl
@[simp] theorem withLpu_group (s : State) (x : Lpu) (g : Axis) : (s.withLpu x).group g = s.group g := rfl
@[simp] theorem withLpu_chan (s : State) (x : Lpu) (a : Axis) : (s.withLpu x).chan a = s.chan a := rfl
@[simp] theorem withLpu_table (s : State) (x : Lpu) (i : TableId) : (s.withLpu x).table i = s.table i := rfl
@[simp] theorem withLpu_self (s : State) : s.withLpu s.lpu = s := rfl
@[simp] theorem withLpu_withLpu (s : State) (x y : Lpu) : (s.withLpu x).withLpu y = s.withLpu y := rfl

/-! #### withMgu -/

@[simp] theorem withMgu_lpu (s : State) (x : Mgu) : (s.withMgu x).lpu = s.lpu := rfl
@[simp] theorem withMgu_mgu (s : State) (x : Mgu) : (s.withMgu x).mgu = x := rfl
@[simp] theorem withMgu_items (s : State) (x : Mgu) : (s.withMgu x).items = s.items := rfl
@[simp] theorem withMgu_tables (s : State) (x : Mgu) : (s.withMgu x).tables = s.tables := rfl
@[simp] theorem withMgu_tru (s : State) (x : Mgu) : (s.withMgu x).tru = s.tru := rfl
@[simp] theorem withMgu_pos (s : State) (x : Mgu) : (s.withMgu x).pos = s.pos := rfl
@[simp] theorem withMgu_dgu (s : State) (x : Mgu) : (s.withMgu x).dgu = s.dgu := rfl
@[simp] theorem withMgu_env (s : State) (x : Mgu) : (s.withMgu x).env = s.env := rfl
@[simp] theorem withMgu_groups (s : State) (x : Mgu) : (s.withMgu x).groups = s.groups := rfl
@[simp] theorem withMgu_swu (s : State) (x : Mgu) : (s.withMgu x).swu = s.swu := rfl
@[simp] theorem withMgu_wsq (s : State) (x : Mgu) : (s.withMgu x).wsq = s.wsq := rfl
@[simp] theorem withMgu_alu (s : State) (x : Mgu) : (s.withMgu x).alu = s.alu := rfl
@[simp] theorem withMgu_dguReportsFirst (s : State) (x : Mgu) : (s.withMgu x).dguReportsFirst = s.dguReportsFirst := rfl
@[simp] theorem withMgu_pending (s : State) (x : Mgu) : (s.withMgu x).pending = s.pending := rfl
@[simp] theorem withMgu_group (s : State) (x : Mgu) (g : Axis) : (s.withMgu x).group g = s.group g := rfl
@[simp] theorem withMgu_chan (s : State) (x : Mgu) (a : Axis) : (s.withMgu x).chan a = s.chan a := rfl
@[simp] theorem withMgu_table (s : State) (x : Mgu) (i : TableId) : (s.withMgu x).table i = s.table i := rfl
@[simp] theorem withMgu_ownByte (s : State) (x : Mgu) : (s.withMgu x).ownByte = s.ownByte := rfl
@[simp] theorem withMgu_inLoop (s : State) (x : Mgu) : (s.withMgu x).inLoop = s.inLoop := rfl
@[simp] theorem withMgu_self (s : State) : s.withMgu s.mgu = s := rfl
@[simp] theorem withMgu_withMgu (s : State) (x y : Mgu) : (s.withMgu x).withMgu y = s.withMgu y := rfl

/-! #### withItems -/

@[simp] theorem withItems_lpu (s : State) (x : Items) : (s.withItems x).lpu = s.lpu := rfl
@[simp] theorem withItems_mgu (s : State) (x : Items) : (s.withItems x).mgu = s.mgu := rfl
@[simp] theorem withItems_items (s : State) (x : Items) : (s.withItems x).items = x := rfl
@[simp] theorem withItems_tables (s : State) (x : Items) : (s.withItems x).tables = s.tables := rfl
@[simp] theorem withItems_tru (s : State) (x : Items) : (s.withItems x).tru = s.tru := rfl
@[simp] theorem withItems_pos (s : State) (x : Items) : (s.withItems x).pos = s.pos := rfl
@[simp] theorem withItems_dgu (s : State) (x : Items) : (s.withItems x).dgu = s.dgu := rfl
@[simp] theorem withItems_env (s : State) (x : Items) : (s.withItems x).env = s.env := rfl
@[simp] theorem withItems_groups (s : State) (x : Items) : (s.withItems x).groups = s.groups := rfl
@[simp] theorem withItems_swu (s : State) (x : Items) : (s.withItems x).swu = s.swu := rfl
@[simp] theorem withItems_wsq (s : State) (x : Items) : (s.withItems x).wsq = s.wsq := rfl
@[simp] theorem withItems_alu (s : State) (x : Items) : (s.withItems x).alu = s.alu := rfl
@[simp] theorem withItems_dguReportsFirst (s : State) (x : Items) : (s.withItems x).dguReportsFirst = s.dguReportsFirst := rfl
@[simp] theorem withItems_pending (s : State) (x : Items) : (s.withItems x).pending = s.pending := rfl
@[simp] theorem withItems_group (s : State) (x : Items) (g : Axis) : (s.withItems x).group g = s.group g := rfl
@[simp] theorem withItems_chan (s : State) (x : Items) (a : Axis) : (s.withItems x).chan a = s.chan a := rfl
@[simp] theorem withItems_table (s : State) (x : Items) (i : TableId) : (s.withItems x).table i = s.table i := rfl
@[simp] theorem withItems_ownByte (s : State) (x : Items) : (s.withItems x).ownByte = s.ownByte := rfl
@[simp] theorem withItems_inLoop (s : State) (x : Items) : (s.withItems x).inLoop = s.inLoop := rfl
@[simp] theorem withItems_self (s : State) : s.withItems s.items = s := rfl
@[simp] theorem withItems_withItems (s : State) (x y : Items) : (s.withItems x).withItems y = s.withItems y := rfl

/-! #### withTables -/

@[simp] theorem withTables_lpu (s : State) (x : Tables) : (s.withTables x).lpu = s.lpu := rfl
@[simp] theorem withTables_mgu (s : State) (x : Tables) : (s.withTables x).mgu = s.mgu := rfl
@[simp] theorem withTables_items (s : State) (x : Tables) : (s.withTables x).items = s.items := rfl
@[simp] theorem withTables_tables (s : State) (x : Tables) : (s.withTables x).tables = x := rfl
@[simp] theorem withTables_tru (s : State) (x : Tables) : (s.withTables x).tru = s.tru := rfl
@[simp] theorem withTables_pos (s : State) (x : Tables) : (s.withTables x).pos = s.pos := rfl
@[simp] theorem withTables_dgu (s : State) (x : Tables) : (s.withTables x).dgu = s.dgu := rfl
@[simp] theorem withTables_env (s : State) (x : Tables) : (s.withTables x).env = s.env := rfl
@[simp] theorem withTables_groups (s : State) (x : Tables) : (s.withTables x).groups = s.groups := rfl
@[simp] theorem withTables_swu (s : State) (x : Tables) : (s.withTables x).swu = s.swu := rfl
@[simp] theorem withTables_wsq (s : State) (x : Tables) : (s.withTables x).wsq = s.wsq := rfl
@[simp] theorem withTables_alu (s : State) (x : Tables) : (s.withTables x).alu = s.alu := rfl
@[simp] theorem withTables_dguReportsFirst (s : State) (x : Tables) : (s.withTables x).dguReportsFirst = s.dguReportsFirst := rfl
@[simp] theorem withTables_pending (s : State) (x : Tables) : (s.withTables x).pending = s.pending := rfl
@[simp] theorem withTables_group (s : State) (x : Tables) (g : Axis) : (s.withTables x).group g = s.group g := rfl
@[simp] theorem withTables_chan (s : State) (x : Tables) (a : Axis) : (s.withTables x).chan a = s.chan a := rfl
@[simp] theorem withTables_table (s : State) (x : Tables) (i : TableId) : (s.withTables x).table i = x.get i := rfl
@[simp] theorem withTables_ownByte (s : State) (x : Tables) : (s.withTables x).ownByte = s.ownByte := rfl
@[simp] theorem withTables_inLoop (s : State) (x : Tables) : (s.withTables x).inLoop = s.inLoop := rfl
@[simp] theorem withTables_self (s : State) : s.withTables s.tables = s := rfl
@[simp] theorem withTables_withTables (s : State) (x y : Tables) : (s.withTables x).withTables y = s.withTables y := rfl

/-! #### withTru -/

@[simp] theorem withTru_lpu (s : State) (x : PerAxis Channel) : (s.withTru x).lpu = s.lpu := rfl
@[simp] theorem withTru_mgu (s : State) (x : PerAxis Channel) : (s.withTru x).mgu = s.mgu := rfl
@[simp] theorem withTru_items (s : State) (x : PerAxis Channel) : (s.withTru x).items = s.items := rfl
@[simp] theorem withTru_tables (s : State) (x : PerAxis Channel) : (s.withTru x).tables = s.tables := rfl
@[simp] theorem withTru_tru (s : State) (x : PerAxis Channel) : (s.withTru x).tru = x := rfl
@[simp] theorem withTru_pos (s : State) (x : PerAxis Channel) : (s.withTru x).pos = s.pos := rfl
@[simp] theorem withTru_dgu (s : State) (x : PerAxis Channel) : (s.withTru x).dgu = s.dgu := rfl
@[simp] theorem withTru_env (s : State) (x : PerAxis Channel) : (s.withTru x).env = s.env := rfl
@[simp] theorem withTru_groups (s : State) (x : PerAxis Channel) : (s.withTru x).groups = s.groups := rfl
@[simp] theorem withTru_swu (s : State) (x : PerAxis Channel) : (s.withTru x).swu = s.swu := rfl
@[simp] theorem withTru_wsq (s : State) (x : PerAxis Channel) : (s.withTru x).wsq = s.wsq := rfl
@[simp] theorem withTru_alu (s : State) (x : PerAxis Channel) : (s.withTru x).alu = s.alu := rfl
@[simp] theorem withTru_dguReportsFirst (s : State) (x : PerAxis Channel) : (s.withTru x).dguReportsFirst = s.dguReportsFirst := rfl
@[simp] theorem withTru_pending (s : State) (x : PerAxis Channel) : (s.withTru x).pending = s.pending := rfl
@[simp] theorem withTru_group (s : State) (x : PerAxis Channel) (g : Axis) : (s.withTru x).group g = s.group g := rfl
@[simp] theorem withTru_chan (s : State) (x : PerAxis Channel) (a : Axis) : (s.withTru x).chan a = x.get a := rfl
@[simp] theorem withTru_table (s : State) (x : PerAxis Channel) (i : TableId) : (s.withTru x).table i = s.table i := rfl
@[simp] theorem withTru_ownByte (s : State) (x : PerAxis Channel) : (s.withTru x).ownByte = s.ownByte := rfl
@[simp] theorem withTru_inLoop (s : State) (x : PerAxis Channel) : (s.withTru x).inLoop = s.inLoop := rfl
@[simp] theorem withTru_self (s : State) : s.withTru s.tru = s := rfl
@[simp] theorem withTru_withTru (s : State) (x y : PerAxis Channel) : (s.withTru x).withTru y = s.withTru y := rfl

/-! #### withPos -/

@[simp] theorem withPos_lpu (s : State) (x : Pos) : (s.withPos x).lpu = s.lpu := rfl
@[simp] theorem withPos_mgu (s : State) (x : Pos) : (s.withPos x).mgu = s.mgu := rfl
@[simp] theorem withPos_items (s : State) (x : Pos) : (s.withPos x).items = s.items := rfl
@[simp] theorem withPos_tables (s : State) (x : Pos) : (s.withPos x).tables = s.tables := rfl
@[simp] theorem withPos_tru (s : State) (x : Pos) : (s.withPos x).tru = s.tru := rfl
@[simp] theorem withPos_pos (s : State) (x : Pos) : (s.withPos x).pos = x := rfl
@[simp] theorem withPos_dgu (s : State) (x : Pos) : (s.withPos x).dgu = s.dgu := rfl
@[simp] theorem withPos_env (s : State) (x : Pos) : (s.withPos x).env = s.env := rfl
@[simp] theorem withPos_groups (s : State) (x : Pos) : (s.withPos x).groups = s.groups := rfl
@[simp] theorem withPos_swu (s : State) (x : Pos) : (s.withPos x).swu = s.swu := rfl
@[simp] theorem withPos_wsq (s : State) (x : Pos) : (s.withPos x).wsq = s.wsq := rfl
@[simp] theorem withPos_alu (s : State) (x : Pos) : (s.withPos x).alu = s.alu := rfl
@[simp] theorem withPos_dguReportsFirst (s : State) (x : Pos) : (s.withPos x).dguReportsFirst = s.dguReportsFirst := rfl
@[simp] theorem withPos_pending (s : State) (x : Pos) : (s.withPos x).pending = s.pending := rfl
@[simp] theorem withPos_group (s : State) (x : Pos) (g : Axis) : (s.withPos x).group g = s.group g := rfl
@[simp] theorem withPos_chan (s : State) (x : Pos) (a : Axis) : (s.withPos x).chan a = s.chan a := rfl
@[simp] theorem withPos_table (s : State) (x : Pos) (i : TableId) : (s.withPos x).table i = s.table i := rfl
@[simp] theorem withPos_ownByte (s : State) (x : Pos) : (s.withPos x).ownByte = s.ownByte := rfl
@[simp] theorem withPos_inLoop (s : State) (x : Pos) : (s.withPos x).inLoop = s.inLoop := rfl
@[simp] theorem withPos_self (s : State) : s.withPos s.pos = s := rfl
@[simp] theorem withPos_withPos (s : State) (x y : Pos) : (s.withPos x).withPos y = s.withPos y := rfl

/-! #### withDgu -/

@[simp] theorem withDgu_lpu (s : State) (x : Dgu) : (s.withDgu x).lpu = s.lpu := rfl
@[simp] theorem withDgu_mgu (s : State) (x : Dgu) : (s.withDgu x).mgu = s.mgu := rfl
@[simp] theorem withDgu_items (s : State) (x : Dgu) : (s.withDgu x).items = s.items := rfl
@[simp] theorem withDgu_tables (s : State) (x : Dgu) : (s.withDgu x).tables = s.tables := rfl
@[simp] theorem withDgu_tru (s : State) (x : Dgu) : (s.withDgu x).tru = s.tru := rfl
@[simp] theorem withDgu_pos (s : State) (x : Dgu) : (s.withDgu x).pos = s.pos := rfl
@[simp] theorem withDgu_dgu (s : State) (x : Dgu) : (s.withDgu x).dgu = x := rfl
@[simp] theorem withDgu_env (s : State) (x : Dgu) : (s.withDgu x).env = s.env := rfl
@[simp] theorem withDgu_groups (s : State) (x : Dgu) : (s.withDgu x).groups = s.groups := rfl
@[simp] theorem withDgu_swu (s : State) (x : Dgu) : (s.withDgu x).swu = s.swu := rfl
@[simp] theorem withDgu_wsq (s : State) (x : Dgu) : (s.withDgu x).wsq = s.wsq := rfl
@[simp] theorem withDgu_alu (s : State) (x : Dgu) : (s.withDgu x).alu = s.alu := rfl
@[simp] theorem withDgu_dguReportsFirst (s : State) (x : Dgu) : (s.withDgu x).dguReportsFirst = s.dguReportsFirst := rfl
@[simp] theorem withDgu_pending (s : State) (x : Dgu) : (s.withDgu x).pending = s.pending := rfl
@[simp] theorem withDgu_group (s : State) (x : Dgu) (g : Axis) : (s.withDgu x).group g = s.group g := rfl
@[simp] theorem withDgu_chan (s : State) (x : Dgu) (a : Axis) : (s.withDgu x).chan a = s.chan a := rfl
@[simp] theorem withDgu_table (s : State) (x : Dgu) (i : TableId) : (s.withDgu x).table i = s.table i := rfl
@[simp] theorem withDgu_ownByte (s : State) (x : Dgu) : (s.withDgu x).ownByte = s.ownByte := rfl
@[simp] theorem withDgu_inLoop (s : State) (x : Dgu) : (s.withDgu x).inLoop = s.inLoop := rfl
@[simp] theorem withDgu_self (s : State) : s.withDgu s.dgu = s := rfl
@[simp] theorem withDgu_withDgu (s : State) (x y : Dgu) : (s.withDgu x).withDgu y = s.withDgu y := rfl

/-! #### withEnv -/

@[simp] theorem withEnv_lpu (s : State) (x : Env) : (s.withEnv x).lpu = s.lpu := rfl
@[simp] theorem withEnv_mgu (s : State) (x : Env) : (s.withEnv x).mgu = s.mgu := rfl
@[simp] theorem withEnv_items (s : State) (x : Env) : (s.withEnv x).items = s.items := rfl
@[simp] theorem withEnv_tables (s : State) (x : Env) : (s.withEnv x).tables = s.tables := rfl
@[simp] theorem withEnv_tru (s : State) (x : Env) : (s.withEnv x).tru = s.tru := rfl
@[simp] theorem withEnv_pos (s : State) (x : Env) : (s.withEnv x).pos = s.pos := rfl
@[simp] theorem withEnv_dgu (s : State) (x : Env) : (s.withEnv x).dgu = s.dgu := rfl
@[simp] theorem withEnv_env (s : State) (x : Env) : (s.withEnv x).env = x := rfl
@[simp] theorem withEnv_groups (s : State) (x : Env) : (s.withEnv x).groups = s.groups := rfl
@[simp] theorem withEnv_swu (s : State) (x : Env) : (s.withEnv x).swu = s.swu := rfl
@[simp] theorem withEnv_wsq (s : State) (x : Env) : (s.withEnv x).wsq = s.wsq := rfl
@[simp] theorem withEnv_alu (s : State) (x : Env) : (s.withEnv x).alu = s.alu := rfl
@[simp] theorem withEnv_dguReportsFirst (s : State) (x : Env) : (s.withEnv x).dguReportsFirst = s.dguReportsFirst := rfl
@[simp] theorem withEnv_pending (s : State) (x : Env) : (s.withEnv x).pending = s.pending := rfl
@[simp] theorem withEnv_group (s : State) (x : Env) (g : Axis) : (s.withEnv x).group g = s.group g := rfl
@[simp] theorem withEnv_chan (s : State) (x : Env) (a : Axis) : (s.withEnv x).chan a = s.chan a := rfl
@[simp] theorem withEnv_table (s : State) (x : Env) (i : TableId) : (s.withEnv x).table i = s.table i := rfl
@[simp] theorem withEnv_ownByte (s : State) (x : Env) : (s.withEnv x).ownByte = s.ownByte := rfl
@[simp] theorem withEnv_inLoop (s : State) (x : Env) : (s.withEnv x).inLoop = s.inLoop := rfl
@[simp] theorem withEnv_self (s : State) : s.withEnv s.env = s := rfl
@[simp] theorem withEnv_withEnv (s : State) (x y : Env) : (s.withEnv x).withEnv y = s.withEnv y := rfl

/-! #### withGroups -/

@[simp] theorem withGroups_lpu (s : State) (x : PerAxis Group) : (s.withGroups x).lpu = s.lpu := rfl
@[simp] theorem withGroups_mgu (s : State) (x : PerAxis Group) : (s.withGroups x).mgu = s.mgu := rfl
@[simp] theorem withGroups_items (s : State) (x : PerAxis Group) : (s.withGroups x).items = s.items := rfl
@[simp] theorem withGroups_tables (s : State) (x : PerAxis Group) : (s.withGroups x).tables = s.tables := rfl
@[simp] theorem withGroups_tru (s : State) (x : PerAxis Group) : (s.withGroups x).tru = s.tru := rfl
@[simp] theorem withGroups_pos (s : State) (x : PerAxis Group) : (s.withGroups x).pos = s.pos := rfl
@[simp] theorem withGroups_dgu (s : State) (x : PerAxis Group) : (s.withGroups x).dgu = s.dgu := rfl
@[simp] theorem withGroups_env (s : State) (x : PerAxis Group) : (s.withGroups x).env = s.env := rfl
@[simp] theorem withGroups_groups (s : State) (x : PerAxis Group) : (s.withGroups x).groups = x := rfl
@[simp] theorem withGroups_swu (s : State) (x : PerAxis Group) : (s.withGroups x).swu = s.swu := rfl
@[simp] theorem withGroups_wsq (s : State) (x : PerAxis Group) : (s.withGroups x).wsq = s.wsq := rfl
@[simp] theorem withGroups_alu (s : State) (x : PerAxis Group) : (s.withGroups x).alu = s.alu := rfl
@[simp] theorem withGroups_dguReportsFirst (s : State) (x : PerAxis Group) : (s.withGroups x).dguReportsFirst = s.dguReportsFirst := rfl
@[simp] theorem withGroups_pending (s : State) (x : PerAxis Group) : (s.withGroups x).pending = s.pending := rfl
@[simp] theorem withGroups_group (s : State) (x : PerAxis Group) (g : Axis) : (s.withGroups x).group g = x.get g := rfl
@[simp] theorem withGroups_chan (s : State) (x : PerAxis Group) (a : Axis) : (s.withGroups x).chan a = s.chan a := rfl
@[simp] theorem withGroups_table (s : State) (x : PerAxis Group) (i : TableId) : (s.withGroups x).table i = s.table i := rfl
@[simp] theorem withGroups_ownByte (s : State) (x : PerAxis Group) : (s.withGroups x).ownByte = s.ownByte := rfl
@[simp] theorem withGroups_inLoop (s : State) (x : PerAxis Group) : (s.withGroups x).inLoop = s.inLoop := rfl
@[simp] theorem withGroups_self (s : State) : s.withGroups s.groups = s := rfl
@[simp] theorem withGroups_withGroups (s : State) (x y : PerAxis Group) : (s.withGroups x).withGroups y = s.withGroups y := rfl

/-! #### withSwu -/

@[simp] theorem withSwu_lpu (s : State) (x : Swu) : (s.withSwu x).lpu = s.lpu := rfl
@[simp] theorem withSwu_mgu (s : State) (x : Swu) : (s.withSwu x).mgu = s.mgu := rfl
@[simp] theorem withSwu_items (s : State) (x : Swu) : (s.withSwu x).items = s.items := rfl
@[simp] theorem withSwu_tables (s : State) (x : Swu) : (s.withSwu x).tables = s.tables := rfl
@[simp] theorem withSwu_tru (s : State) (x : Swu) : (s.withSwu x).tru = s.tru := rfl
@[simp] theorem withSwu_pos (s : State) (x : Swu) : (s.withSwu x).pos = s.pos := rfl
@[simp] theorem withSwu_dgu (s : State) (x : Swu) : (s.withSwu x).dgu = s.dgu := rfl
@[simp] theorem withSwu_env (s : State) (x : Swu) : (s.withSwu x).env = s.env := rfl
@[simp] theorem withSwu_groups (s : State) (x : Swu) : (s.withSwu x).groups = s.groups := rfl
@[simp] theorem withSwu_swu (s : State) (x : Swu) : (s.withSwu x).swu = x := rfl
@[simp] theorem withSwu_wsq (s : State) (x : Swu) : (s.withSwu x).wsq = s.wsq := rfl
@[simp] theorem withSwu_alu (s : State) (x : Swu) : (s.withSwu x).alu = s.alu := rfl
@[simp] theorem withSwu_dguReportsFirst (s : State) (x : Swu) : (s.withSwu x).dguReportsFirst = s.dguReportsFirst := rfl
@[simp] theorem withSwu_pending (s : State) (x : Swu) : (s.withSwu x).pending = s.pending := rfl
@[simp] theorem withSwu_group (s : State) (x : Swu) (g : Axis) : (s.withSwu x).group g = s.group g := rfl
@[simp] theorem withSwu_chan (s : State) (x : Swu) (a : Axis) : (s.withSwu x).chan a = s.chan a := rfl
@[simp] theorem withSwu_table (s : State) (x : Swu) (i : TableId) : (s.withSwu x).table i = s.table i := rfl
@[simp] theorem withSwu_ownByte (s : State) (x : Swu) : (s.withSwu x).ownByte = s.ownByte := rfl
@[simp] theorem withSwu_inLoop (s : State) (x : Swu) : (s.withSwu x).inLoop = s.inLoop := rfl
@[simp] theorem withSwu_self (s : State) : s.withSwu s.swu = s := rfl
@[simp] theorem withSwu_withSwu (s : State) (x y : Swu) : (s.withSwu x).withSwu y = s.withSwu y := rfl

/-! #### withWsq -/

@[simp] theorem withWsq_lpu (s : State) (x : Wsq) : (s.withWsq x).lpu = s.lpu := rfl
@[simp] theorem withWsq_mgu (s : State) (x : Wsq) : (s.withWsq x).mgu = s.mgu := rfl
@[simp] theorem withWsq_items (s : State) (x : Wsq) : (s.withWsq x).items = s.items := rfl
@[simp] theorem withWsq_tables (s : State) (x : Wsq) : (s.withWsq x).tables = s.tables := rfl
@[simp] theorem withWsq_tru (s : State) (x : Wsq) : (s.withWsq x).tru = s.tru := rfl
@[simp] theorem withWsq_pos (s : State) (x : Wsq) : (s.withWsq x).pos = s.pos := rfl
@[simp] theorem withWsq_dgu (s : State) (x : Wsq) : (s.withWsq x).dgu = s.dgu := rfl
@[simp] theorem withWsq_env (s : State) (x : Wsq) : (s.withWsq x).env = s.env := rfl
@[simp] theorem withWsq_groups (s : State) (x : Wsq) : (s.withWsq x).groups = s.groups := rfl
@[simp] theorem withWsq_swu (s : State) (x : Wsq) : (s.withWsq x).swu = s.swu := rfl
@[simp] theorem withWsq_wsq (s : State) (x : Wsq) : (s.withWsq x).wsq = x := rfl
@[simp] theorem withWsq_alu (s : State) (x : Wsq) : (s.withWsq x).alu = s.alu := rfl
@[simp] theorem withWsq_dguReportsFirst (s : State) (x : Wsq) : (s.withWsq x).dguReportsFirst = s.dguReportsFirst := rfl
@[simp] theorem withWsq_pending (s : State) (x : Wsq) : (s.withWsq x).pending = s.pending := rfl
@[simp] theorem withWsq_group (s : State) (x : Wsq) (g : Axis) : (s.withWsq x).group g = s.group g := rfl
@[simp] theorem withWsq_chan (s : State) (x : Wsq) (a : Axis) : (s.withWsq x).chan a = s.chan a := rfl
@[simp] theorem withWsq_table (s : State) (x : Wsq) (i : TableId) : (s.withWsq x).table i = s.table i := rfl
@[simp] theorem withWsq_ownByte (s : State) (x : Wsq) : (s.withWsq x).ownByte = s.ownByte := rfl
@[simp] theorem withWsq_inLoop (s : State) (x : Wsq) : (s.withWsq x).inLoop = s.inLoop := rfl
@[simp] theorem withWsq_self (s : State) : s.withWsq s.wsq = s := rfl
@[simp] theorem withWsq_withWsq (s : State) (x y : Wsq) : (s.withWsq x).withWsq y = s.withWsq y := rfl

/-! #### withAlu -/

@[simp] theorem withAlu_lpu (s : State) (x : Alu) : (s.withAlu x).lpu = s.lpu := rfl
@[simp] theorem withAlu_mgu (s : State) (x : Alu) : (s.withAlu x).mgu = s.mgu := rfl
@[simp] theorem withAlu_items (s : State) (x : Alu) : (s.withAlu x).items = s.items := rfl
@[simp] theorem withAlu_tables (s : State) (x : Alu) : (s.withAlu x).tables = s.tables := rfl
@[simp] theorem withAlu_tru (s : State) (x : Alu) : (s.withAlu x).tru = s.tru := rfl
@[simp] theorem withAlu_pos (s : State) (x : Alu) : (s.withAlu x).pos = s.pos := rfl
@[simp] theorem withAlu_dgu (s : State) (x : Alu) : (s.withAlu x).dgu = s.dgu := rfl
@[simp] theorem withAlu_env (s : State) (x : Alu) : (s.withAlu x).env = s.env := rfl
@[simp] theorem withAlu_groups (s : State) (x : Alu) : (s.withAlu x).groups = s.groups := rfl
@[simp] theorem withAlu_swu (s : State) (x : Alu) : (s.withAlu x).swu = s.swu := rfl
@[simp] theorem withAlu_wsq (s : State) (x : Alu) : (s.withAlu x).wsq = s.wsq := rfl
@[simp] theorem withAlu_alu (s : State) (x : Alu) : (s.withAlu x).alu = x := rfl
@[simp] theorem withAlu_dguReportsFirst (s : State) (x : Alu) : (s.withAlu x).dguReportsFirst = s.dguReportsFirst := rfl
@[simp] theorem withAlu_pending (s : State) (x : Alu) : (s.withAlu x).pending = s.pending := rfl
@[simp] theorem withAlu_group (s : State) (x : Alu) (g : Axis) : (s.withAlu x).group g = s.group g := rfl
@[simp] theorem withAlu_chan (s : State) (x : Alu) (a : Axis) : (s.withAlu x).chan a = s.chan a := rfl
@[simp] theorem withAlu_table (s : State) (x : Alu) (i : TableId) : (s.withAlu x).table i = s.table i := rfl
@[simp] theorem withAlu_ownByte (s : State) (x : Alu) : (s.withAlu x).ownByte = s.ownByte := rfl
@[simp] theorem withAlu_inLoop (s : State) (x : Alu) : (s.withAlu x).inLoop = s.inLoop := rfl
@[simp] theorem withAlu_self (s : State) : s.withAlu s.alu = s := rfl
@[simp] theorem withAlu_withAlu (s : State) (x y : Alu) : (s.withAlu x).withAlu y = s.withAlu y := rfl

/-! #### withPending -/

@[simp] theorem withPending_lpu (s : State) (q : List Instr) : (s.withPending q).lpu = s.lpu := rfl
@[simp] theorem withPending_mgu (s : State) (q : List Instr) : (s.withPending q).mgu = s.mgu := rfl
@[simp] theorem withPending_items (s : State) (q : List Instr) : (s.withPending q).items = s.items := rfl
@[simp] theorem withPending_tables (s : State) (q : List Instr) : (s.withPending q).tables = s.tables := rfl
@[simp] theorem withPending_tru (s : State) (q : List Instr) : (s.withPending q).tru = s.tru := rfl
@[simp] theorem withPending_pos (s : State) (q : List Instr) : (s.withPending q).pos = s.pos := rfl
@[simp] theorem withPending_dgu (s : State) (q : List Instr) : (s.withPending q).dgu = s.dgu := rfl
@[simp] theorem withPending_env (s : State) (q : List Instr) : (s.withPending q).env = s.env := rfl
@[simp] theorem withPending_groups (s : State) (q : List Instr) : (s.withPending q).groups = s.groups := rfl
@[simp] theorem withPending_swu (s : State) (q : List Instr) : (s.withPending q).swu = s.swu := rfl
@[simp] theorem withPending_wsq (s : State) (q : List Instr) : (s.withPending q).wsq = s.wsq := rfl
@[simp] theorem withPending_alu (s : State) (q : List Instr) : (s.withPending q).alu = s.alu := rfl
@[simp] theorem withPending_dguReportsFirst (s : State) (q : List Instr) : (s.withPending q).dguReportsFirst = s.dguReportsFirst := rfl
@[simp] theorem withPending_pending (s : State) (q : List Instr) : (s.withPending q).pending = q := rfl
@[simp] theorem withPending_group (s : State) (q : List Instr) (g : Axis) : (s.withPending q).group g = s.group g := rfl
@[simp] theorem withPending_chan (s : State) (q : List Instr) (a : Axis) : (s.withPending q).chan a = s.chan a := rfl
@[simp] theorem withPending_table (s : State) (q : List Instr) (i : TableId) : (s.withPending q).table i = s.table i := rfl

/-! #### setGroup -/

@[simp] theorem setGroup_lpu (s : State) (g : Axis) (x : Group) : (s.setGroup g x).lpu = s.lpu := rfl
@[simp] theorem setGroup_mgu (s : State) (g : Axis) (x : Group) : (s.setGroup g x).mgu = s.mgu := rfl
@[simp] theorem setGroup_items (s : State) (g : Axis) (x : Group) : (s.setGroup g x).items = s.items := rfl
@[simp] theorem setGroup_tables (s : State) (g : Axis) (x : Group) : (s.setGroup g x).tables = s.tables := rfl
@[simp] theorem setGroup_tru (s : State) (g : Axis) (x : Group) : (s.setGroup g x).tru = s.tru := rfl
@[simp] theorem setGroup_pos (s : State) (g : Axis) (x : Group) : (s.setGroup g x).pos = s.pos := rfl
@[simp] theorem setGroup_dgu (s : State) (g : Axis) (x : Group) : (s.setGroup g x).dgu = s.dgu := rfl
@[simp] theorem setGroup_env (s : State) (g : Axis) (x : Group) : (s.setGroup g x).env = s.env := rfl
@[simp] theorem setGroup_groups (s : State) (g : Axis) (x : Group) : (s.setGroup g x).groups = s.groups.set g x := rfl
@[simp] theorem setGroup_swu (s : State) (g : Axis) (x : Group) : (s.setGroup g x).swu = s.swu := rfl
@[simp] theorem setGroup_wsq (s : State) (g : Axis) (x : Group) : (s.setGroup g x).wsq = s.wsq := rfl
@[simp] theorem setGroup_alu (s : State) (g : Axis) (x : Group) : (s.setGroup g x).alu = s.alu := rfl
@[simp] theorem setGroup_dguReportsFirst (s : State) (g : Axis) (x : Group) : (s.setGroup g x).dguReportsFirst = s.dguReportsFirst := rfl
@[simp] theorem setGroup_pending (s : State) (g : Axis) (x : Group) : (s.setGroup g x).pending = s.pending := rfl
@[simp] theorem setGroup_ownByte (s : State) (g : Axis) (x : Group) : (s.setGroup g x).ownByte = s.ownByte := rfl
@[simp] theorem setGroup_inLoop (s : State) (g : Axis) (x : Group) : (s.setGroup g x).inLoop = s.inLoop := rfl
@[simp] theorem setGroup_chan (s : State) (g : Axis) (x : Group) (b : Axis) : (s.setGroup g x).chan b = s.chan b := rfl
@[simp] theorem setGroup_table (s : State) (g : Axis) (x : Group) (j : TableId) : (s.setGroup g x).table j = s.table j := rfl

/-! #### setChan -/

@[simp] theorem setChan_lpu (s : State) (a : Axis) (x : Channel) : (s.setChan a x).lpu = s.lpu := rfl
@[simp] theorem setChan_mgu (s : State) (a : Axis) (x : Channel) : (s.setChan a x).mgu = s.mgu := rfl
@[simp] theorem setChan_items (s : State) (a : Axis) (x : Channel) : (s.setChan a x).items = s.items := rfl
@[simp] theorem setChan_tables (s : State) (a : Axis) (x : Channel) : (s.setChan a x).tables = s.tables := rfl
@[simp] theorem setChan_tru (s : State) (a : Axis) (x : Channel) : (s.setChan a x).tru = s.tru.set a x := rfl
@[simp] theorem setChan_pos (s : State) (a : Axis) (x : Channel) : (s.setChan a x).pos = s.pos := rfl
@[simp] theorem setChan_dgu (s : State) (a : Axis) (x : Channel) : (s.setChan a x).dgu = s.dgu := rfl
@[simp] theorem setChan_env (s : State) (a : Axis) (x : Channel) : (s.setChan a x).env = s.env := rfl
@[simp] theorem setChan_groups (s : State) (a : Axis) (x : Channel) : (s.setChan a x).groups = s.groups := rfl
@[simp] theorem setChan_swu (s : State) (a : Axis) (x : Channel) : (s.setChan a x).swu = s.swu := rfl
@[simp] theorem setChan_wsq (s : State) (a : Axis) (x : Channel) : (s.setChan a x).wsq = s.wsq := rfl
@[simp] theorem setChan_alu (s : State) (a : Axis) (x : Channel) : (s.setChan a x).alu = s.alu := rfl
@[simp] theorem setChan_dguReportsFirst (s : State) (a : Axis) (x : Channel) : (s.setChan a x).dguReportsFirst = s.dguReportsFirst := rfl
@[simp] theorem setChan_pending (s : State) (a : Axis) (x : Channel) : (s.setChan a x).pending = s.pending := rfl
@[simp] theorem setChan_ownByte (s : State) (a : Axis) (x : Channel) : (s.setChan a x).ownByte = s.ownByte := rfl
@[simp] theorem setChan_inLoop (s : State) (a : Axis) (x : Channel) : (s.setChan a x).inLoop = s.inLoop := rfl
@[simp] theorem setChan_group (s : State) (a : Axis) (x : Channel) (h : Axis) : (s.setChan a x).group h = s.group h := rfl
@[simp] theorem setChan_table (s : State) (a : Axis) (x : Channel) (j : TableId) : (s.setChan a x).table j = s.table j := rfl

/-! #### setTable -/

@[simp] theorem setTable_lpu (s : State) (i : TableId) (x : Table) : (s.setTable i x).lpu = s.lpu := rfl
@[simp] theorem setTable_mgu (s : State) (i : TableId) (x : Table) : (s.setTable i x).mgu = s.mgu := rfl
@[simp] theorem setTable_items (s : State) (i : TableId) (x : Table) : (s.setTable i x).items = s.items := rfl
@[simp] theorem setTable_tables (s : State) (i : TableId) (x : Table) : (s.setTable i x).tables = s.tables.set i x := rfl
@[simp] theorem setTable_tru (s : State) (i : TableId) (x : Table) : (s.setTable i x).tru = s.tru := rfl
@[simp] theorem setTable_pos (s : State) (i : TableId) (x : Table) : (s.setTable i x).pos = s.pos := rfl
@[simp] theorem setTable_dgu (s : State) (i : TableId) (x : Table) : (s.setTable i x).dgu = s.dgu := rfl
@[simp] theorem setTable_env (s : State) (i : TableId) (x : Table) : (s.setTable i x).env = s.env := rfl
@[simp] theorem setTable_groups (s : State) (i : TableId) (x : Table) : (s.setTable i x).groups = s.groups := rfl
@[simp] theorem setTable_swu (s : State) (i : TableId) (x : Table) : (s.setTable i x).swu = s.swu := rfl
@[simp] theorem setTable_wsq (s : State) (i : TableId) (x : Table) : (s.setTable i x).wsq = s.wsq := rfl
@[simp] theorem setTable_alu (s : State) (i : TableId) (x : Table) : (s.setTable i x).alu = s.alu := rfl
@[simp] theorem setTable_dguReportsFirst (s : State) (i : TableId) (x : Table) : (s.setTable i x).dguReportsFirst = s.dguReportsFirst := rfl
@[simp] theorem setTable_pending (s : State) (i : TableId) (x : Table) : (s.setTable i x).pending = s.pending := rfl
@[simp] theorem setTable_ownByte (s : State) (i : TableId) (x : Table) : (s.setTable i x).ownByte = s.ownByte := rfl
@[simp] theorem setTable_inLoop (s : State) (i : TableId) (x : Table) : (s.setTable i x).inLoop = s.inLoop := rfl
@[simp] theorem setTable_group (s : State) (i : TableId) (x : Table) (h : Axis) : (s.setTable i x).group h = s.group h := rfl
@[simp] theorem setTable_chan (s : State) (i : TableId) (x : Table) (b : Axis) : (s.setTable i x).chan b = s.chan b := rfl

/-! #### The record a single-record update leaves -/

@[simp] theorem setGroup_same (s : State) (g : Axis) (x : Group) : (s.setGroup g x).group g = x := by cases g <;> rfl
theorem setGroup_other (s : State) {g h : Axis} (x : Group) (n : h ≠ g) : (s.setGroup g x).group h = s.group h := by
  cases g <;> cases h <;> first | rfl | exact absurd rfl n
@[simp] theorem setChan_same (s : State) (a : Axis) (x : Channel) : (s.setChan a x).chan a = x := by cases a <;> rfl
theorem setChan_other (s : State) {a b : Axis} (x : Channel) (n : b ≠ a) : (s.setChan a x).chan b = s.chan b := by
  cases a <;> cases b <;> first | rfl | exact absurd rfl n
@[simp] theorem setTable_same (s : State) (i : TableId) (x : Table) : (s.setTable i x).table i = x := by cases i <;> rfl
theorem setTable_other (s : State) {i j : TableId} (x : Table) (n : j ≠ i) : (s.setTable i x).table j = s.table j := by
  cases i <;> cases j <;> first | rfl | exact absurd rfl n

end Sys2Proof.Machine.State
end

