-- ==== Sys2Proof/Laws/Report.lean ====
section
/-! SUPPORT. What a report to the ALU can do to the rest of the device, with the sequencer's reaction to it: one lemma for each shared
operation, from stopping a group to `report` itself, which says what the operation leaves as it was. -/

namespace Sys2Proof.Machine

/-! ### One group -/

/-- What hand-offs from the ALU, the MGU and the WSQ can do to a group's record: lever, reference, note, loss count and tightline
stand, Q stands or becomes 0, and no group becomes ACTIVE or leaves CUT. -/
structure GroupReacts (a b : Group) : Prop where
  lastRef : b.lastRef = a.lastRef
  lastLever : b.lastLever = a.lastLever
  note : b.note = a.note
  loss : b.loss = a.loss
  tightline : b.tightline = a.tightline
  q : b.q = a.q ∨ b.q = 0
  active : b.state = .active → a.state = .active
  rest : a.atRest = true → b.atRest = true
  resting : b.state = .held ∨ b.state = .cut → b.state = a.state ∨ b.q = 0
  cut : a.state = .cut → b.state = .cut

theorem GroupReacts.refl (a : Group) : GroupReacts a a :=
  ⟨rfl, rfl, rfl, rfl, rfl, .inl rfl, id, id, fun _ => .inl rfl, id⟩

theorem GroupReacts.trans {a b c : Group} (h : GroupReacts a b) (k : GroupReacts b c) : GroupReacts a c := by
  refine ⟨k.lastRef.trans h.lastRef, k.lastLever.trans h.lastLever, k.note.trans h.note, k.loss.trans h.loss,
    k.tightline.trans h.tightline, ?_, fun x => h.active (k.active x), fun x => k.rest (h.rest x), fun x => ?_,
    fun x => k.cut (h.cut x)⟩
  · rcases k.q with e | e
    · rcases h.q with f | f
      · exact .inl (e.trans f)
      · exact .inr (e.trans f)
    · exact .inr e
  · rcases k.resting x with e | e
    · rcases h.resting (e ▸ x) with f | f
      · exact .inl (e.trans f)
      · rcases k.q with g | g
        · exact .inr (g.trans f)
        · exact .inr g
    · exact .inr e

theorem reacts_stop (r : Group) : GroupReacts r r.stop := by
  cases h : r.state <;> constructor <;> simp [Group.stop, Group.atRest, h]

theorem reacts_cutOff (r : Group) : GroupReacts r r.cutOff := by
  constructor <;> simp [Group.cutOff, Group.atRest]

theorem reacts_clear (r : Group) : GroupReacts r { r with neutralSeen := false } := by
  constructor <;> simp [Group.atRest]

/-! ### The whole device -/

/-- What a report leaves of the device: the LPU, items, tables, channels, DGU, ENV, the model's own field and the queue of commands
stand; the POS and SWU lose at most the heading; the MGU keeps levers, push and pending reset; the sequencer keeps its inputs and its
step count; and each group reacts as GroupReacts says. -/
structure Reacts (s t : State) : Prop where
  lpu : t.lpu = s.lpu
  items : t.items = s.items
  tables : t.tables = s.tables
  tru : t.tru = s.tru
  dgu : t.dgu = s.dgu
  env : t.env = s.env
  flag : t.dguReportsFirst = s.dguReportsFirst
  pending : t.pending = s.pending
  pos : t.pos = { s.pos with headingConfirmed := t.pos.headingConfirmed }
  heading : t.pos.headingConfirmed = true → s.pos.headingConfirmed = true
  swu : t.swu = { s.swu with heldHeading := t.swu.heldHeading }
  levers : t.mgu.lastLevers = s.mgu.lastLevers
  push : t.mgu.lastReset = s.mgu.lastReset
  reset : t.mgu.resetPending = s.mgu.resetPending
  mode : t.mgu.mode = s.mgu.mode ∨ t.mgu.mode = .halted
  heldCam : t.wsq.heldCam = s.wsq.heldCam
  heldSector : t.wsq.heldSector = s.wsq.heldSector
  heldWalk : t.wsq.heldWalk = s.wsq.heldWalk
  brake : t.wsq.brake = s.wsq.brake
  selector : t.wsq.selector = s.wsq.selector
  left : t.wsq.left = s.wsq.left
  right : t.wsq.right = s.wsq.right
  steps : t.wsq.steps = s.wsq.steps
  group : ∀ g, GroupReacts (s.group g) (t.group g)

theorem Reacts.refl (s : State) : Reacts s s := by
  constructor <;> first | rfl | exact .inl rfl | exact fun x => x | exact fun _ => .refl _

theorem Reacts.trans {a b c : State} (h : Reacts a b) (k : Reacts b c) : Reacts a c where
  lpu := k.lpu.trans h.lpu
  items := k.items.trans h.items
  tables := k.tables.trans h.tables
  tru := k.tru.trans h.tru
  dgu := k.dgu.trans h.dgu
  env := k.env.trans h.env
  flag := k.flag.trans h.flag
  pending := k.pending.trans h.pending
  pos := by rw [k.pos, h.pos]
  heading := fun x => h.heading (k.heading x)
  swu := by rw [k.swu, h.swu]
  levers := k.levers.trans h.levers
  push := k.push.trans h.push
  reset := k.reset.trans h.reset
  mode := by
    rcases k.mode with e | e
    · rcases h.mode with f | f
      · exact .inl (e.trans f)
      · exact .inr (e.trans f)
    · exact .inr e
  heldCam := k.heldCam.trans h.heldCam
  heldSector := k.heldSector.trans h.heldSector
  heldWalk := k.heldWalk.trans h.heldWalk
  brake := k.brake.trans h.brake
  selector := k.selector.trans h.selector
  left := k.left.trans h.left
  right := k.right.trans h.right
  steps := k.steps.trans h.steps
  group := fun g => (h.group g).trans (k.group g)

/-- A change of the ALU alone. -/
theorem reacts_withAlu (s : State) (a : Alu) : Reacts s (s.withAlu a) := by
  constructor <;> first | rfl | exact .inl rfl | exact fun x => x | exact fun _ => .refl _

/-- A change of the sequencer that keeps its inputs and the step count. -/
theorem reacts_withWsq (s : State) (w : Wsq) (h : w.heldCam = s.wsq.heldCam ∧ w.heldSector = s.wsq.heldSector
    ∧ w.heldWalk = s.wsq.heldWalk ∧ w.brake = s.wsq.brake ∧ w.selector = s.wsq.selector ∧ w.left = s.wsq.left
    ∧ w.right = s.wsq.right ∧ w.steps = s.wsq.steps) : Reacts s (s.withWsq w) := by
  obtain ⟨h1, h2, h3, h4, h5, h6, h7, h8⟩ := h
  constructor <;> first | assumption | rfl | exact .inl rfl | exact fun x => x | exact fun _ => .refl _

/-- A change of one group. -/
theorem reacts_setGroup (s : State) (g : Axis) (r : Group) (h : GroupReacts (s.group g) r) : Reacts s (s.setGroup g r) := by
  have k : ∀ x, GroupReacts (s.group x) ((s.setGroup g r).group x) := fun x => by
    by_cases e : x = g
    · subst e; simpa using h
    · rw [State.setGroup_other s r e]; exact .refl _
  constructor <;> first | exact k | rfl | exact .inl rfl | exact fun x => x

/-- A change of all groups at once. -/
theorem reacts_withGroups (s : State) (p : PerAxis Group) (h : ∀ g, GroupReacts (s.group g) (p.get g)) :
    Reacts s (s.withGroups p) := by
  constructor <;> first | exact h | rfl | exact .inl rfl | exact fun x => x

theorem reacts_stopGroup (s : State) (g : Axis) : Reacts s (s.stopGroup g) :=
  reacts_setGroup s g _ (reacts_stop _)

theorem reacts_stopGroups (gs : List Axis) (s : State) : Reacts s (s.stopGroups gs) := by
  induction gs generalizing s with
  | nil => exact .refl s
  | cons g gs ih => exact (reacts_stopGroup s g).trans (ih (s.stopGroup g))

/-- Stopping groups stops each of them, and only them. -/
theorem stopGroups_group (gs : List Axis) (s : State) (g : Axis) :
    (s.stopGroups gs).group g = if g ∈ gs then (s.group g).stop else s.group g := by
  induction gs generalizing s with
  | nil => simp [State.stopGroups]
  | cons x xs ih =>
    have idem : ∀ r : Group, r.stop.stop = r.stop := by intro r; cases h : r.state <;> simp [Group.stop, h]
    have step : (s.stopGroups (x :: xs)).group g = ((s.stopGroup x).stopGroups xs).group g := rfl
    rw [step, ih]
    by_cases e : g = x
    · subst e; simp [State.stopGroup, idem]
    · simp [State.stopGroup, State.setGroup_other s _ e, e]

theorem reacts_haltPart (s : State) : Reacts s (haltPart s) := by
  unfold haltPart
  split
  · exact .refl s
  · have k : ∀ g, GroupReacts (s.group g) ((s.groups.map Group.cutOff).get g) := fun g => by
      rw [PerAxis.get_map]; exact reacts_cutOff _
    constructor <;> first | exact k | rfl | exact .inr rfl | exact fun x => x

theorem reacts_handSeverities (s : State) : Reacts s (handSeverities s) := by
  refine Reacts.trans ?_ (reacts_stopGroups _ _)
  constructor <;> first | rfl | exact .inl rfl | exact fun x => x | exact fun _ => .refl _

theorem reacts_aluAct (e : Effect) (s : State) : Reacts s (aluAct e s) := by
  have h := (reacts_handSeverities s).trans (reacts_stopGroups e.stops _)
  simp only [aluAct]
  split
  · exact h.trans (reacts_haltPart _)
  · exact h

theorem reacts_aluTake (rs : List Report) (s : State) : Reacts s (aluTake rs s) :=
  (reacts_withAlu s _).trans (reacts_aluAct _ _)

/-! ### The sequencer's moves -/

theorem reacts_force (s : State) : Reacts s (force s) := reacts_stopGroups _ s

theorem reacts_clearNeutral (s : State) (g : Axis) : Reacts s (clearNeutral s g) := reacts_setGroup s g _ (reacts_clear _)

theorem reacts_enterDigging (s : State) : Reacts s (enterDigging s) := by
  refine (reacts_withWsq s { s.wsq with state := .digging, command := .drag, transfer := 0 } (by simp)).trans ?_
  exact ((reacts_clearNeutral _ .hoist).trans (reacts_clearNeutral _ .drag)).trans (reacts_clearNeutral _ .swing)

theorem reacts_enterClosingDrag (s : State) : Reacts s (enterClosingDrag s) := by
  have h := (reacts_withWsq s { s.wsq with state := .closingDrag, command := .drag } (by simp)).trans (reacts_force _)
  simp only [enterClosingDrag]
  split
  · exact h.trans (reacts_enterDigging _)
  · exact h

theorem reacts_startClosingDrag (s : State) : Reacts s (startClosingDrag s) :=
  (reacts_withWsq s { s.wsq with transfer := 0 } (by simp)).trans (reacts_enterClosingDrag _)

theorem reacts_enterOpeningWalk (s : State) : Reacts s (enterOpeningWalk s) := by
  have h := (reacts_withWsq s { s.wsq with state := .openingWalk, command := .none, transfer := 0 } (by simp)).trans
    (reacts_force _)
  simp only [enterOpeningWalk]
  split
  · exact h.trans (reacts_enterClosingDrag _)
  · exact h

theorem reacts_enterWalkReady (s : State) : Reacts s (enterWalkReady s).1 :=
  (reacts_withWsq s _ (by simp)).trans (reacts_force _)

theorem reacts_readyFromClosing (s : State) : Reacts s (readyFromClosing s).1 :=
  (reacts_enterWalkReady s).trans (reacts_clearNeutral _ .walk)

theorem reacts_enterClosingWalk (s : State) : Reacts s (enterClosingWalk s).1 := by
  have h := (reacts_withWsq s { s.wsq with state := .closingWalk, command := .walk } (by simp)).trans (reacts_force _)
  simp only [enterClosingWalk]
  split
  · exact h.trans (reacts_readyFromClosing _)
  · exact h

theorem reacts_beginReturn (s : State) : Reacts s (beginReturn s).1 := by
  have h := reacts_withWsq s { s.wsq with returnPending := false } (by simp)
  simp only [beginReturn]
  split
  · refine (h.trans ?_).trans (reacts_enterOpeningWalk _)
    constructor <;> first | rfl | exact .inl rfl | exact fun _ => .refl _ | simp
  · exact h.trans (reacts_enterOpeningWalk _)

theorem reacts_openDrag (s : State) : Reacts s (openDrag s).1 := by
  have h := reacts_withWsq s { s.wsq with command := .none } (by simp)
  simp only [openDrag]
  split
  · exact h.trans (reacts_enterClosingWalk _)
  · exact h

theorem reacts_endOffPark (s : State) : Reacts s (endOffPark s).1 := by
  have h := reacts_enterWalkReady s
  simp only [endOffPark]
  split
  · split
    · exact h.trans (reacts_withWsq _ _ (by simp))
    · exact h.trans (reacts_beginReturn _)
  · exact h

theorem reacts_reactToGroups (s : State) : Reacts s (reactToGroups s).1 := by
  unfold reactToGroups
  split
  · split
    · exact reacts_openDrag s
    · exact .refl s
  · split
    · exact reacts_endOffPark s
    · exact .refl s
  · split
    · exact reacts_endOffPark s
    · exact .refl s
  · exact .refl s

/-- What one owner's report can do to the device (R150, R162, R163, R108, R144). -/
theorem reacts_report (rs : List Report) (s : State) : Reacts s (report rs s) := by
  have h := (reacts_aluTake rs s).trans (reacts_reactToGroups _)
  simp only [report]
  split
  · exact h
  · exact h.trans (reacts_aluTake _ _)

/-- A move that reacts, with the reports it makes, reacts. -/
theorem reacts_settleMove (s : State) (m : Move) (h : Reacts s m.1) : Reacts s (settleMove m) :=
  h.trans (reacts_report m.2 m.1)

theorem reacts_reactToSummary (s : State) : Reacts s (reactToSummary s).1 := by
  unfold reactToSummary
  split
  · unfold settle
    split
    · exact reacts_withWsq s _ (by simp)
    · exact reacts_enterWalkReady s
    · exact reacts_startClosingDrag s
    all_goals exact .refl s
  · split
    · exact reacts_enterClosingWalk s
    · exact .refl s
  · split
    · exact reacts_readyFromClosing s
    · exact .refl s
  · split
    · exact reacts_enterClosingDrag s
    · exact .refl s
  · split
    · exact reacts_enterDigging s
    · exact .refl s
  all_goals exact .refl s

theorem reacts_digEdge (s : State) : Reacts s (digEdge s).1 := by
  unfold digEdge
  split
  all_goals first
    | exact .refl s
    | exact reacts_startClosingDrag s
    | exact reacts_enterOpeningWalk s
    | exact reacts_withWsq s _ (by simp)
    | (split
       · exact .refl s
       · exact reacts_beginReturn s)

theorem reacts_transferMarker (s : State) : Reacts s (transferMarker s).1 := by
  have h := reacts_withWsq s { s.wsq with transfer := 0 } (by simp)
  simp only [transferMarker]
  split
  · split
    · split
      · exact h.trans (reacts_startClosingDrag _)
      · exact h.trans (reacts_enterOpeningWalk _)
      · exact (h.trans (reacts_withWsq _ _ (by simp))).trans (reacts_force _)
    · exact reacts_withWsq s _ (by simp)
  · exact .refl s

theorem reacts_shoeMarker (s : State) : Reacts s (shoeMarker s).1 := by
  simp only [shoeMarker]
  split
  · exact reacts_withWsq s _ (by simp)
  · exact .refl s

theorem reacts_seqMarker (s : State) : Reacts s (seqMarker s) := by
  simp only [seqMarker]
  exact reacts_settleMove s _ ((reacts_transferMarker s).trans (reacts_shoeMarker _))

/-! ### An idle sequencer -/

/-- In a state the sequencer does not react to, a report is the ALU's work alone. -/
theorem reactToGroups_idle (s : State) (h : s.wsq.state ≠ .openingDrag) (k : walking s.wsq.state = false) :
    reactToGroups s = (s, []) := by
  unfold reactToGroups
  split <;> simp_all [walking]

/-- The ALU's work leaves the sequencer's record as it is. -/
theorem aluTake_wsq (rs : List Report) (s : State) : (aluTake rs s).wsq = s.wsq := by
  have stops : ∀ (gs : List Axis) (u : State), (u.stopGroups gs).wsq = u.wsq := by
    intro gs
    induction gs with
    | nil => intro u; rfl
    | cons g gs ih => intro u; exact ih (u.stopGroup g)
  have halt : ∀ u : State, (haltPart u).wsq = u.wsq := by intro u; unfold haltPart; split <;> rfl
  have hand : ∀ u : State, (handSeverities u).wsq = u.wsq := by intro u; simp [handSeverities, stops]
  have act : ∀ (e : Effect) (u : State), (aluAct e u).wsq = u.wsq := by
    intro e u
    simp only [aluAct]
    split <;> simp [halt, stops, hand]
  simp only [aluTake, act]
  rfl

theorem report_idle (rs : List Report) (s : State) (h : s.wsq.state ≠ .openingDrag) (k : walking s.wsq.state = false) :
    report rs s = aluTake rs s := by
  have e := aluTake_wsq rs s
  simp only [report]
  rw [reactToGroups_idle (aluTake rs s) (by rw [e]; exact h) (by rw [e]; exact k)]

end Sys2Proof.Machine
end

