-- ==== Sys2Proof/Laws/Reported.lean ====
section
/-! SUPPORT. What a report leaves in the alarm unit, the sequencer's reaction included: the reported conditions, the capacity of the
list, and severities that no ACTIVE group stands under. -/

namespace Sys2Proof.Machine

/-! ### The ALU's work -/

theorem stopGroups_alu (gs : List Axis) (s : State) : (s.stopGroups gs).alu = s.alu := by
  induction gs generalizing s with
  | nil => rfl
  | cons g gs ih => exact ih (s.stopGroup g)

theorem haltPart_alu (s : State) : (haltPart s).alu = s.alu := by unfold haltPart; split <;> rfl

/-- Acting on a changed ALU sets the group severities and nothing else of it. -/
theorem aluAct_alu (e : Effect) (s : State) :
    (aluAct e s).alu = { s.alu with severity := s.alu.groupSeverities s.tables.t10 } := by
  simp only [aluAct]
  split <;> simp [haltPart_alu, stopGroups_alu, handSeverities]

/-- Every condition stands after the ALU's work as its report leaves it. -/
theorem aluTake_cond (rs : List Report) (s : State) (n : Nat) : (aluTake rs s).alu.cond n = (s.alu.take s.aluCtx rs).1.cond n := by
  simp [aluTake, aluAct_alu, Alu.cond]

theorem aluTake_length (rs : List Report) (s : State) : (aluTake rs s).alu.conds.length = s.alu.conds.length := by
  have h := (take_spec s.aluCtx rs s.alu).length
  simpa [aluTake, aluAct_alu] using h

theorem aluTake_fitting (rs : List Report) (s : State) (h : s.alu.fitting) : (aluTake rs s).alu.fitting := by
  have k := (take_spec s.aluCtx rs s.alu).fitting h
  simpa [aluTake, aluAct_alu, Alu.fitting] using k

theorem aluTake_lastAck (rs : List Report) (s : State) : (aluTake rs s).alu.lastAck = s.alu.lastAck := by
  have h := (take_spec s.aluCtx rs s.alu).lastAck
  simpa [aluTake, aluAct_alu] using h

/-! ### The reaction's own reports -/

/-- The conditions the sequencer reports when it reacts to the groups: HEADING_UNCONFIRMED, WALK_DENIED and the two shoe
conditions. -/
def reactionNumbers : List Nat := [cHeadingUnconfirmed, cWalkDenied, cShoeMismatch, cShoeDisagree]

theorem force_alu (s : State) : (force s).alu = s.alu := stopGroups_alu _ s

theorem enterWalkReady_alu (s : State) : (enterWalkReady s).1.alu = s.alu := by simp [enterWalkReady, force_alu]

theorem enterDigging_alu (s : State) : (enterDigging s).alu = s.alu := rfl

theorem enterClosingDrag_alu (s : State) : (enterClosingDrag s).alu = s.alu := by
  simp only [enterClosingDrag]
  split <;> simp [enterDigging_alu, force_alu]

theorem enterOpeningWalk_alu (s : State) : (enterOpeningWalk s).alu = s.alu := by
  simp only [enterOpeningWalk]
  split <;> simp [enterClosingDrag_alu, force_alu]

theorem beginReturn_alu (s : State) : (beginReturn s).1.alu = s.alu := by
  simp only [beginReturn]
  split <;> simp [enterOpeningWalk_alu]

theorem enterClosingWalk_alu (s : State) : (enterClosingWalk s).1.alu = s.alu := by
  simp only [enterClosingWalk]
  split
  · simp [readyFromClosing, clearNeutral, enterWalkReady_alu, force_alu]
  · simp [force_alu]

theorem openDrag_alu (s : State) : (openDrag s).1.alu = s.alu := by
  simp only [openDrag]
  split
  · simp [enterClosingWalk_alu]
  · rfl

theorem endOffPark_alu (s : State) : (endOffPark s).1.alu = s.alu := by
  simp only [endOffPark]
  split
  · split
    · simp [enterWalkReady_alu]
    · simp [beginReturn_alu, enterWalkReady_alu]
  · exact enterWalkReady_alu s

theorem reactToGroups_alu (s : State) : (reactToGroups s).1.alu = s.alu := by
  unfold reactToGroups
  split
  · split
    · exact openDrag_alu s
    · rfl
  · split
    · exact endOffPark_alu s
    · rfl
  · split
    · exact endOffPark_alu s
    · rfl
  · rfl

theorem enterClosingWalk_numbers (s : State) : ∀ r ∈ (enterClosingWalk s).2, r.number ∈ reactionNumbers := by
  simp only [enterClosingWalk]
  split <;> simp [readyFromClosing, enterWalkReady, shoesFall, Report.number, reactionNumbers]

theorem reactToGroups_numbers (s : State) : ∀ r ∈ (reactToGroups s).2, r.number ∈ reactionNumbers := by
  have off : ∀ u : State, ∀ r ∈ (endOffPark u).2, r.number ∈ reactionNumbers := by
    intro u
    simp only [endOffPark]
    split
    · split
      · simp [enterWalkReady, shoesFall, Report.number, reactionNumbers]
      · simp only [beginReturn]
        split <;> simp [enterWalkReady, shoesFall, Report.number, reactionNumbers]
    · simp [enterWalkReady, shoesFall, Report.number, reactionNumbers]
  unfold reactToGroups
  split
  · split
    · simp only [openDrag]
      split
      · exact enterClosingWalk_numbers _
      · simp
    · simp
  · split
    · exact off s
    · simp
  · split
    · exact off s
    · simp
  · simp

/-! ### The whole report -/

theorem report_length (rs : List Report) (s : State) : (report rs s).alu.conds.length = s.alu.conds.length := by
  simp only [report]
  split
  · rw [reactToGroups_alu, aluTake_length]
  · rw [aluTake_length, reactToGroups_alu, aluTake_length]

theorem report_fitting (rs : List Report) (s : State) (h : s.alu.fitting) : (report rs s).alu.fitting := by
  have k := aluTake_fitting rs s h
  simp only [report]
  split
  · rw [reactToGroups_alu]; exact k
  · exact aluTake_fitting _ _ (by rw [reactToGroups_alu]; exact k)

theorem report_lastAck (rs : List Report) (s : State) : (report rs s).alu.lastAck = s.alu.lastAck := by
  simp only [report]
  split
  · rw [reactToGroups_alu, aluTake_lastAck]
  · rw [aluTake_lastAck, reactToGroups_alu, aluTake_lastAck]

/-- A condition that the reaction never reports stands as the owner's report leaves it. -/
theorem report_cond (rs : List Report) (s : State) (n : Nat) (h : n ∉ reactionNumbers) :
    ((report rs s).alu.cond n).raised = ((s.alu.take s.aluCtx rs).1.cond n).raised
      ∧ ((report rs s).alu.cond n).detail = ((s.alu.take s.aluCtx rs).1.cond n).detail
      ∧ ((report rs s).alu.cond n).forced = ((s.alu.take s.aluCtx rs).1.cond n).forced := by
  simp only [report]
  split
  · rw [reactToGroups_alu, aluTake_cond]; exact ⟨rfl, rfl, rfl⟩
  · have k := take_spec (reactToGroups (aluTake rs s)).1.aluCtx (reactToGroups (aluTake rs s)).2 (reactToGroups (aluTake rs s)).1.alu
    have o : ∀ r ∈ (reactToGroups (aluTake rs s)).2, r.number ≠ n := fun r hr e => h (e ▸ reactToGroups_numbers _ r hr)
    rw [aluTake_cond, k.raised n o, k.detail n o, k.forced n o, reactToGroups_alu, aluTake_cond]
    exact ⟨rfl, rfl, rfl⟩

/-- A condition that neither the report nor the reaction names stands as it was. -/
theorem report_other (rs : List Report) (s : State) (n : Nat) (h : n ∉ reactionNumbers) (k : ∀ r ∈ rs, r.number ≠ n) :
    ((report rs s).alu.cond n).raised = (s.alu.cond n).raised ∧ ((report rs s).alu.cond n).detail = (s.alu.cond n).detail
      ∧ ((report rs s).alu.cond n).forced = (s.alu.cond n).forced := by
  have t := take_spec s.aluCtx rs s.alu
  obtain ⟨a, b, c⟩ := report_cond rs s n h
  exact ⟨a.trans (t.raised n k), b.trans (t.detail n k), c.trans (t.forced n k)⟩

/-- A level condition that a report names once stands as it was reported (R150). -/
theorem report_level (rs : List Report) (s : State) (n : Nat) (b : Bool) (d : Option Nat) (h : n ∉ reactionNumbers)
    (hn : n < s.alu.conds.length) (hm : .level n b d ∈ rs) (hd : (rs.map Report.number).Nodup) :
    ((report rs s).alu.cond n).raised = b ∧ (b = true → ((report rs s).alu.cond n).detail = d) := by
  obtain ⟨x, y, -⟩ := report_cond rs s n h
  rw [x, y]
  exact take_level s.aluCtx rs s.alu n b d hn hm hd

/-! ### No ACTIVE group under a STOP -/

theorem stop_not_active (r : Group) : r.stop.state ≠ .active := by cases h : r.state <;> simp [Group.stop, h]

/-- After the ALU's work no group of severity STOP or TRIP is ACTIVE (R162). -/
theorem aluTake_stops (rs : List Report) (s : State) (g : Axis) (h : stops ((aluTake rs s).alu.severity.get g) = true) :
    ((aluTake rs s).group g).state ≠ .active := by
  have act : ∀ (e : Effect) (u : State), stops ((u.alu.groupSeverities u.tables.t10).get g) = true →
      ((aluAct e u).group g).state ≠ .active := by
    intro e u hs
    have hand : ((handSeverities u).group g).state ≠ .active := by
      simp only [handSeverities, stopGroups_group, List.mem_filter, Axis.mem_all, true_and]
      rw [if_pos hs]
      exact stop_not_active _
    have once : (((handSeverities u).stopGroups e.stops).group g).state ≠ .active :=
      fun x => hand ((reacts_stopGroups e.stops (handSeverities u)).group g |>.active x)
    simp only [aluAct]
    split
    · exact fun x => once ((reacts_haltPart _).group g |>.active x)
    · exact once
  simp only [aluTake, aluAct_alu] at h
  exact act _ _ h

/-- After a report no group of severity STOP or TRIP is ACTIVE (R162). -/
theorem report_stops (rs : List Report) (s : State) (g : Axis) (h : stops ((report rs s).alu.severity.get g) = true) :
    ((report rs s).group g).state ≠ .active := by
  simp only [report] at *
  split at h <;> rename_i e
  · rw [reactToGroups_alu] at h
    exact fun x => aluTake_stops rs s g h ((reacts_reactToGroups (aluTake rs s)).group g |>.active (by simpa [e] using x))
  · simpa [e] using aluTake_stops _ _ g h

end Sys2Proof.Machine
end

