-- ==== Sys2Proof/Laws/Blocks.lean ====
section
/-! SUPPORT. What the hand-offs of the POS, the DGU and the shapers' marker work leave of the device, one lemma for each shared
operation. -/

namespace Sys2Proof.Machine

/-- What a block's hand-off leaves as it was, whatever it recomputes: the LPU, items, tables, channels, the queue of commands, what the
MGU and the sequencer hold of the cab, the shoes and the brake, the load FIFO; the alarm records keep their number and the list its
capacity; and each group reacts as GroupReacts says. -/
structure HandsOff (s t : State) : Prop where
  lpu : t.lpu = s.lpu
  items : t.items = s.items
  tables : t.tables = s.tables
  tru : t.tru = s.tru
  flag : t.dguReportsFirst = s.dguReportsFirst
  pending : t.pending = s.pending
  levers : t.mgu.lastLevers = s.mgu.lastLevers
  push : t.mgu.lastReset = s.mgu.lastReset
  reset : t.mgu.resetPending = s.mgu.resetPending
  mode : t.mgu.mode = s.mgu.mode ∨ t.mgu.mode = .halted
  selector : t.wsq.selector = s.wsq.selector
  fifo : t.swu.fifo = s.swu.fifo
  length : t.alu.conds.length = s.alu.conds.length
  fitting : s.alu.fitting → t.alu.fitting
  lastAck : t.alu.lastAck = s.alu.lastAck
  group : ∀ g, GroupReacts (s.group g) (t.group g)

theorem HandsOff.refl (s : State) : HandsOff s s := by
  constructor <;> first | rfl | exact .inl rfl | exact fun x => x | exact fun _ => .refl _

theorem HandsOff.trans {a b c : State} (h : HandsOff a b) (k : HandsOff b c) : HandsOff a c where
  lpu := k.lpu.trans h.lpu
  items := k.items.trans h.items
  tables := k.tables.trans h.tables
  tru := k.tru.trans h.tru
  flag := k.flag.trans h.flag
  pending := k.pending.trans h.pending
  levers := k.levers.trans h.levers
  push := k.push.trans h.push
  reset := k.reset.trans h.reset
  mode := by
    rcases k.mode with e | e
    · rcases h.mode with f | f
      · exact .inl (e.trans f)
      · exact .inr (e.trans f)
    · exact .inr e
  selector := k.selector.trans h.selector
  fifo := k.fifo.trans h.fifo
  length := k.length.trans h.length
  fitting := fun x => k.fitting (h.fitting x)
  lastAck := k.lastAck.trans h.lastAck
  group := fun g => (h.group g).trans (k.group g)

theorem handsOff_report (rs : List Report) (s : State) : HandsOff s (report rs s) := by
  have h := reacts_report rs s
  exact ⟨h.lpu, h.items, h.tables, h.tru, h.flag, h.pending, h.levers, h.push, h.reset, h.mode, h.selector,
    by rw [h.swu], report_length rs s, report_fitting rs s, report_lastAck rs s, h.group⟩

theorem handsOff_withPos (s : State) (p : Pos) : HandsOff s (s.withPos p) := by
  constructor <;> first | rfl | exact .inl rfl | exact fun x => x | exact fun _ => .refl _

theorem handsOff_withEnv (s : State) (e : Env) : HandsOff s (s.withEnv e) := by
  constructor <;> first | rfl | exact .inl rfl | exact fun x => x | exact fun _ => .refl _

theorem handsOff_withDgu (s : State) (d : Dgu) : HandsOff s (s.withDgu d) := by
  constructor <;> first | rfl | exact .inl rfl | exact fun x => x | exact fun _ => .refl _

theorem handsOff_withSwu (s : State) (u : Swu) (h : u.fifo = s.swu.fifo) : HandsOff s (s.withSwu u) := by
  constructor <;> first | exact h | rfl | exact .inl rfl | exact fun x => x | exact fun _ => .refl _

theorem handsOff_withWsq (s : State) (w : Wsq) (h : w.selector = s.wsq.selector) : HandsOff s (s.withWsq w) := by
  constructor <;> first | exact h | rfl | exact .inl rfl | exact fun x => x | exact fun _ => .refl _

/-- A move of the sequencer that leaves the ALU and reacts hands off, with its reports. -/
theorem handsOff_settleMove (s : State) (m : Move) (h : Reacts s m.1) (k : m.1.alu = s.alu) : HandsOff s (settleMove m) := by
  have r := handsOff_report m.2 m.1
  refine HandsOff.trans ?_ r
  exact ⟨h.lpu, h.items, h.tables, h.tru, h.flag, h.pending, h.levers, h.push, h.reset, h.mode, h.selector,
    by rw [h.swu], by rw [k], fun x => by rw [k]; exact x, by rw [k], h.group⟩

/-! ### The position unit -/

theorem handsOff_updateDrum (d : Drum) (s : State) : HandsOff s (updateDrum d s) :=
  ((handsOff_withPos s _).trans (handsOff_withEnv _ _)).trans (handsOff_report _ _)

theorem handsOff_takeHr (hr : Int) (c : HrCause) (db hd : Bool) (s : State) : HandsOff s (takeHr hr c db hd s).1 :=
  handsOff_withSwu s _ rfl

theorem handsOff_updateHouse (c : HrCause) (s : State) : HandsOff s (updateHouse c s) :=
  (((handsOff_withPos s _).trans (handsOff_takeHr _ c _ _ _)).trans (handsOff_report _ _)).trans (handsOff_report _ _)

theorem reacts_holdWalk (s : State) : Reacts s (holdWalk s) := by
  unfold holdWalk
  split
  · refine reacts_setGroup s .walk _ ?_
    rename_i h
    constructor <;> simp [Group.hold, Group.atRest, h]
  · refine reacts_setGroup s .walk _ ?_
    rename_i h
    constructor <;> simp [Group.hold, Group.atRest, h]
  · exact .refl s
  · exact .refl s

theorem holdWalk_alu (s : State) : (holdWalk s).alu = s.alu := by unfold holdWalk; split <;> rfl

/-- Parking reacts (R142). -/
theorem reacts_park (s : State) : Reacts s (park s).1 := by
  have h := (reacts_holdWalk s).trans (reacts_enterWalkReady _)
  simp only [park]
  split
  · exact (h.trans (reacts_withWsq _ _ (by simp))).trans (reacts_beginReturn _)
  · exact h.trans (reacts_withWsq _ _ (by simp))

theorem park_alu (s : State) : (park s).1.alu = s.alu := by
  simp only [park]
  split
  · simp [beginReturn_alu, enterWalkReady_alu, holdWalk_alu]
  · simp [enterWalkReady_alu, holdWalk_alu]

theorem handsOff_of_reacts {s t : State} (h : Reacts s t) (k : t.alu = s.alu) : HandsOff s t :=
  ⟨h.lpu, h.items, h.tables, h.tru, h.flag, h.pending, h.levers, h.push, h.reset, h.mode, h.selector,
    by rw [h.swu], by rw [k], fun x => by rw [k]; exact x, by rw [k], h.group⟩

theorem handsOff_takeCam (c : Int) (ch : ChanState) (s : State) : HandsOff s (takeCam c ch s).1 := by
  simp only [takeCam]
  split
  · exact (handsOff_withWsq s _ (by rfl)).trans (handsOff_of_reacts (reacts_park _) (park_alu _))
  · exact handsOff_withWsq s _ (by rfl)

theorem handsOff_updateCam (s : State) : HandsOff s (updateCam s) :=
  ((handsOff_withPos s _).trans (handsOff_takeCam _ _ _)).trans (handsOff_report _ _)

/-- A recompute of a channel's position, whichever channel it is (R35). -/
theorem handsOff_updateAxis (a : Axis) (c : HrCause) (s : State) : HandsOff s (updateAxis a c s) := by
  cases a
  · exact handsOff_updateDrum .hoist s
  · exact handsOff_updateDrum .drag s
  · exact handsOff_updateHouse c s
  · exact handsOff_updateCam s

/-- A channel's hand-off to the POS (R30). -/
theorem handsOff_handOff (a : Axis) (r : Bool) (s : State) : HandsOff s (handOff a r s) :=
  (handsOff_withPos s _).trans (handsOff_updateAxis a .movement _)

/-- ZERO or a mark of HOIST, DRAG or SWING (R44, R47). -/
theorem handsOff_zeroAxis (d : Drive) (v : Int) (s : State) : HandsOff s (zeroAxis d.axis v s) := by
  cases d
  · exact (handsOff_withPos s _).trans (handsOff_updateDrum .hoist _)
  · exact (handsOff_withPos s _).trans (handsOff_updateDrum .drag _)
  · exact (handsOff_withPos s _).trans (handsOff_updateHouse .datum _)

theorem handsOff_takeMark (i : BitVec 32) (s : State) (d : Drive) : HandsOff s (takeMark i s d) := by
  simp only [takeMark]
  split
  · exact (handsOff_withPos s _).trans (handsOff_zeroAxis d _ _)
  · exact handsOff_withPos s _

theorem handsOff_takeMarks (i : BitVec 32) (s : State) : HandsOff s (takeMarks i s) :=
  ((handsOff_takeMark i s .hoist).trans (handsOff_takeMark i _ .drag)).trans (handsOff_takeMark i _ .swing)

theorem handsOff_confirmHeading (s : State) : HandsOff s (confirmHeading s) := by
  have h := (handsOff_withPos s { s.pos with headingConfirmed := true }).trans
    (handsOff_withSwu _ { s.swu with heldHeading := true } rfl)
  exact h.trans (handsOff_report [.level cHeadingUnconfirmed false none] _)

/-! #### The POS leaves the DGU alone -/

theorem report_dgu (rs : List Report) (s : State) : (report rs s).dgu = s.dgu := (reacts_report rs s).dgu

theorem updateDrum_dgu (d : Drum) (s : State) : (updateDrum d s).dgu = s.dgu := report_dgu _ _

theorem updateHouse_dgu (c : HrCause) (s : State) : (updateHouse c s).dgu = s.dgu :=
  (report_dgu _ _).trans (report_dgu _ _)

theorem updateCam_dgu (s : State) : (updateCam s).dgu = s.dgu := by
  refine (report_dgu _ _).trans ?_
  simp only [takeCam]
  split
  · exact (reacts_park _).dgu
  · rfl

theorem updateAxis_dgu (a : Axis) (c : HrCause) (s : State) : (updateAxis a c s).dgu = s.dgu := by
  cases a
  · exact updateDrum_dgu .hoist s
  · exact updateDrum_dgu .drag s
  · exact updateHouse_dgu c s
  · exact updateCam_dgu s

theorem handOff_dgu (a : Axis) (r : Bool) (s : State) : (handOff a r s).dgu = s.dgu := updateAxis_dgu a .movement _

theorem zeroAxis_dgu (a : Axis) (v : Int) (s : State) : (zeroAxis a v s).dgu = s.dgu := by
  cases a
  · exact updateDrum_dgu .hoist _
  · exact updateDrum_dgu .drag _
  · exact updateHouse_dgu .datum _
  · exact updateCam_dgu _

theorem takeMark_dgu (i : BitVec 32) (s : State) (d : Drive) : (takeMark i s d).dgu = s.dgu := by
  simp only [takeMark]
  split
  · exact zeroAxis_dgu _ _ _
  · rfl

theorem takeMarks_dgu (i : BitVec 32) (s : State) : (takeMarks i s).dgu = s.dgu := by
  simp [takeMarks, Drive.all, takeMark_dgu]

/-! ### The drive group unit -/

theorem reactToSummary_alu (s : State) : (reactToSummary s).1.alu = s.alu := by
  unfold reactToSummary
  split
  · unfold settle
    split
    · rfl
    · exact enterWalkReady_alu s
    · simp [startClosingDrag, enterClosingDrag_alu]
    all_goals rfl
  · split
    · exact enterClosingWalk_alu s
    · rfl
  · split
    · simp [readyFromClosing, clearNeutral, enterWalkReady_alu]
    · rfl
  · split
    · exact enterClosingDrag_alu s
    · rfl
  · split
    · exact enterDigging_alu s
    · rfl
  all_goals rfl

/-- A hand-off of the DGU: its values follow from its records, the hoist torque reaches the SWU, and the rest hands off (R65). -/
theorem handsOff_handDrives (extra : List Report) (s : State) : HandsOff s (handDrives extra s) := by
  have h := (handsOff_withDgu s s.dgu.recompute).trans
    (handsOff_withSwu _ { s.swu with heldTorque := s.dgu.recompute.values.hoist.torque } rfl)
  simp only [handDrives]
  split
  · exact h.trans (handsOff_report _ _)
  · exact (h.trans (handsOff_settleMove _ _ (reacts_reactToSummary _) (reactToSummary_alu _))).trans (handsOff_report _ _)

theorem handDrives_dgu (extra : List Report) (s : State) : (handDrives extra s).dgu = s.dgu.recompute := by
  simp only [handDrives, report_dgu]
  split
  · rfl
  · simp only [settleMove, report_dgu]
    exact (reacts_reactToSummary _).dgu

theorem handDrives_torque (extra : List Report) (s : State) :
    (handDrives extra s).swu.heldTorque = s.dgu.recompute.values.hoist.torque := by
  simp only [handDrives]
  rw [(reacts_report _ _).swu]
  split
  · rfl
  · rw [(reacts_settleMove _ _ (reacts_reactToSummary _)).swu]
    rfl

/-- The records stand through a recompute; only derived values follow. -/
@[simp] theorem recompute_members (d : Dgu) : d.recompute.members = d.members := rfl
@[simp] theorem recompute_image (d : Dgu) : d.recompute.image = d.image := rfl
@[simp] theorem recompute_brakes (d : Dgu) : d.recompute.brakes = d.brakes := rfl
@[simp] theorem recompute_desired (d : Dgu) : d.recompute.desired = d.desired := rfl

theorem handsOff_driveMarker (s : State) : HandsOff s (driveMarker s) :=
  (handsOff_withDgu s _).trans (handsOff_handDrives _ _)

/-! ### The shapers' marker work and the lever -/

/-- The last lever of a group in its record and in the MGU's copy; nothing else changes (R90, R108). -/
theorem setLastLever_group (g h : Axis) (v : Option Int) (s : State) :
    (setLastLever g v s).group h = if h = g then { s.group g with lastLever := v } else s.group h := by
  by_cases e : h = g
  · subst e; simp [setLastLever]
  · simp [setLastLever, State.setGroup_other s _ e, e]

/-- What a lever leaves of its group (R90). -/
theorem takeLever_group (g : Axis) (v : Int) (s : State) : (takeLever g v s).group g
    = { s.group g with lastLever := some v, neutralSeen := (s.group g).neutralSeen || v == 0 } := by
  simp only [takeLever]
  split
  · rename_i h; subst h; simp [setLastLever_group]
  · rename_i h; simp [setLastLever_group, h]

theorem takeLever_other (g h : Axis) (v : Int) (s : State) (n : h ≠ g) : (takeLever g v s).group h = s.group h := by
  simp only [takeLever]
  split
  · rw [State.setGroup_other _ _ n, setLastLever_group, if_neg n]
  · rw [setLastLever_group, if_neg n]

/-! ### When a marker reports SHOE_MISMATCH raised (R145) -/

theorem mismatchReported_zero (s : State) (h : 0 < s.items.shoeLimit) : mismatchReported 0 s = false := by
  simp [mismatchReported]; omega

theorem mismatchReported_limit (mm : Nat) (s : State) (h : s.items.shoeLimit ≤ mm) : mismatchReported mm s = true := by
  simp [mismatchReported, h]

theorem mismatchReported_raised (mm : Nat) (s : State) (hm : mm ≠ 0) (h : s.alu.raised cShoeMismatch = true) :
    mismatchReported mm s = true := by
  simp [mismatchReported, hm, h]

end Sys2Proof.Machine
end

