-- ==== Sys2Proof/Laws/Frames.lean ====
section
/-! SUPPORT. Words, bytes and frames: words survive their bytes, and the frames built here have the fields they were given and a check
that agrees. -/

namespace Sys2Proof.Machine

@[simp] theorem joinBytes_parts (w : Word) : joinBytes (highByte w) (lowByte w) = w := by
  apply BitVec.eq_of_toNat_eq
  have := w.isLt
  simp [joinBytes, highByte, lowByte]
  omega

@[simp] theorem highByte_join (h l : Byte) : highByte (joinBytes h l) = h := by
  apply BitVec.eq_of_toNat_eq
  have := h.isLt
  have := l.isLt
  simp [joinBytes, highByte]
  omega

@[simp] theorem lowByte_join (h l : Byte) : lowByte (joinBytes h l) = l := by
  apply BitVec.eq_of_toNat_eq
  have := h.isLt
  have := l.isLt
  simp [joinBytes, lowByte]
  omega

@[simp] theorem wordsToBytes_length (ws : List Word) : (wordsToBytes ws).length = 2 * ws.length := by
  induction ws with
  | nil => rfl
  | cons w ws ih => simp only [wordsToBytes, List.length_cons, ih]; omega

/-- The words of a run of bytes that begins with the bytes of words begin with those words. -/
theorem bytesToWords_append (ws : List Word) (bs : Bytes) : bytesToWords (wordsToBytes ws ++ bs) = ws ++ bytesToWords bs := by
  induction ws with
  | nil => rfl
  | cons w ws ih => simp [wordsToBytes, bytesToWords, ih]

@[simp] theorem bytesToWords_wordsToBytes (ws : List Word) : bytesToWords (wordsToBytes ws) = ws := by
  simpa [bytesToWords] using bytesToWords_append ws []

theorem drop_wordsToBytes (ws : List Word) (bs : Bytes) : (wordsToBytes ws ++ bs).drop (2 * ws.length) = bs := by
  rw [← wordsToBytes_length ws, List.drop_left]

@[simp] theorem frame_kind (k d s : Byte) (p : Bytes) : frameKind (frame k d s p) = k := rfl
@[simp] theorem frame_dest (k d s : Byte) (p : Bytes) : frameDest (frame k d s p) = d := rfl
@[simp] theorem frame_src (k d s : Byte) (p : Bytes) : frameSrc (frame k d s p) = s := rfl
@[simp] theorem frame_length (k d s : Byte) (p : Bytes) : (frame k d s p).length = p.length + 6 := by simp [frame]

theorem frame_len (k d s : Byte) (p : Bytes) (h : p.length ≤ 48) : frameLen (frame k d s p) = p.length := by
  simp [frameLen, frame]
  omega

@[simp] theorem frame_payload (k d s : Byte) (p : Bytes) : framePayload (frame k d s p) = p := by
  simp [framePayload, frame]

theorem frame_checkAgrees (k d s : Byte) (p : Bytes) : checkAgrees (frame k d s p) = true := by
  have e : frame k d s p = (k :: d :: s :: BitVec.ofNat 8 p.length :: p)
      ++ [highByte (crc (k :: d :: s :: BitVec.ofNat 8 p.length :: p)), lowByte (crc (k :: d :: s :: BitVec.ofNat 8 p.length :: p))] := rfl
  generalize hb : (k :: d :: s :: BitVec.ofNat 8 p.length :: p) = body at e
  rw [e]
  simp [checkAgrees, List.getD]

theorem frame_lengthAgrees (k d s : Byte) (p : Bytes) (h : p.length ≤ 48) : lengthAgrees (frame k d s p) = true := by
  simp [lengthAgrees, frame_len k d s p h, Config.maxPayload, h]

/-- A frame built with a payload of at most 48 bytes is bad only if it is short for its kind. -/
theorem frame_badReason (k d s : Byte) (p : Bytes) (h : p.length ≤ 48) :
    badReason (frame k d s p) = if shortFrame (frame k d s p) then some 2 else none := by
  simp [badReason, frame_checkAgrees, frame_lengthAgrees k d s p h]

end Sys2Proof.Machine
end

