-- ==== Sys2Proof/Laws/Queue.lean ====
section
/-! SUPPORT. The transmit queue and the arrival of frames: what an offer does, and what a delivered frame or a served request comes
to in the loop and in bypass. -/

namespace Sys2Proof.Machine

/-- An offered forwarded frame changes only the LPU: it stands last, or is discarded and counted (R173, R174). -/
theorem offerForwarded_spec (bs : Bytes) (s : State) :
    (s.lpu.queue.length < 8 ∧ offerForwarded bs s = s.withLpu { s.lpu with queue := s.lpu.queue ++ [bs] })
      ∨ (8 ≤ s.lpu.queue.length ∧ offerForwarded bs s = s.withLpu (discardOne s.lpu)) := by
  unfold offerForwarded
  split
  · exact .inl ⟨‹_›, rfl⟩
  · exact .inr ⟨Nat.le_of_not_lt ‹_›, rfl⟩

/-- An offered inserted frame changes only the LPU: it stands last if 6 frames or fewer were queued, else it is dropped and
counted (R173, R174). -/
theorem offerInserted_spec (bs : Bytes) (s : State) :
    (s.lpu.queue.length ≤ 6 ∧ offerInserted bs s = s.withLpu { s.lpu with queue := s.lpu.queue ++ [bs] })
      ∨ (7 ≤ s.lpu.queue.length ∧ offerInserted bs s = s.withLpu (discardOne s.lpu)) := by
  by_cases h : s.lpu.queue.length < 7
  · exact .inl ⟨Nat.lt_succ_iff.1 h, by simp [offerInserted, insertedEnters, Config.insertedThreshold, h]⟩
  · exact .inr ⟨Nat.le_of_not_lt h, by simp [offerInserted, insertedEnters, Config.insertedThreshold, h]⟩

/-- The queue an offered forwarded frame leaves. -/
theorem offerForwarded_queue (bs : Bytes) (s : State) : (offerForwarded bs s).lpu.queue
    = if s.lpu.queue.length < 8 then s.lpu.queue ++ [bs] else s.lpu.queue := by
  rcases offerForwarded_spec bs s with ⟨h, e⟩ | ⟨h, e⟩ <;> rw [e]
  · simp [h]
  · simp [Nat.not_lt.2 h, discardOne]

/-- The queue an offered inserted frame leaves. -/
theorem offerInserted_queue (bs : Bytes) (s : State) : (offerInserted bs s).lpu.queue
    = if s.lpu.queue.length ≤ 6 then s.lpu.queue ++ [bs] else s.lpu.queue := by
  rcases offerInserted_spec bs s with ⟨h, e⟩ | ⟨h, e⟩ <;> rw [e]
  · simp [h]
  · simp [show ¬ s.lpu.queue.length ≤ 6 by omega, discardOne]

/-- An offer touches nothing but the LPU. -/
theorem offerForwarded_lpu (bs : Bytes) (s : State) : offerForwarded bs s = s.withLpu (offerForwarded bs s).lpu := by
  rcases offerForwarded_spec bs s with ⟨-, e⟩ | ⟨-, e⟩ <;> rw [e] <;> rfl

theorem offerInserted_lpu (bs : Bytes) (s : State) : offerInserted bs s = s.withLpu (offerInserted bs s).lpu := by
  rcases offerInserted_spec bs s with ⟨-, e⟩ | ⟨-, e⟩ <;> rw [e] <;> rfl

/-- An offer keeps the queue within its capacity. -/
theorem offerForwarded_capacity (bs : Bytes) (s : State) (h : s.lpu.queue.length ≤ 8) :
    (offerForwarded bs s).lpu.queue.length ≤ 8 := by
  rw [offerForwarded_queue]
  split
  · rw [List.length_append, List.length_singleton]; omega
  · exact h

theorem offerInserted_capacity (bs : Bytes) (s : State) (h : s.lpu.queue.length ≤ 8) :
    (offerInserted bs s).lpu.queue.length ≤ 8 := by
  rw [offerInserted_queue]
  split
  · rw [List.length_append, List.length_singleton]; omega
  · exact h

/-- A good frame's arrival touches only the timer and the traffic-seen flag (R169, R175). -/
theorem goodFrameSeen_eq (s : State) : goodFrameSeen s
    = s.withLpu { s.lpu with timer := .running, timerLength := s.items.silenceTime, trafficSeen := true } := rfl

@[simp] theorem goodFrameSeen_queue (s : State) : (goodFrameSeen s).lpu.queue = s.lpu.queue := rfl
@[simp] theorem goodFrameSeen_ownByte (s : State) : (goodFrameSeen s).ownByte = s.ownByte := rfl
@[simp] theorem goodFrameSeen_inLoop (s : State) : (goodFrameSeen s).inLoop = s.inLoop := rfl

theorem inLoop_eq (s : State) : s.inLoop = true ↔ s.lpu.bypass = .off := by simp [State.inLoop]

/-- In the loop a frame that fits is taken by its body. -/
theorem arrival_in (l : Link) (size : Nat) (body : State → State) (s : State) (h : s.lpu.bypass = .off) (f : fits l size = true) :
    arrival l size body s = body (goodFrameSeen s) := by
  simp [arrival, (inLoop_eq s).2 h, f]

/-- In bypass no frame is taken. -/
theorem arrival_bypass (l : Link) (size : Nat) (body : State → State) (s : State) (h : s.lpu.bypass ≠ .off) :
    arrival l size body s = s := by
  have : s.inLoop = false := by simpa [State.inLoop] using h
  simp [arrival, this]

/-- In the loop a request is served and answered. -/
theorem serve_in (r : Req) (code : Nat) (body : State → Reply) (s : State) (h : s.lpu.bypass = .off) :
    serve r code body s = .next (respond r code (body (goodFrameSeen s))) := by
  simp [serve, (inLoop_eq s).2 h]

/-- In bypass a request is neither served nor answered (R190). -/
theorem serve_bypass (r : Req) (code : Nat) (body : State → Reply) (s : State) (h : s.lpu.bypass ≠ .off) :
    serve r code body s = .next s := by
  have : s.inLoop = false := by simpa [State.inLoop] using h
  simp [serve, this]

/-- A response changes only the LPU of the state its serving left. -/
theorem respond_lpu (r : Req) (code : Nat) (p : Reply) : respond r code p = p.state.withLpu (respond r code p).lpu :=
  offerInserted_lpu _ _

/-- The queue after a response of at most 20 values. -/
theorem respond_queue (r : Req) (code : Nat) (p : Reply) (h : p.values.length ≤ 20) : (respond r code p).lpu.queue
    = if p.state.lpu.queue.length ≤ 6 then
        p.state.lpu.queue ++ [frame kindResponse r.src p.state.ownByte
          (wordsToBytes (packBytes code p.status.code :: r.tag :: natWord p.values.length :: p.values))]
      else p.state.lpu.queue := by
  have t : p.values.take 20 = p.values := List.take_of_length_le h
  simp [respond, offerInserted_queue, responseFrame, responseWords, responseValues, t]

/-! ### What a frame or a response carries does not depend on the queue or the timer -/

theorem stateWords_queue (s : State) (q : List Bytes) :
    stateWords (s.withLpu { s.lpu with queue := q }) = stateWords s := rfl

@[simp] theorem itemWords_goodFrameSeen (n index : Nat) (s : State) :
    itemWords n index (goodFrameSeen s) = itemWords n index s := rfl

@[simp] theorem entryWords_goodFrameSeen (s : State) (e : Entry) : entryWords (goodFrameSeen s) e = entryWords s e := rfl

@[simp] theorem checks_goodFrameSeen (i : TableId) (s : State) : checks i (goodFrameSeen s) = checks i s := rfl

end Sys2Proof.Machine
end

