-- ==== Sys2Proof/Laws/Shaping.lean ====
section
/-! SUPPORT. What the shapers' steps can do to a group's record and to the reference a frame carries (chapter 5). -/

namespace Sys2Proof.Machine

/-- A STOPPING group's frame takes it to HELD, or leaves it with a Q other than 0 (R94). -/
theorem stopFrame_cases (g : Axis) (s : State) :
    (stoppingQ g s = 0 ∧ stopFrame g s = (s.group g).hold)
      ∨ (stoppingQ g s ≠ 0 ∧ stopFrame g s = { s.group g with q := stoppingQ g s }) := by
  unfold stopFrame
  by_cases h : stoppingQ g s = 0
  · exact .inl ⟨h, if_pos h⟩
  · exact .inr ⟨h, if_neg h⟩

/-- In STANDBY and HALTED the next frame of a STOPPING group takes it to HELD (R94). -/
theorem stopFrame_outside_run (g : Axis) (s : State) (h : s.mgu.mode ≠ .run) : stopFrame g s = (s.group g).hold := by
  simp [stopFrame, stoppingQ, h]

/-- A DRAG record that is not STOPPING takes nothing of a frame with the walk reference but its lever (R107). -/
theorem walkFrame_rest (s : State) (h : (s.group .drag).state ≠ .stopping) : walkFrame s = s.group .drag := by
  unfold walkFrame
  split
  · exact absurd ‹_› h
  all_goals rfl

/-- A reference is enabled in RUN alone, for a group that follows or stops (R106). -/
theorem frameReference_enable (g : Axis) (r : Group) (s : State) :
    (frameReference g r s).enable = true ↔ s.mgu.mode = .run ∧ r.moving = true := by
  unfold frameReference
  split <;> simp_all [liveReference, Reference.disabled]

/-- A reference that is not enabled carries speed 0 and limits 0 (R106). -/
theorem frameReference_disabled (g : Axis) (r : Group) (s : State) (h : (frameReference g r s).enable = false) :
    frameReference g r s = .disabled (formOf g s) := by
  unfold frameReference at h ⊢
  split at h
  · simp [liveReference] at h
  · rw [if_neg ‹_›]

/-- The walk reference is enabled in RUN while WALK is ACTIVE or STOPPING (R141). -/
theorem walkReference_enable (s : State) :
    (walkReference s).enable = true ↔ s.mgu.mode = .run ∧ (s.group .walk).moving = true := by
  unfold walkReference
  split <;> simp_all [Reference.disabled]

/-- The rest of the pipeline leaves the record of the frame's end with the reference written, and that reference (R88, R105). -/
theorem shapeRest_group (g : Axis) (v : Int) (s : State) :
    (shapeRest g v s).state.group g
      = { endFrame g v (recordCaps g s) with lastRef := (shapeRest g v s).ref } := by
  cases g <;> rfl

end Sys2Proof.Machine
end

