-- ==== Sys2Proof/Tests/Slice0.lean ====
section
/-! SUPPORT. Tests: refused terms for each check of well-formedness, the manual's worked cases, and for every statement with
hypotheses a state and operands that meet them. -/

set_option Elab.async false

namespace Sys2Proof.Tests

open Machine

/-! ### Small states -/

/-- In the loop at address 5, in STANDBY, as a reset left it. -/
def sIn : State := State.reset.withLpu { Lpu.reset .off with ownAddress := 5, timer := .running }

def liveTable (t : Table) : Table := { t with state := .live }

/-- Every table LIVE, its words 0 but for those a test sets. -/
def liveTables : Tables :=
  { t0 := liveTable Tables.reset.t0, t1 := liveTable Tables.reset.t1, t2 := liveTable Tables.reset.t2,
    t3 := liveTable Tables.reset.t3, t4 := liveTable Tables.reset.t4, t5 := liveTable Tables.reset.t5,
    t6 := Tables.reset.t6, t7 := Tables.reset.t7, t8 := liveTable Tables.reset.t8, t9 := liveTable Tables.reset.t9,
    t10 := Tables.reset.t10 }

/-- In RUN and DIGGING with HOIST ACTIVE at 100, and no condition raised. -/
def sRun : State :=
  { sIn with
    mgu := { Mgu.reset with mode := .run }
    tables := liveTables
    alu := Alu.reset
    wsq := { Wsq.reset 0 none with state := .digging, command := .drag }
    groups := (PerAxis.all Group.reset).set .hoist { Group.reset with state := .active, q := 100, neutralSeen := true } }

/-- In STANDBY with every check of START passed. -/
def sReady : State :=
  { sRun with
    mgu := Mgu.reset
    groups := .all .reset
    tru := .all { Channel.reset (.reset 20) with state := .tracking }
    dgu := { Dgu.reset with values := .all { GroupValues.reset with form := .full }, image := { Image.reset with state := .fresh } } }

/-- Stepping, with the WALK group ACTIVE. -/
def sStep : State :=
  { sRun with
    wsq := { Wsq.reset 0 none with state := .stepping, command := .walk, dir := some .forward, left := .seated, right := .lifted }
    groups := (PerAxis.all Group.reset).set .walk { Group.reset with state := .active, q := 100 } }

/-- In RUN and DIGGING with the selector at DIG and every check of a walk request passed. -/
def sWalk : State :=
  { sRun with
    tables := { liveTables with t1 := { liveTables.t1 with words := liveTables.t1.words.set 13 1 } }
    env := { Env.reset with selected := some 0 }
    dgu := { Dgu.reset with members := ⟨[], [{ Member.begin 12 with presence := .ready }], []⟩, summary := .drag }
    groups := .all { Group.reset with lastLever := some 0 }
    wsq := { sRun.wsq with selector := some .dig, brake := true } }

/-- The list full with conditions 0 to 31 in GONE_NEW, and EXTERNAL_1 (54) raised and UNLISTED. -/
def sFull : State :=
  sIn.withAlu { Alu.reset with
    conds := List.replicate 32 { Cond.reset with listing := .goneNew } ++ List.replicate 22 .reset
      ++ [⟨true, none, .unlisted, false⟩] ++ List.replicate 5 .reset
    list := (List.range 32).map (fun n => ⟨n, 1, n, 0⟩), seq := 32, severity := .all (some .warn) }

/-- Stepping with both shoe counts one below SHOE_LIMIT and shoes that match neither each other nor the sector. -/
def sShoes : State :=
  { sStep with
    tables := { liveTables with t8 := { liveTables.t8 with words := [2, 0, 400, 1, 1, 180, 400, 0, 0] ++ List.replicate 40 0#16 } }
    wsq := { sStep.wsq with heldSector := some 0, mismatch := 9, disagree := 9 } }

/-- SHOE_MISMATCH raised with detail 3, and SHOE_LIMIT written above the count. -/
def sShoesRaised : State :=
  { sShoes with
    items := { Items.reset with shoeLimit := 200 }
    alu := Alu.reset.setCond cShoeMismatch ⟨true, some 3, .activeNew, false⟩ }

/-- HALTED with every group CUT. -/
def sHalt : State :=
  { sRun with mgu := { Mgu.reset with mode := .halted }, groups := .all { Group.reset with state := .cut } }

/-- One converter, address 10, in the HOIST group. -/
def sMember : State := { sIn with dgu := { Dgu.reset with members := ⟨[.begin 10], [], []⟩ } }

def withQueue (n : Nat) (s : State) : State := s.withLpu { s.lpu with queue := List.replicate n [0] }

def lk (src : Byte) : Link := ⟨broadcast, src, []⟩
def req : Req := ⟨3, 77⟩

/-- What a command leaves. -/
def after (r : Host.Outcome State Fault Refusal) : State :=
  match r with
  | .next t => t
  | _ => .reset

/-- The words of the last frame queued. -/
def answer (t : State) : List Word := bytesToWords (framePayload (t.lpu.queue.getLastD []))

/-! ### Well-formedness: one term refused by each check -/

theorem test_wf_destination : (Instr.cycle ⟨40, 1, []⟩ 7).wellFormed 5 = false := by decide
theorem test_wf_source : (Instr.cab ⟨63, 63, []⟩ 0 0).wellFormed 5 = false := by decide
theorem test_wf_surplus : (Instr.command ⟨63, 1, List.replicate 45 0⟩ 0 0).wellFormed 5 = false := by decide
theorem test_wf_requester : (Instr.start ⟨32, 0⟩).wellFormed 5 = false := by decide
theorem test_wf_values : (Instr.zero req 0 (List.replicate 21 0)).wellFormed 5 = false := by decide
theorem test_wf_forwarded : (Instr.forwardedFrame (received kindCab (lk 1) [0, 0])).wellFormed 5 = false := by decide +kernel
theorem test_wf_own : (Instr.ownFrameRemoval (received kindState (lk 6) [])).wellFormed 5 = false := by decide +kernel
theorem test_wf_bad : (Instr.badFrame (received kindCycle (lk 1) [7])).wellFormed 5 = false := by decide +kernel
theorem test_wf_read : (Instr.read req 6 0 1).wellFormed 5 = false := by decide +kernel
theorem test_wf_discard : (Instr.discardCountRead req 7 0 1).wellFormed 5 = false := by decide +kernel
theorem test_wf_write : (Instr.write req 46 0 [0]).wellFormed 5 = false := by decide
theorem test_wf_code : (Instr.unknownCode req 5).wellFormed 5 = false := by decide
theorem test_wf_accepts : (Instr.unknownCode req 16).wellFormed 5 = true := by decide

/-! ### The manual's worked cases -/

/-- Chapter 1.4: the completion of a learning. -/
theorem test_learning_completes :
    (completeLearning ⟨.swing, .reset 22, 1000⟩ none
      ⟨{ Channel.reset (.reset 22) with learn := .gathering, acc := some ⟨1900, -1860, 1750, -1790⟩ }, []⟩).chan.used
      = ⟨20, -20, 1087⟩ := by decide +kernel

theorem test_correction : correct ⟨20, -20, 1087⟩ ⟨600, -400⟩ = ⟨580, -403⟩ := by decide

/-- Chapter 1.5: measured angles. -/
theorem test_angle_near_revolution : measuredAngle 2000 (-1) = 65531 := by decide +kernel
theorem test_angle_second_quadrant : measuredAngle (-1000) 1000 = 24576 := by decide +kernel

/-- Chapter 1.6: case 3, a forward wrap. -/
theorem test_loop_forward_wrap :
    (let it := ChannelItems.reset 20
     let c := { Channel.reset it with phase := 65500, speed := 40, gain := 3 }
     carryPhase ⟨.hoist, it, 1000⟩ (rawSum it (loopError 64 65500) c) c)
      = { Channel.reset (.reset 20) with phase := 10, speed := 40, gain := 3, turns := 1 } := by decide +kernel

/-- Chapter 1.6: case 4, a clamped speed. -/
theorem test_loop_speed_clamped :
    (let it := ChannelItems.reset 20
     let c := { Channel.reset it with phase := 200, speed := -4090, gain := 6 }
     (speedNext it (loopError 63736 200) c, rawSum it (loopError 63736 200) c)) = (-4096, -4896) := by decide +kernel

/-- Chapter 2.7: payout, house and cam arithmetic. -/
theorem test_payout_floor :
    payoutTerm { Pos.reset 0 0 with handed := .all ⟨.tracking, 100, -3⟩ } { Items.reset with ropeK := ⟨3000, 3000⟩ } .hoist = -90 := by
  decide +kernel
theorem test_payout_exact :
    payoutTerm { Pos.reset 0 0 with handed := .all ⟨.tracking, 32768, 250⟩ } { Items.reset with ropeK := ⟨3000, 3000⟩ } .drag
      = 7515 := by decide +kernel
theorem test_house_term : houseTerm { Pos.reset 0 0 with handed := .all ⟨.tracking, 0, 250⟩ } Items.reset = 9000 := by
  decide +kernel
theorem test_cam_term : camTerm { Pos.reset 0 0 with handed := .all ⟨.tracking, 65535, 0⟩ } = 359 := by decide +kernel

/-- Chapter 4.5: band hysteresis, breakpoints 1500, 3000, 4500 and 50 cm. -/
def bandTable : Table := { liveTable Tables.reset.t0 with words := [3, 1500, 3000, 4500] ++ List.replicate 285 0#16 }
theorem test_band_holds : nextBand bandTable .hoist 50 2980 2 = 2 := by decide +kernel
theorem test_band_two_down : nextBand bandTable .hoist 50 1480 3 = 1 := by decide +kernel

/-- Chapter 5.4: the curve (300, 100), (700, 500), (1000, 1000). -/
def curve3 : Table := { liveTable Tables.reset.t2 with words := [3, 300, 100, 700, 500, 1000, 1000] ++ List.replicate 10 0#16 }
theorem test_curve_truncates : curveTarget curve3 200 = 66 := by decide +kernel
theorem test_curve_negative : curveTarget curve3 (-850) = -750 := by decide +kernel
theorem test_lever_clamped : leverOf 30 (wordOf 1250) = 1000 := by decide +kernel
theorem test_lever_neutral : leverOf 30 (wordOf (-20)) = 0 := by decide +kernel

/-- Chapter 5.7: pullback 287 under PLAIN, and none under FULL. -/
theorem test_pullback_plain : pullback 500 825 ⟨.plain, 3, 4, 1400, 0, false⟩ 600 = 313 := by decide +kernel
theorem test_pullback_full : pullback 500 1200 ⟨.full, 4, 4, 1400, 0, false⟩ 600 = 600 := by decide +kernel

/-- Chapter 6.3: window caps. -/
def window0 : Window := ⟨.forbidden, 9000, 12000, 200, 1500, 100, 0⟩
theorem test_window_taper : windowCaps window0 800 8150 = (some 450, none) := by decide +kernel
theorem test_window_middle : windowCaps window0 800 10500 = (some 100, some 0) := by decide +kernel
theorem test_window_end : windowCaps window0 800 12000 = (none, some 0) := by decide +kernel
theorem test_window_wraps : windowCaps ⟨.slow, 34000, 2000, 0, 0, 0, 300⟩ 800 500 = (some 300, some 300) := by decide +kernel

/-- Chapter 9.1: the check value, and the bytes of a frame classified. -/
theorem test_check_value : crc [0x31, 0x32, 0x33, 0x34, 0x35, 0x36, 0x37, 0x38, 0x39] = 0x29B1#16 := by decide +kernel
theorem test_classify_cycle : classify 5 (received kindCycle (lk 1) [7]) = .cycle (lk 1) 7 := by decide +kernel
theorem test_classify_short : classify 5 (received kindCab (lk 1) [7]) = .badFrame (received kindCab (lk 1) [7]) := by
  decide +kernel
theorem test_classify_start : classify 5 (requestBytes 5 req 8 0 0 0 []) = .start req := by decide +kernel

/-! ### One command at a time -/

/-- The owners' reports of a power-on are those the reset state holds. -/
theorem test_power_on : freshPart State.reset = State.reset := by decide +kernel
theorem test_reset_complete : (after (exec (.resetComplete 5) State.reset)).lpu.bypass = .off := by decide +kernel
theorem test_reset_strapped : (after (exec (.resetComplete 31) State.reset)).lpu.bypass = .strapped := by decide +kernel
theorem test_cycle_state_behind : ((after (exec (.cycle (lk 1) 7) sIn)).lpu.queue.map frameKind) = [kindCycle, kindState] := by
  decide +kernel
theorem test_cycle_full_queue : (after (exec (.cycle (lk 1) 7) (withQueue 8 sIn))).lpu.discard = 2 := by decide +kernel
theorem test_estop_halts : (after (exec (.discrete (lk 24) 0xFE0 0x2) sRun)).mgu.mode = .halted := by decide +kernel
theorem test_estop_cuts : ((after (exec (.discrete (lk 24) 0xFE0 0x2) sRun)).group .hoist).state = .cut := by decide +kernel
theorem test_command_capped : ((after (exec (.command (lk 0) 0 500) sRun)).group .hoist).q = 0 := by decide +kernel
theorem test_command_reference : (after (exec (.command (lk 0) 3 0) sIn)).lpu.queue.map frameKind = [kindReference] := by
  decide +kernel
theorem test_sample_acquires : ((after (exec (.sample (lk 20) ⟨0, 9, 1000, 1000, 1⟩) sIn)).chan .hoist).phase = 8192 := by
  decide +kernel
theorem test_sample_clips : ((after (exec (.sample (lk 20) ⟨0, 9, 2047, 0, 1⟩) sIn)).chan .hoist).cause = some .clip := by
  decide +kernel
theorem test_drive_faulted :
    ((after (exec (.driveStatus (lk 10) ⟨1, 5, 0, 0, 7, 1⟩) sMember)).dgu.members.hoist.map Member.presence) = [.faulted] := by
  decide +kernel
theorem test_bad_frame_listed : ((after (exec (.badFrame [1, 2]) sIn)).alu.cond cBadFrame).listing = .goneNew := by
  decide +kernel
theorem test_silence_halts : (after (exec .loopSilent sRun)).mgu.mode = .halted := by decide +kernel
/-- R179: RUN is 1. R75 and R63 list CELL, DOUBTFUL, NONE and CONFLICT, INCOMPLETE first. -/
theorem test_read_codes :
    answer (after (exec (.read req 4 0 1) sRun)) = [0x0100, 77, 1, 1]
      ∧ answer (after (exec (.read req 77 0 1) sIn)) = [0x0100, 77, 1, 2]
      ∧ answer (after (exec (.read req 69 0 1) sIn)) = [0x0100, 77, 1, 1] := by decide +kernel
theorem test_read_no_item : answer (after (exec (.read req 9 0 1) sRun)) = [0x0103, 77, 0] := by decide +kernel
theorem test_write_clamped : answer (after (exec (.write req 86 0 [1001]) sRun)) = [0x0201, 77, 0] := by decide +kernel
theorem test_write_setup_in_run : answer (after (exec (.write req 80 0 [5]) sRun)) = [0x0202, 77, 0] := by decide +kernel
theorem test_open_edits : ((after (exec (.openTable req 1) sReady)).table .t0).state = .edit := by decide +kernel
theorem test_load_not_open : answer (after (exec (.loadTable req 2 0 0 [1, 5]) sReady)) = [0x0405, 77, 0] := by decide +kernel
theorem test_close_first_word : answer (after (exec (.closeTable req 0) (after (exec (.openTable req 0) sIn)))) = [0x0507, 77, 1, 0] := by
  decide +kernel
theorem test_start_ready : (after (exec (.start req) sReady)).mgu.mode = .run := by decide +kernel
theorem test_start_not_ready : answer (after (exec (.start req) sIn)) = [0x0808, 77, 2, 1, 0] := by decide +kernel
theorem test_stop : ((after (exec (.stop req) sRun)).group .hoist).state = .stopping := by decide +kernel
theorem test_zero_not_ready : answer (after (exec (.zero req 0 [500]) sIn)) = [0x0B08, 77, 0] := by decide +kernel
theorem test_force_lists : ((after (exec (.force req 43) sIn)).alu.cond 43) = ⟨false, none, .goneNew, true⟩ := by decide +kernel
theorem test_ack_seen : ((after (exec (.ack req 13) sIn)).alu.cond 13).listing = .activeSeen := by decide +kernel
theorem test_read_alarms : (answer (after (exec (.readAlarms req 9 4) sIn))).length = 8 := by decide +kernel
/-- R157: the removal of an entry relists the UNLISTED condition at the end. -/
theorem test_ack_relists :
    (after (exec (.ack req 0) sFull)).alu.list.getLast? = some ⟨54, 1, 32, 0⟩
      ∧ (after (exec (.ack req 0) sFull)).alu.list.length = 32 := by decide +kernel
/-- R135: with every check passed DRAG is opened; R138: a DIG edge turns the transfer back. -/
theorem test_walk_request : (after (exec (.cab (lk 1) 1 0) sWalk)).wsq.state = .openingDrag := by decide +kernel
theorem test_dig_edge :
    (after (exec (.cab (lk 1) 0 0) (sWalk.withWsq { sWalk.wsq with state := .openingDrag, selector := some .walk }))).wsq.state
      = .digging := by decide +kernel
/-- R145: "The detail is updated at each marker while the condition stays raised". -/
theorem test_shoe_detail :
    ((after (exec (.cycle (lk 1) 7) sShoesRaised)).alu.cond cShoeMismatch).detail = some 0 := by decide +kernel
/-- R192: word 4 of the fixed part, and page 0 for a cycle number divisible by 7. -/
theorem test_state_words :
    (answer (after (exec (.cycle (lk 1) 7) sIn))).getD 4 0 = 0x0A0A#16
      ∧ ((answer (after (exec (.cycle (lk 1) 7) sIn))).getD 13 0).toNat % 256 = 0 := by decide +kernel
theorem test_unknown_code : answer (after (exec (.unknownCode req 16) sIn)) = [0x1007, 77, 0] := by decide +kernel
theorem test_gain_mode : ((after (exec (.gainMode req 2 [1]) sIn)).chan .swing).gain = 2 := by decide +kernel
theorem test_speed_limit : ((after (exec (.speedLimit req 2 [0]) sIn)).items.channels.swing).speedLimit = 16 := by decide +kernel
theorem test_swing_gear_doubt : (after (exec (.swingGear req [500]) sIn)).pos.doubtful.swing = true := by decide +kernel
theorem test_pit_heading : (after (exec (.pitHeading req [35000]) sIn)).pos.relative = 1000 := by decide +kernel

/-! ### Witnesses: the hypotheses of each statement met together -/

/-- A step of the running state that goes on. -/
def sQueued : State := sRun.withPending [.stop req]

theorem witness_StepRunsFrontCommand : sQueued.pending = .stop req :: [] ∧ sRun.pending = [] := by decide +kernel

theorem sQueued_steps : step sQueued = .next (after (step sQueued)) := rfl

theorem witness_StepKeepsQueueCapacity : QueueOk sQueued ∧ step sQueued = .next (after (step sQueued)) :=
  ⟨by unfold QueueOk; decide +kernel, sQueued_steps⟩
theorem witness_StepKeepsAlarmCapacity : AlarmsOk sQueued ∧ step sQueued = .next (after (step sQueued)) :=
  ⟨by unfold AlarmsOk; decide +kernel, sQueued_steps⟩
theorem ListingOk_sFull : ListingOk sFull := by unfold ListingOk; decide +kernel
theorem witness_StepKeepsAlarmCapacity_listing :
    AlarmsOk (sFull.withPending [.ack req 0]) ∧ ListingOk (sFull.withPending [.ack req 0])
      ∧ Continues (sFull.withPending [.ack req 0]) :=
  ⟨by unfold AlarmsOk; decide +kernel, ListingOk_sFull, ⟨_, rfl⟩⟩
theorem witness_StepKeepsGroupStates : GroupsOk sQueued ∧ step sQueued = .next (after (step sQueued)) :=
  ⟨⟨by intro g; cases g <;> decide +kernel, by intro h; exact absurd h (by decide +kernel),
    by intro g; cases g <;> decide +kernel⟩, sQueued_steps⟩
theorem witness_StepKeepsSeverityStops : SeverityOk sQueued ∧ step sQueued = .next (after (step sQueued)) :=
  ⟨by intro g; cases g <;> decide +kernel, sQueued_steps⟩
theorem witness_StepKeepsSeverityStops_handed : HandedOk sQueued ∧ step sQueued = .next (after (step sQueued)) :=
  ⟨by unfold HandedOk; decide +kernel, sQueued_steps⟩
theorem witness_StepKeepsDiggingInterlock : DiggingOk sQueued ∧ step sQueued = .next (after (step sQueued)) :=
  ⟨by intro g; cases g <;> decide +kernel, sQueued_steps⟩
theorem witness_StepKeepsContactorCommand : CommandOk (sStep.withPending [.stop req]) ∧ Continues (sStep.withPending [.stop req]) :=
  ⟨by unfold CommandOk; decide +kernel, ⟨_, rfl⟩⟩
theorem witness_StepKeepsGainLevels : GainOk sQueued ∧ step sQueued = .next (after (step sQueued)) :=
  ⟨by intro g; cases g <;> decide +kernel, sQueued_steps⟩
theorem witness_StepKeepsCorrectionRanges : CorrectionOk sQueued ∧ step sQueued = .next (after (step sQueued)) :=
  ⟨by intro g; unfold InCorrectionRange; cases g <;> decide +kernel, sQueued_steps⟩
theorem witness_StepKeepsTableStates : TablesOk sQueued ∧ step sQueued = .next (after (step sQueued)) :=
  ⟨⟨by unfold EnvelopeTablesOk; decide +kernel, by unfold RunTablesOk; decide +kernel⟩, sQueued_steps⟩
/-- A LIVE T0 of one cell over a T1 of one record, with that record selected. -/
def sCell : State :=
  { sIn with
    tables := { liveTables with t1 := { liveTables.t1 with words := liveTables.t1.words.set 0 1 } }
    env := { Env.reset with band := ⟨some 0, some 0⟩, cellProfile := some 0, selection := .cell, selected := some 0, lastDoubt := ⟨false, false⟩ }
    pending := [.openTable req 1] }
theorem witness_StepKeepsTableStates_envelope : TablesOk sCell ∧ EnvelopeOk sCell ∧ Continues sCell :=
  ⟨⟨by unfold EnvelopeTablesOk; decide +kernel, by unfold RunTablesOk; decide +kernel⟩,
    ⟨fun _ => ⟨by decide +kernel, by decide +kernel, by decide +kernel, by
      intro hb db h1 h2
      obtain rfl : hb = 0 := Nat.le_zero.mp h1
      obtain rfl : db = 0 := Nat.le_zero.mp h2
      decide +kernel, 0, 0, by decide +kernel⟩, fun h => absurd rfl h⟩, ⟨_, rfl⟩⟩
theorem witness_StepKeepsCapItems : CapItemsOk sQueued ∧ step sQueued = .next (after (step sQueued)) :=
  ⟨by unfold CapItemsOk; decide +kernel, sQueued_steps⟩

theorem witness_FrameBytesClassify :
    (Instr.cycle (lk 1) 7).wellFormed 5 = true ∧ bytesOf 5 (.cycle (lk 1) 7) = some (received kindCycle (lk 1) [7])
      ∧ (Instr.zero req 3 (List.replicate 20 1)).wellFormed 5 = true := by decide +kernel
theorem witness_ResetCompletes : State.reset.lpu.bypass = .reset ∧ (31#5 = 31#5) ∧ ¬ (2#5 = 1#5) := by decide +kernel
theorem witness_BypassRules :
    (let s := sIn.withMgu { Mgu.reset with resetPending := true }
     s.mgu.resetPending = true ∧ s.lpu.bypass = .off ∧ s.lpu.queue = [])
      ∧ sIn.mgu.resetPending = false ∧ (withQueue 1 sIn).lpu.queue ≠ []
      ∧ bytesOf 5 (.start req) = some (requestBytes 5 req 8 0 0 0 []) ∧ State.reset.lpu.bypass ≠ .off := by decide +kernel
theorem witness_SoftResetTaken : (sRun.withLpu { sRun.lpu with bypass := .soft }).lpu.bypass = .soft := by decide +kernel
theorem witness_CycleMarker :
    sRun.lpu.bypass = .off ∧ fits (lk 1) 2 = true ∧ (withQueue 5 sRun).lpu.queue.length ≤ 5
      ∧ 6 ≤ (withQueue 6 sRun).lpu.queue.length ∧ (withQueue 7 sRun).lpu.queue.length = 7
      ∧ 8 ≤ (withQueue 8 sRun).lpu.queue.length ∧ (7 : Word).toNat % 7 = 0 ∧ (0xFFFF : Word).toNat % 7 = 1
      ∧ (2 : Word).toNat % 7 = 2 ∧ (6 : Word).toNat % 7 = 3 + Axis.walk.code := by decide +kernel
theorem witness_CabFrame : sRun.lpu.bypass = .off ∧ fits (lk 1) 4 = true ∧ sHalt.mgu.mode = .halted := by decide +kernel
theorem witness_CabFrame_edge :
    (let s := sHalt.withMgu { sHalt.mgu with lastReset := some false, lastLevers := .all (some 0) }
     s.mgu.mode = .halted ∧ s.mgu.lastReset = some false ∧ s.mgu.tripStanding = false)
      ∧ ∀ g : Axis, (PerAxis.all (some (0 : Int))).get g = some 0 :=
  ⟨by decide +kernel, by intro g; cases g <;> rfl⟩
/-- In HALTED and ready for a confirm edge, an acknowledge edge and a reset edge. -/
def sPushes : State :=
  { sFull with
    pos := { sFull.pos with lastConfirm := some false }
    alu := { sFull.alu with lastAck := some false }
    mgu := { Mgu.reset with mode := .halted, lastReset := some false, lastLevers := .all (some 0) }
    groups := .all { Group.reset with state := .cut } }
theorem witness_CabFrame_pushes :
    HandedOk sPushes ∧ AlarmsOk sPushes ∧ ListingOk sPushes ∧ SequencerIdle sPushes ∧ GroupsOk sPushes
      ∧ (sPushes.lpu.bypass = .off ∧ sPushes.wsq.selector = none ∧ sPushes.pos.lastConfirm = some false
        ∧ sPushes.alu.lastAck = some false ∧ sPushes.items.ackMethod ≠ .read ∧ sPushes.alu.tripStanding sPushes.tables.t10 = false
        ∧ sPushes.mgu.lastReset = some false ∧ sFull.pos.lastConfirm ≠ some false)
      ∧ ∀ g, sPushes.mgu.lastLevers.get g = some 0 :=
  ⟨by unfold HandedOk; decide +kernel, by unfold AlarmsOk; decide +kernel, by unfold ListingOk; decide +kernel,
    by unfold SequencerIdle; decide +kernel,
    ⟨by intro g; cases g <;> decide +kernel, by intro _ g; cases g <;> rfl, by intro g; cases g <;> decide +kernel⟩,
    by decide +kernel, by intro g; cases g <;> rfl⟩
/-- What a CAB frame's edges ask of the hand-offs: no condition that stands has been left out. -/
theorem witness_CabFrame_handed : HandedOk sWalk ∧ AlarmsOk sWalk ∧ SequencerIdle sWalk ∧ GroupsOk sHalt ∧ HandedOk sHalt :=
  ⟨by unfold HandedOk; decide +kernel, by unfold AlarmsOk; decide +kernel, by unfold SequencerIdle; decide +kernel,
    ⟨by intro g; cases g <;> decide +kernel, by intro _ g; cases g <;> decide +kernel, by intro g; cases g <;> decide +kernel⟩,
    by unfold HandedOk; decide +kernel⟩
theorem witness_CabFrame_walk_passes : sWalk.wsq.selector = some .dig ∧ sWalk.wsq.state = .digging ∧ ∀ n, WalkCheck sWalk n := by
  refine ⟨rfl, rfl, fun n => ?_⟩
  match n with
  | 0 => exact trivial
  | 1 => exact rfl
  | 2 => exact ⟨0, rfl, by decide +kernel⟩
  | 3 => exact rfl
  | 4 => exact rfl
  | 5 => exact rfl
  | 6 => exact rfl
  | 7 => exact rfl
  | 8 => exact ⟨by decide +kernel, by decide +kernel⟩
  | _ + 9 => exact trivial
/-- The first check failed in STANDBY, the last with no DRAG member. -/
theorem witness_CabFrame_walk_fails :
    (¬ WalkCheck (sWalk.withMgu Mgu.reset) 1 ∧ ∀ k, k < 1 → WalkCheck (sWalk.withMgu Mgu.reset) k)
      ∧ ¬ WalkCheck (sWalk.withDgu Dgu.reset) 8 ∧ ∀ k, k < 8 → WalkCheck (sWalk.withDgu Dgu.reset) k := by
  refine ⟨⟨by simp only [WalkCheck]; decide +kernel, fun k h => ?_⟩, fun h => h.1 rfl, fun k h => ?_⟩
  · obtain rfl : k = 0 := Nat.lt_one_iff.mp h
    exact trivial
  · match k, h with
    | 0, _ => exact trivial
    | 1, _ => exact rfl
    | 2, _ => exact ⟨0, rfl, by decide +kernel⟩
    | 3, _ => exact rfl
    | 4, _ => exact rfl
    | 5, _ => exact rfl
    | 6, _ => exact rfl
    | 7, _ => exact rfl
/-- The DRAG group ACTIVE, or at rest with the summary NONE; a walk in progress; and each state a DIG edge may find. -/
theorem witness_CabFrame_selector :
    ((sWalk.setGroup .drag { sWalk.group .drag with state := .active }).group .drag).moving = true
      ∧ (sWalk.group .drag).moving = false ∧ sWalk.dgu.summary ≠ .none ∧ ({ sWalk.dgu with summary := .none }).summary = .none
      ∧ walking sStep.wsq.state = true ∧ sStep.mgu.mode ≠ .halted ∧ (sStep.group .walk).moving = true
      ∧ ({ sWalk.wsq with selector := some .walk, state := .walkReady, offPark := true, steps := 3 }).selector = some .walk
      ∧ (1 : Word) ≠ 0#16 := by decide +kernel
theorem witness_CommandFrame :
    sRun.lpu.bypass = .off ∧ fits (lk 1) 4 = true ∧ Axis.hoist ≠ .drag ∧ 3 < (4 : Word).toNat := by decide +kernel
/-- Every drive group FULL, a profile with caps of 500 and limits of 400 selected, every curve from (0, 0) to (1000, 1000). -/
def sShape : State :=
  { sRun with
    tables := { liveTables with
      t1 := { liveTables.t1 with words := [1, 0, 500, 500, 400, 400, 500, 500, 400, 400, 500, 400, 100] ++ List.replicate 404 0#16 }
      t2 := { liveTables.t2 with words := [1, 1000, 1000] ++ List.replicate 14 0#16 }
      t3 := { liveTables.t3 with words := [1, 1000, 1000] ++ List.replicate 14 0#16 }
      t5 := { liveTables.t5 with words := [1, 1000, 1000] ++ List.replicate 14 0#16 }
      t8 := { liveTables.t8 with words := [2, 0, 400, 1, 1, 180, 400, 0, 0] ++ List.replicate 40 0#16 } }
    env := { Env.reset with selected := some 0 }
    dgu := { Dgu.reset with values := .all ⟨.full, 4, 4, 90, 0, false⟩ }
    groups := .all { Group.reset with neutralSeen := true } }
def sShapeIn (x : SeqState) (g : Axis) (r : Group) : State :=
  ({ sShape with wsq := { sShape.wsq with state := x, brake := true, heldSector := some 1, dir := some .forward } }).setGroup g r
def rActive : Group := { Group.reset with state := .active, q := 100 }
def rStopping : Group := { Group.reset with state := .stopping, q := 100 }
theorem witness_CommandFrame_activation :
    ∀ p ∈ [(SeqState.digging, Axis.hoist), (.walkReady, .walk)],
      (let s := sShapeIn p.1 p.2 { Group.reset with neutralSeen := true }
       FrameQuiet s ∧ (s.group p.2).state = .held ∧ frameLever p.2 500 s ≠ 0 ∧ (s.group p.2).neutralSeen = true
        ∧ stops ((commandArrives p.2 (goodFrameSeen s)).alu.severity.get p.2) = false ∧ s.wsq.brake = true
        ∧ (s.dgu.values.get p.2.drive).form ≠ .unresolved ∧ s.wsq.state = p.1 ∧ s.tables.t8.state = .live
        ∧ 1 ≤ (s.items.groups.get p.2).brakeDelay ∧ frameLever p.2 0 s = 0) := by
  unfold FrameQuiet AlarmsOk HandedOk; decide +kernel
/-- R91: HELD to ACTIVE through exec, and a HELD group that is not in DIGGING. -/
theorem test_command_activates :
    ((after (exec (.command (lk 1) 0 500) (sShapeIn .digging .hoist { Group.reset with neutralSeen := true }))).group .hoist).q
      = (sShape.items.groups.get .hoist).accel
      ∧ ((after (exec (.command (lk 1) 0 500) (sShapeIn .walkReady .hoist { Group.reset with neutralSeen := true }))).group .hoist).state
        = .held := by decide +kernel
/-- R94: a DRAG group STOPPING under the walk reference is ramped at STOP_RATE, and in STANDBY its next frame takes it HELD. -/
theorem test_stop_under_walk :
    ((after (exec (.command (lk 1) 1 500) (sShapeIn .openingWalk .drag rStopping))).group .drag).q
      = 100 - (sShape.items.groups.get .drag).stop
      ∧ ((after (exec (.command (lk 1) 1 500) ((sShapeIn .openingWalk .drag rStopping).withMgu Mgu.reset))).group .drag).state
        = .held := by decide +kernel
theorem witness_SampleFrame :
    (let d : SampleData := ⟨0, 9, 1000, 1000, 1⟩
     sIn.lpu.bypass = .off ∧ fits (lk 20) 8 = true ∧ d.channel.toNat = Axis.hoist.code
      ∧ (sIn.items.channels.get .hoist).sampleSource = (lk 20).src.toNat
      ∧ (sIn.chan .hoist).lastSeq ≠ some d.sequence.toNat
      ∧ (let s := sIn.setChan .hoist { sIn.chan .hoist with lastSeq := some 9, state := .fault }
         (s.chan .hoist).lastSeq = some d.sequence.toNat ∧ (s.chan .hoist).state = .fault)) := by decide +kernel
/-- A channel in FAULT that a good frame recovers. -/
def sFault : State := sIn.setChan .hoist { sIn.chan .hoist with state := .fault, cause := some .loss, lastSeq := some 8 }
theorem witness_SampleFrame_recovery :
    (let d : SampleData := ⟨0, 9, 1000, 1000, 1⟩
     sFault.lpu.bypass = .off ∧ fits (lk 20) 8 = true ∧ d.channel.toNat = Axis.hoist.code
      ∧ (sFault.items.channels.get .hoist).sampleSource = (lk 20).src.toNat
      ∧ (sFault.chan .hoist).lastSeq ≠ some d.sequence.toNat ∧ (∀ q, (sFault.chan .hoist).lastSeq = some q → q < 256)
      ∧ (sFault.chan .hoist).state = .fault ∧ ((after (exec (.sample (lk 20) d) sFault)).chan .hoist).state = .acquire
      ∧ (takeSample (sFault.chanCtx .hoist) d (sFault.chan .hoist)).recovered = true) := by
  refine ⟨rfl, by decide +kernel, rfl, rfl, by decide +kernel, fun q h => ?_, rfl, by decide +kernel, by decide +kernel⟩
  obtain rfl : 8 = q := Option.some.inj h
  decide
theorem witness_SampleFrame_source : ∀ a : Axis, (0 : Byte).toNat = a.code →
    (sIn.items.channels.get a).sampleSource ≠ (lk 19).src.toNat := by intro a; cases a <;> decide +kernel
theorem witness_DiscreteFrame :
    sIn.lpu.bypass = .off ∧ fits (lk 24) 4 = true ∧ (sIn.alu.conds.length = 60 ∧ sIn.alu.list.length ≤ 32)
      ∧ sIn.items.inputNode = (lk 24).src.toNat ∧ sIn.items.inputNode ≠ (lk 23).src.toNat := by decide +kernel
theorem witness_DriveStatusFrame :
    (sMember.lpu.bypass = .off ∧ fits (lk 10) 12 = true ∧ ((sMember.dgu.members.get .hoist).map Member.address) = [10])
      ∧ (∃ g, ∃ m ∈ sMember.dgu.members.get g, m.address = (lk 10).src.toNat)
      ∧ ∀ g, ∀ m ∈ sIn.dgu.members.get g, m.address ≠ (lk 10).src.toNat :=
  ⟨by decide +kernel, ⟨.hoist, .begin 10, by decide +kernel, by decide +kernel⟩, by intro g; cases g <;> decide +kernel⟩
theorem witness_PassingFrames :
    onlyForwarded 5 (frame 0x20 63 1 []) = true ∧ badReason (received kindState (lk 5) []) = none
      ∧ returnsOwn 5 (received kindState (lk 5) []) = true ∧ badReason [] = some 0 ∧ badReason [0xFF, 0xFF] = some 1
      ∧ badReason (received kindCab (lk 1) [7]) = some 2 ∧ sIn.lpu.bypass = .off ∧ sIn.alu.conds.length = 60 := by
  decide +kernel
theorem witness_TransmissionAndSilence :
    (sRun.lpu.bypass = .off ∧ sRun.lpu.timer = .running ∧ (sRun.alu.conds.length = 60 ∧ sRun.alu.list.length ≤ 32)
      ∧ sRun.alu.raised cLoopSilent = false) ∧ GroupsOk sRun :=
  ⟨by decide +kernel, by intro g; cases g <;> decide +kernel, by intro h; exact absurd h (by decide +kernel),
    by intro g; cases g <;> decide +kernel⟩
theorem witness_ReadRequests :
    sIn.lpu.bypass = .off ∧ (namedItem (5 : Word).toNat 0).isSome = true ∧ max 1 (min 16 (16 : Byte).toNat) ≤ wordsFrom 5
      ∧ max 1 (min 16 (0 : Byte).toNat) ≤ wordsFrom 111 ∧ wordsFrom 111 < max 1 (min 16 (2 : Byte).toNat) ∧ namedItem 9 0 = none
      ∧ (sIn.table .t8).words.length < 34 + max 1 (min 16 (255 : Byte).toNat) ∧ (8 : Word).toNat = TableId.t8.code
      ∧ 33 + max 1 (min 16 (255 : Byte).toNat) ≤ (sIn.table .t8).words.length := by decide +kernel
theorem witness_WriteRequests :
    namedItem 9 0 = none ∧ namedItem 10 4 = none ∧ namedItem 1 0 = some ⟨1, 5, .part, .readOnly⟩
      ∧ namedItem 7 0 = some ⟨7, 7, .part, .setup⟩ ∧ sRun.mgu.mode = .run ∧ sIn.mgu.mode ≠ .run
      ∧ (plainItems.filter (fun e => [47, 48, 86, 93, 94, 95].contains e.number)).length = 6
      ∧ plainItems.length = 21 ∧ plainGroupItems.length = 5 ∧ plainChannelItems.length = 3 := by decide +kernel
theorem witness_OpenAndAbandon :
    sReady.lpu.bypass = .off ∧ sReady.mgu.mode ≠ .run ∧ (sReady.table .t1).state ≠ .edit ∧ (sReady.table .t0).state = .live
      ∧ (sIn.table .t0).state ≠ .live ∧ sRun.mgu.mode = .run := by decide +kernel
/-- T2 and T10 in EDIT. -/
def sEdit : State :=
  (sIn.setTable .t2 { Tables.reset.t2 with state := .edit }).setTable .t10 { Tables.reset.t10 with state := .edit }
theorem witness_LoadRequests :
    sEdit.lpu.bypass = .off ∧ sEdit.mgu.mode ≠ .run ∧ (sEdit.table .t2).state = .edit ∧ (sEdit.table .t10).state = .edit
      ∧ (1 : Word).toNat + 16 ≤ (sEdit.table .t2).words.length ∧ (sEdit.table .t2).words.length < (2 : Word).toNat + 16
      ∧ 16 ≤ (15 : Word).toNat + 1 ∧ (15 : Word).toNat < (sEdit.table .t2).words.length ∧ (14 : Word).toNat + 1 < 16
      ∧ (sEdit.table .t10).words.length ≤ (60 : Word).toNat ∧ (59 : Word).toNat + 1 ≤ (sEdit.table .t10).words.length
      ∧ 16 ≤ (List.replicate 16 (1 : Word)).length ∧ 3 < (4 : Byte).toNat ∧ 16 < (17 : Word).toNat
      ∧ ([] : List Word).length < (1 : Word).toNat ∧ (sEdit.table .t3).state ≠ .edit ∧ sRun.mgu.mode = .run
      ∧ 10 < (11 : Word).toNat := by decide +kernel
/-- A T7 in EDIT that passes: no marks; and one whose count fails. -/
def sMarks (count : Word) : State := sIn.setTable .t7 { Tables.reset.t7 with state := .edit, words := [count, 0, 0, 0, 0, 0, 0, 0, 0] }
theorem witness_CloseRequests :
    (sMarks 4).lpu.bypass = .off ∧ (sMarks 4).mgu.mode ≠ .run ∧ ((sMarks 4).table .t7).state = .edit
      ∧ (∀ c ∈ checks .t7 (sMarks 4), c.2 = true) ∧ ((checks .t7 (sMarks 5)).head? = some (0, false))
      ∧ ((sMarks 4).table .t6).state ≠ .edit ∧ (sIn.table .t1).state ≠ .live := by decide +kernel
theorem witness_StartAndStopRequests :
    sReady.lpu.bypass = .off ∧ sReady.mgu.mode = .standby ∧ ReadyToRun sReady ∧ sRun.mgu.mode = .run
      ∧ sHalt.mgu.mode = .halted ∧ sHalt.mgu.mode ≠ .standby :=
  ⟨by decide +kernel, by decide +kernel, ⟨by decide +kernel, by intro a; cases a <;> decide +kernel,
    by intro d; cases d <;> decide +kernel, by decide +kernel, by decide +kernel⟩, by decide +kernel, by decide +kernel,
    by decide +kernel⟩
theorem witness_StartAndStopRequests_failing :
    (startTables = [] ++ .t0 :: startTables.tail ∧ (sIn.table .t0).state ≠ .live)
      ∧ (Axis.all = [.hoist] ++ .drag :: [.swing, .walk]
        ∧ ((sReady.setChan .drag (.reset (.reset 21))).chan .hoist).state = .tracking
        ∧ ((sReady.setChan .drag (.reset (.reset 21))).chan .drag).state ≠ .tracking)
      ∧ (Drive.all = [] ++ .hoist :: [.drag, .swing] ∧ (Dgu.reset.values.get .hoist).form = .unresolved)
      ∧ sIn.wsq.state = .unsettled ∧ sIn.dgu.image.state = .unloaded
      ∧ ({ Image.reset with state := .stale } : Image).state = .stale := by decide +kernel
theorem witness_LearnRequests :
    3 < (4 : Word).toNat ∧ (sReady.chan .walk).state = .tracking
      ∧ ((setChannelItems .walk { ChannelItems.reset 23 with correctionMode := .learnOnce } sReady).items.channels.walk).correctionMode
        = .learnOnce ∧ (sIn.chan .walk).state ≠ .tracking ∧ sIn.lpu.bypass = .off := by decide +kernel
/-- Every channel handed in TRACKING. -/
def sZero : State := sIn.withPos { sIn.pos with handed := .all ⟨.tracking, 40000, 3⟩ }
theorem witness_ZeroRequests :
    sZero.lpu.bypass = .off ∧ sZero.mgu.mode ≠ .run ∧ (sZero.pos.handed.get .hoist).state = .tracking
      ∧ (sRun.group .drag).state = .held ∧ sRun.mgu.mode = .run ∧ (sRun.group .hoist).state ≠ .held
      ∧ 3 < (4 : Word).toNat := by decide +kernel
theorem witness_ForceRequests :
    sIn.lpu.bypass = .off ∧ (sIn.alu.conds.length = 60 ∧ sIn.alu.list.length ≤ 32) ∧ 59 < (60 : Word).toNat
      ∧ (59 : Word).toNat ≤ 59 ∧ sRun.mgu.mode ≠ .standby ∧ sIn.mgu.mode = .standby ∧ effMask sIn.tables.t10 59 = false
      ∧ sIn.alu.raised 59 = false ∧ (condSpec 13).event = false ∧ sIn.alu.raised 13 = true
      ∧ (sIn.alu.cond 59).listing = .quiet ∧ sIn.alu.list.length < 32
      ∧ (sIn.wsq.state ≠ .openingDrag ∧ walking sIn.wsq.state = false) := by decide +kernel
theorem witness_AlarmRequests_listing :
    ListingOk sFull ∧ AlarmsOk sFull ∧ SequencerIdle sFull ∧ ({ sFull.items with ackMethod := .read }).ackMethod ≠ .operator :=
  ⟨ListingOk_sFull, by unfold AlarmsOk; decide +kernel, by unfold SequencerIdle; decide +kernel, by decide⟩
theorem witness_AlarmRequests :
    (0 : Word).toNat ≤ 59 ∧ 59 < (60 : Word).toNat ∧ (256 : Word).toNat ≠ 255 ∧ 31 < (32 : Word).toNat
      ∧ (31 : Word).toNat ≤ 31 ∧ sIn.items.ackMethod = .operator
      ∧ (sIn.wsq.state ≠ .openingDrag ∧ walking sIn.wsq.state = false) := by decide +kernel
theorem witness_ResetAndUnknownCode : sIn.lpu.bypass = .off ∧ (0 : Byte).toNat = 0 ∧ 15 < (16 : Byte).toNat := by
  decide +kernel
theorem witness_CrossingFlagsWrite : sIn.lpu.bypass = .off ∧ sIn.swu.marks.length = 4 ∧ (3 < 4) := by decide +kernel
theorem witness_PitHeadingWrite :
    sIn.mgu.mode ≠ .run ∧ walking sIn.wsq.state = false ∧ (sRun.group .swing).state = .held
      ∧ (let s := sRun.setGroup .swing { Group.reset with state := .active }
         s.mgu.mode = .run ∧ (s.group .swing).state ≠ .held) := by decide +kernel
theorem witness_ItemWrites :
    sIn.lpu.bypass = .off ∧ sIn.mgu.mode ≠ .run ∧ (sIn.items.channels.get .walk).correctionMode ≠ .fixed
      ∧ (sIn.items.channels.get .walk).gainLow ≤ (sIn.items.channels.get .walk).gainHigh
      ∧ (sIn.items.channels.get .walk).gainHigh ≤ 7 ∧ sIn.items.ropeK.hoist ≠ max 1 ((3000 : Word).toNat : Int)
      ∧ sIn.items.swingGear ≠ max 1 ((0 : Word).toNat : Int) ∧ sIn.items.swingGear = max 1 ((1000 : Word).toNat : Int)
      ∧ sIn.items.ropeK.drag = max 1 ((2500 : Word).toNat : Int) ∧ sIn.items.ropeK.drag ≠ max 1 ((0xFFFF : Word).toNat : Int)
      ∧ sIn.items.ropeK.hoist = max 1 ((2500 : Word).toNat : Int) := by decide +kernel
theorem witness_ChannelStale :
    (let s := sRun.setChan .swing { sRun.chan .swing with stale := 2 }
     (s.items.channels.get .swing).staleLimit ≤ (if (s.chan .swing).note then (s.chan .swing).stale
        else min 15 ((s.chan .swing).stale + 1)) ∧ (s.chan .swing).stale ≤ 15
      ∧ ¬ ((s.chan .swing).state = .fault ∧ (s.chan .swing).cause = some .stale)) := by decide +kernel
/-- A READY member silent for three markers, and an image three markers old. -/
def sSilent : State :=
  { sIn with
    dgu := { Dgu.reset with
      members := ⟨[{ Member.begin 10 with presence := .ready, silence := 3 }], [], []⟩
      image := { Image.reset with state := .fresh, stale := 2 } } }
theorem witness_SilentNodes :
    (let m := { Member.begin 10 with presence := .ready, silence := 3 }
     (sSilent.dgu.members.get .hoist)[(0 : Fin 4).val]? = some m ∧ m.presence ≠ .absent ∧ m.note = false ∧ m.silence < 15
      ∧ sSilent.items.memberSilenceLimit ≤ m.silence + 1) ∧ sSilent.dgu.image.state ≠ .stale
      ∧ sSilent.dgu.image.note = false ∧ sSilent.dgu.image.stale < 15
      ∧ sSilent.items.discreteStaleLimit ≤ sSilent.dgu.image.stale + 1 := by decide +kernel
theorem witness_CommandLost :
    (let s := sRun.setGroup .hoist { sRun.group .hoist with loss := 2 }
     (s.group .hoist).note = false ∧ (s.group .hoist).loss < 15 ∧ s.items.commandLossLimit ≤ (s.group .hoist).loss + 1
      ∧ s.alu.raised (cCmdLost .hoist) = false) := by decide +kernel

/-- In a transfer, with the count one below its limit. -/
def sTransfer (x : SeqState) : State := { sReady with wsq := { Wsq.reset 0 none with state := x, transfer := 49 } }
theorem witness_TransferTimeout : ∀ x ∈ [SeqState.openingWalk, .closingDrag, .openingDrag, .closingWalk],
    (let u := markBeforeSeq 7 (goodFrameSeen (sTransfer x))
     u.items.transferLimit ≤ u.wsq.transfer + 1 ∧ u.wsq.transfer < 255 ∧ u.wsq.state = x
      ∧ ((sTransfer x).alu.conds.length = 60 ∧ u.alu.list.length < 32) ∧ (u.alu.cond cTransferTimeout).listing = .quiet) := by
  decide +kernel
theorem witness_ShoeSupervision :
    (let u := markBeforeSeq 7 (goodFrameSeen sShoes)
     walking u.wsq.state = true ∧ shoesMatch u = false ∧ u.wsq.mismatch < 255 ∧ u.items.shoeLimit ≤ u.wsq.mismatch + 1
      ∧ u.alu.raised cShoeMismatch = false ∧ u.wsq.left ≠ u.wsq.right ∧ u.wsq.disagree < 255
      ∧ u.items.shoeLimit ≤ u.wsq.disagree + 1 ∧ u.alu.raised cShoeDisagree = false) := by decide +kernel
/-- WALK ACTIVE and no TRIP in play; SHOE_MISMATCH raised already; and shoes that match and agree. -/
theorem witness_ShoeSupervision_stays :
    (let u := markBeforeSeq 7 (goodFrameSeen sShoes)
     (u.group .walk).moving = true ∧ u.alu.tripStanding u.tables.t10 = false ∧ effSeverity u.tables.t10 cShoeMismatch ≠ .trip
      ∧ effSeverity u.tables.t10 cShoeDisagree ≠ .trip)
    ∧ (let u := markBeforeSeq 7 (goodFrameSeen sShoesRaised)
       walking u.wsq.state = true ∧ shoesMatch u = false ∧ u.alu.raised cShoeMismatch = true)
    ∧ (let u := markBeforeSeq 7 (goodFrameSeen (sShoes.withWsq { sShoes.wsq with right := .seated }))
       walking u.wsq.state = true ∧ shoesMatch u = true ∧ u.wsq.left = u.wsq.right) := by decide +kernel
/-- HOIST ACTIVE at rest, one neutral frame short of BRAKE_DELAY. -/
def sBrake : State := sRun.setGroup .hoist { sRun.group .hoist with q := 0, idle := 49 }
theorem witness_BrakeDelayExpiry :
    sBrake.lpu.bypass = .off ∧ fits (lk 1) 4 = true ∧ brakeDelayDue .hoist 0 (goodFrameSeen sBrake) = true
      ∧ (sBrake.group .hoist).state = .active ∧ (sBrake.group .hoist).q = 0 ∧ sBrake.alu.raised (cCmdLost .hoist) = false
      ∧ (sBrake.group .hoist).idle < 255
      ∧ (sBrake.items.groups.get .hoist).brakeDelay ≤ (sBrake.group .hoist).idle + 1 ∧ 0 ≤ sBrake.items.limitCreep := by
  decide +kernel
/-- HOIST tracking at (1000, 1000) with fifteen equal pairs, or in ACQUIRE one small error short of TRACKING. -/
def sTrack : State := sIn.setChan .hoist
  { Channel.reset (.reset 20) with state := .tracking, phase := 8192, speed := 5, last := some ⟨1000, 1000⟩, lastSeq := some 255, stuckCount := 15 }
def sSettle : State := sIn.setChan .hoist
  { Channel.reset (.reset 20) with state := .acquire, phase := 8192, last := some ⟨1000, 1001⟩, lastSeq := some 255, settle := 7 }
def dSame : SampleData := ⟨0, 0, 1000, 1000, 1⟩
theorem witness_StuckAndSettled :
    (∀ s ∈ [sTrack, sSettle], dSame.channel.toNat = Axis.hoist.code
      ∧ (s.items.channels.get .hoist).sampleSource = (lk 20).src.toNat ∧ (s.chan .hoist).lastSeq = some 255
      ∧ (255 + 1) % 256 = dSame.sequence.toNat ∧ dSame.excitation ≠ 0#16 ∧ (s.items.channels.get .hoist).noiseMode = .one
      ∧ (s.chan .hoist).rejects < 3)
    ∧ ((sTrack.chan .hoist).state = .tracking ∧ (sTrack.chan .hoist).last = some ⟨1000, 1000⟩
      ∧ 4 ≤ |(sTrack.chan .hoist).speed| ∧ (sTrack.chan .hoist).stuckCount = 15)
    ∧ ((sSettle.chan .hoist).state = .acquire ∧ (sSettle.chan .hoist).settle = 7
      ∧ (⟨1000, 1001⟩ : Pair) ≠ ⟨1000, 1000⟩
      ∧ tooWeak (sSettle.items.channels.get .hoist) (correct (sSettle.chan .hoist).used ⟨1000, 1000⟩) = false
      ∧ |loopError (angleOf (correct (sSettle.chan .hoist).used ⟨1000, 1000⟩)) (sSettle.chan .hoist).phase|
        < (sSettle.items.channels.get .hoist).bandUp) := by decide +kernel
theorem witness_SampleFaults :
    (sIn.chan .hoist).lastSeq = none ∧ (sTrack.chan .hoist).lastSeq = some 255 ∧ (2047 : Word).toInt = 2047
      ∧ (0xF800 : Word).toInt = -2048 ∧ (sIn.chan .hoist).state = .unlocked ∧ (sIn.chan .hoist).learn = .idle
      ∧ (let k := correct (sIn.chan .hoist).used ⟨255, 0⟩
         k.s * k.s + k.c * k.c < (sIn.items.channels.get .hoist).lossLevel * (sIn.items.channels.get .hoist).lossLevel) := by
  decide +kernel
theorem witness_AcquisitionAndTracking :
    tooWeak (sIn.items.channels.get .hoist) (correct (sIn.chan .hoist).used ⟨1000, 1000⟩) = false
      ∧ (sIn.chan .hoist).state = .unlocked ∧ (sIn.chan .hoist).lastSeq = none
      ∧ (let c := { sSettle.chan .hoist with state := .tracking }
         c.state = .tracking ∧ c.learn = .idle ∧ c.lastSeq = some 255 ∧ c.last = some ⟨1000, 1001⟩ ∧ c.rejects < 3)
      ∧ |(1000 : Int) - 1001| ≤ (sIn.items.channels.get .hoist).noiseThreshold := by decide +kernel
theorem witness_DisabledOutsideRun : sHalt.mgu.mode ≠ .run ∧ sIn.mgu.mode ≠ .run := by decide +kernel
theorem witness_SpeedWithinCap : CapItemsOk sRun := by unfold CapItemsOk; decide +kernel
theorem witness_RampAndPullback :
    (0 : Int) ≤ 20 ∧ (0 : Int) ≤ 25 ∧ |(1000 : Int)| ≤ 1200 ∧ (⟨.full, 4, 4, 1400, 0, false⟩ : GroupValues).form = .full
      ∧ (⟨.plain, 4, 4, 1400, 0, false⟩ : GroupValues).form ≠ .full := by decide +kernel
/-- A target above Q, an idle frame below BRAKE_DELAY and one that reaches it. -/
theorem witness_RampAndPullback_active :
    ∀ p ∈ [(SeqState.digging, Axis.hoist, rActive), (.stepping, .walk, rActive), (.digging, .drag, { rActive with q := 0, idle := 3 }),
        (.digging, .hoist, { rActive with q := 0, idle := 49 })],
      (let s := sShapeIn p.1 p.2.1 p.2.2
       FrameQuiet s ∧ (s.group p.2.1).state = .active ∧ s.mgu.mode = .run ∧ (s.group p.2.1).idle < 255
        ∧ stops ((commandArrives p.2.1 (goodFrameSeen s)).alu.severity.get p.2.1) = false
        ∧ ¬ (p.2.1 = .drag ∧ carriesWalk s.wsq.state = true)
        ∧ (p.2.1 = .walk → walking s.wsq.state = true ∧ s.inPark = false) ∧ frameLever p.2.1 500 s ≠ 0
        ∧ frameLever p.2.1 0 s = 0) := by
  unfold FrameQuiet AlarmsOk HandedOk; decide +kernel
theorem witness_RampAndPullback_stopping :
    ∀ p ∈ [(SeqState.digging, Axis.hoist, rStopping), (.openingWalk, .drag, rStopping), (.stepping, .walk, rStopping),
        (.digging, .drag, { rStopping with q := 0 })],
      (let s := sShapeIn p.1 p.2.1 p.2.2
       FrameQuiet s ∧ FrameQuiet (s.withMgu Mgu.reset) ∧ (s.group p.2.1).state = .stopping
        ∧ 0 ≤ (s.items.groups.get p.2.1).stop ∧ s.mgu.mode = .run ∧ (s.withMgu Mgu.reset).mgu.mode = .standby) := by
  unfold FrameQuiet AlarmsOk HandedOk; decide +kernel
theorem witness_RampAndPullback_curve :
    curve3.state = .live ∧ (700 : Int) < |(-850 : Int)| ∧ |(-850 : Int)| ≤ 1000 ∧ curveTarget curve3 300 = 100
      ∧ Tables.reset.t2.state ≠ .live := by decide +kernel
theorem witness_EnvelopeSelection :
    bandTable.state = .live ∧ (let e : Env := { Env.reset with band := ⟨some 2, some 0⟩ }
      e.band.get .hoist = some 2 ∧ e.band.get .drag = some 0) ∧ (2 : Nat) ≤ freshBand bandTable .hoist 3000
      ∧ freshBand bandTable .hoist 2940 < 2 := by decide +kernel
theorem witness_CrossingsAndWindows :
    crossing 35999 1 0 = some .cw ∧ crossing 1 35999 0 = some .ccw ∧ window0.start ≠ window0.stop
      ∧ (0 ≤ window0.start ∧ window0.stop < 36000) := by decide +kernel
/-- In and out of a FORBIDDEN and a SLOW window, with T6 LIVE, and under suspension. -/
theorem witness_CrossingsAndWindows_caps :
    window0.kind = .forbidden ∧ window0.contains 8150 = false ∧ window0.contains 9000 = true ∧ window0.contains 12000 = false
      ∧ (⟨.slow, 34000, 2000, 0, 0, 0, 300⟩ : Window).contains 500 = true ∧ sRun.swu.heldDoubt = true
      ∧ ({ sRun.swu with heldDoubt := false }).heldDoubt = false ∧ (liveTable sRun.tables.t6).state = .live
      ∧ (sHalt.group .swing).state = .cut ∧ (sRun.group .swing).state ≠ .cut ∧ FrameQuiet sShape := by
  unfold FrameQuiet AlarmsOk HandedOk; decide +kernel
/-- Each group's own reference with enable true; DRAG with the tightline reduction active. -/
theorem witness_SwingTorqueLimit_references :
    (∀ g ∈ Axis.all, (shapeRest g 500 (sShape.setGroup g rActive)).ref.enable = true)
      ∧ ((shape .drag 500 (goodFrameSeen (sShape.setGroup .drag rActive))).state.group .drag).tightline = true
      ∧ (shapeRest .drag 500 (sShape.setGroup .drag rActive)).ref.motoring = 320
      ∧ (sShape.alu.conds.length = 60 ∧ sShape.alu.list.length ≤ 32) := by decide +kernel
/-- CARRY with a DUMP window that does not hold the angle. -/
theorem witness_SpeedWithinCap_dump :
    (let t6 : Table := ⟨.live, [1, 1, 9000, 12000, 0, 0, 0, 0] ++ List.replicate 49 0#16⟩
     let t1 := { sShape.tables.t1 with words := sShape.tables.t1.words.set 1 1 }
     let s := { sShape with tables := { sShape.tables with t1 := t1, t6 := t6 }, swu := { sShape.swu with heldDoubt := false } }
     s.profile .cls = 1 ∧ s.tables.t6.state = .live ∧ (window s.tables.t6 0).kind = .dump
      ∧ (window s.tables.t6 0).contains s.swu.heldHr = false ∧ (capsOf .drag s).neg = min 500 s.items.noDumpCap) := by
  decide +kernel
theorem witness_SwingTorqueLimit :
    0 ≤ sRun.items.adaptFloor ∧ 0 ≤ sRun.items.adaptStep ∧ sRun.env.selected = none
      ∧ ({ sRun with env := { Env.reset with selected := some 0 } }).env.selected.isSome = true
      ∧ sRun.swu.applied = none ∧ ({ sRun.swu with applied := some 5 }).applied = some 5 := by decide +kernel
theorem witness_SeverityFloors :
    59 ≤ 59 ∧ 3 ≤ (condSpec 0).floor.code ∧ (condSpec 1).floor.code < 3 ∧ sIn.tables.t10.state ≠ .live
      ∧ (liveTable sIn.tables.t10).state = .live := by decide +kernel
theorem witness_ParkEntries :
    (let t8 := { liveTables.t8 with words := [2, 0, 400, 1, 1, 180, 400, 0, 0] ++ List.replicate 40 0#16 }
     let s := { sStep with tables := { liveTables with t8 := t8 }, wsq := { sStep.wsq with heldSector := some 1, heldCam := 359 } }
     walking s.wsq.state = true ∧ s.wsq.heldSector = some 1 ∧ sectorOf s.tables.t8 0 = some 0
      ∧ sectorPark s.tables.t8 1 = false ∧ sectorPark s.tables.t8 0 = true ∧ ChanState.tracking ≠ .acquire
      ∧ -32768 ≤ s.wsq.steps ∧ s.wsq.steps ≤ 32767 ∧ s.wsq.state = .stepping) ∧ walking sIn.wsq.state = false
      ∧ ({ sStep.wsq with state := .finishing, returnPending := false }).state = .finishing := by decide +kernel
theorem witness_FormResolution :
    resolveForm [{ Member.begin 10 with presence := .ready, ability := some ⟨true, false, true⟩ }] .both = .full
      ∧ (∀ m ∈ [Member.begin 10], m.presence = .absent) := by decide +kernel

end Sys2Proof.Tests
end

section
/-! SUPPORT. What each stage of a SAMPLE frame (R4) can do to its channel: one lemma for each stage, composed along the pipeline. -/

namespace Sys2Proof.Machine

/-- What the stages of a frame can do to a channel once its arrival is recorded: the last sequence number, the note and the stale count
stand (R5); the gain level stays between GAIN_LOW and GAIN_HIGH (R23); and the values in use stand, or are clamped into the
correction ranges (R11). -/
structure Tracks (it : ChannelItems) (c c' : Channel) : Prop where
  lastSeq : c'.lastSeq = c.lastSeq
  note : c'.note = c.note
  stale : c'.stale = c.stale
  gain : it.gainLow ≤ c.gain ∧ c.gain ≤ it.gainHigh → it.gainLow ≤ c'.gain ∧ c'.gain ≤ it.gainHigh
  used : c'.used = c.used ∨ ∃ k, c'.used = clampCorrection it k

theorem Tracks.refl (it : ChannelItems) (c : Channel) : Tracks it c c := ⟨rfl, rfl, rfl, id, .inl rfl⟩

theorem Tracks.trans {it : ChannelItems} {a b c : Channel} (h : Tracks it a b) (k : Tracks it b c) : Tracks it a c where
  lastSeq := k.lastSeq.trans h.lastSeq
  note := k.note.trans h.note
  stale := k.stale.trans h.stale
  gain := fun x => k.gain (h.gain x)
  used := by
    rcases k.used with e | e
    · rw [e]; exact h.used
    · exact .inr e

/-- An update that writes none of these fields but the gain level, and that within its range. -/
theorem tracks_of_gain {it : ChannelItems} {c c' : Channel}
    (g : it.gainLow ≤ c.gain ∧ c.gain ≤ it.gainHigh → it.gainLow ≤ c'.gain ∧ c'.gain ≤ it.gainHigh)
    (q : c'.lastSeq = c.lastSeq := by rfl) (n : c'.note = c.note := by rfl) (x : c'.stale = c.stale := by rfl)
    (u : c'.used = c.used := by rfl) : Tracks it c c' := ⟨q, n, x, g, .inl u⟩

section
variable (ctx : ChanCtx) {c : Channel} {r : Run}

/-! ### Learning and faults -/

theorem tracks_completeLearning (p : Option Pair) (h : Tracks ctx.items c r.chan) :
    Tracks ctx.items c (completeLearning ctx p r).chan := by
  refine h.trans ?_
  simp only [completeLearning]
  split
  · split
    · split <;> exact tracks_of_gain id
    · refine ⟨?_, ?_, ?_, ?_, .inr ⟨_, rfl⟩⟩ <;> split <;> first | rfl | exact id
  · split <;> exact tracks_of_gain id

theorem tracks_indexEvent (w : Wrap) (p : Option Pair) (h : Tracks ctx.items c r.chan) :
    Tracks ctx.items c (indexEvent ctx w p r).chan := by
  unfold indexEvent
  split
  · exact h
  · exact h.trans (tracks_of_gain id)
  · exact h
  · exact tracks_completeLearning ctx p h
  · exact h.trans (tracks_of_gain id)

theorem tracks_faultLearning (h : Tracks ctx.items c r.chan) : Tracks ctx.items c (faultLearning ctx r).chan := by
  unfold faultLearning
  split
  · exact h
  · exact h.trans (tracks_of_gain id)

theorem tracks_enterFault (cause : Cause) (h : Tracks ctx.items c r.chan) : Tracks ctx.items c (enterFault ctx cause r).chan :=
  tracks_faultLearning ctx (h.trans (tracks_of_gain id))

/-! ### The phase and the loop -/

theorem tracks_carryPhase (raw : Int) {b : Channel} (h : Tracks ctx.items c b) :
    Tracks ctx.items c (carryPhase ctx raw b) := by
  refine h.trans ?_
  unfold carryPhase
  split <;> exact tracks_of_gain id

theorem tracks_coastStep (h : Tracks ctx.items c r.chan) : Tracks ctx.items c (coastStep ctx r).chan := by
  have carried := tracks_carryPhase ctx (r.chan.phase + r.chan.speed) h
  simp only [coastStep]
  split
  · exact tracks_indexEvent ctx _ none carried
  · exact carried

theorem tracks_coast (n : Nat) (h : Tracks ctx.items c r.chan) : Tracks ctx.items c (coast ctx n r).chan := by
  induction n generalizing r with
  | zero => exact h
  | succ n ih => exact ih (tracks_coastStep ctx h)

/-- Gain scheduling moves the level inside its range (R22, R23). -/
theorem tracks_schedule (it : ChannelItems) (e : Int) {b : Channel} (h : Tracks it c b) : Tracks it c (schedule it e b) := by
  refine h.trans ?_
  unfold schedule
  split
  · split
    · exact tracks_of_gain (fun _ => by simp only; omega)
    · split
      · exact tracks_of_gain (fun _ => by simp only; omega)
      · exact .refl _ _
  · split
    · exact tracks_of_gain (fun _ => by simp only; omega)
    · exact .refl _ _

theorem tracks_settleStage (it : ChannelItems) (e : Int) {b : Channel} (h : Tracks it c b) :
    Tracks it c (settleStage it e b) := by
  refine h.trans ?_
  unfold settleStage
  split
  · split
    · simp only
      split <;> exact tracks_of_gain id
    · split <;> exact tracks_of_gain id
  · exact .refl _ _

theorem tracks_loopUpdate (p : Pair) (theta : Int) (h : Tracks ctx.items c r.chan) :
    Tracks ctx.items c (loopUpdate ctx p theta r).chan := by
  have moved (raw w e : Int) : Tracks ctx.items c
      (settleStage ctx.items e (schedule ctx.items e { carryPhase ctx raw r.chan with speed := w })) :=
    tracks_settleStage _ e (tracks_schedule _ e ((tracks_carryPhase ctx raw h).trans (tracks_of_gain id)))
  have folded (q : Run) (k : Tracks ctx.items c q.chan) : Tracks ctx.items c
      (if q.chan.learn = .gathering then { q with chan := { q.chan with acc := foldPair p q.chan.acc } } else q).chan := by
    split
    · exact k.trans (tracks_of_gain id)
    · exact k
  simp only [loopUpdate]
  split
  · exact tracks_indexEvent ctx _ _ (folded _ (moved _ _ _))
  · exact folded _ (moved _ _ _)

/-! ### Acquisition, and a whole frame -/

theorem tracks_acquire (p : Pair) (theta : Int) (h : Tracks ctx.items c r.chan) :
    Tracks ctx.items c (acquire ctx p theta r).chan := by
  refine h.trans ?_
  simp only [acquire, Run.say]
  split
  · exact tracks_of_gain (fun _ => by simp only; omega)
  · exact tracks_of_gain id

theorem tracks_tryAcquire (d : SampleData) (h : Tracks ctx.items c r.chan) :
    Tracks ctx.items c (tryAcquire ctx d r).chan := by
  simp only [tryAcquire]
  split
  · exact tracks_enterFault ctx _ h
  · split
    · exact tracks_enterFault ctx _ h
    · exact tracks_acquire ctx _ _ h

theorem tracks_tryRecover (d : SampleData) (h : Tracks ctx.items c r.chan) :
    Tracks ctx.items c (tryRecover ctx d r).chan := by
  unfold tryRecover
  split
  · exact tracks_enterFault ctx _ h
  · exact tracks_acquire ctx _ _ h

theorem tracks_acceptPair (p : Pair) (h : Tracks ctx.items c r.chan) : Tracks ctx.items c (acceptPair ctx p r).chan := by
  have stored := h.trans (tracks_of_gain (c' :=
    { r.chan with stuckCount := stuckNext r.chan p, last := some p, second := r.chan.last, rejects := 0 }) id)
  simp only [acceptPair]
  split
  · exact tracks_enterFault ctx _ stored
  · split
    · exact tracks_enterFault ctx _ stored
    · exact tracks_loopUpdate ctx p _ stored

theorem tracks_trackPair (d : SampleData) (h : Tracks ctx.items c r.chan) : Tracks ctx.items c (trackPair ctx d r).chan := by
  simp only [trackPair]
  split
  · exact tracks_enterFault ctx _ h
  · split
    · exact tracks_acceptPair ctx _ (r := r.say _) h
    · split
      · exact (tracks_coastStep ctx h).trans (tracks_of_gain id)
      · exact tracks_acceptPair ctx _ h

/-- What a delivered frame that is no duplicate does to its channel, its arrival recorded (R4, R5). -/
theorem tracks_takeSample (d : SampleData) (c : Channel) (h : seqGap c d.sequence.toNat ≠ some 0) :
    Tracks ctx.items (arrive d.sequence.toNat c) (takeSample ctx d c).run.chan := by
  have arrived := Tracks.refl ctx.items (arrive d.sequence.toNat c)
  simp only [takeSample, if_neg h]
  split
  · exact tracks_tryAcquire ctx d arrived
  · exact tracks_tryRecover ctx d arrived
  all_goals
    split
    · exact tracks_tryAcquire ctx d arrived
    · exact tracks_trackPair ctx d (tracks_coast ctx _ arrived)

end

end Sys2Proof.Machine
end

section
/-! SUPPORT. Which commands leave items, tables and channels as they were: one lemma for each operation that a command is made of. -/

namespace Sys2Proof.Machine

/-- Items, tables and channels stand. -/
structure ConfigKept (s t : State) : Prop where
  items : t.items = s.items
  tables : t.tables = s.tables
  tru : t.tru = s.tru

theorem ConfigKept.refl (s : State) : ConfigKept s s := ⟨rfl, rfl, rfl⟩

theorem ConfigKept.trans {a b c : State} (h : ConfigKept a b) (k : ConfigKept b c) : ConfigKept a c :=
  ⟨k.items.trans h.items, k.tables.trans h.tables, k.tru.trans h.tru⟩

theorem Reacts.configKept {s t : State} (h : Reacts s t) : ConfigKept s t := ⟨h.items, h.tables, h.tru⟩

theorem HandsOff.configKept {s t : State} (h : HandsOff s t) : ConfigKept s t := ⟨h.items, h.tables, h.tru⟩

theorem ConfigKept.same {s t : State} (h : ConfigKept s t) : SameConfig s t := ⟨h.items, h.tables⟩

theorem ConfigKept.chan {s t : State} (h : ConfigKept s t) (a : Axis) : t.chan a = s.chan a := by
  simp only [State.chan, h.tru]

section
variable {s u : State}

/-! ### Reports, moves and the transmit queue -/

theorem configKept_report (rs : List Report) (h : ConfigKept s u) : ConfigKept s (report rs u) :=
  h.trans (reacts_report rs u).configKept

theorem configKept_settleMove {m : Move} (h : ConfigKept s m.1) : ConfigKept s (settleMove m) :=
  configKept_report m.2 h

theorem configKept_withWsq (s : State) (w : Wsq) : ConfigKept s (s.withWsq w) := ⟨rfl, rfl, rfl⟩

theorem configKept_withSwu (s : State) (x : Swu) : ConfigKept s (s.withSwu x) := ⟨rfl, rfl, rfl⟩

theorem configKept_force (h : ConfigKept s u) : ConfigKept s (force u) := h.trans (reacts_force u).configKept

theorem configKept_offerForwarded (bs : Bytes) (h : ConfigKept s u) : ConfigKept s (offerForwarded bs u) := by
  rw [offerForwarded_lpu]
  exact h.trans ⟨rfl, rfl, rfl⟩

theorem configKept_offerInserted (bs : Bytes) (h : ConfigKept s u) : ConfigKept s (offerInserted bs u) := by
  rw [offerInserted_lpu]
  exact h.trans ⟨rfl, rfl, rfl⟩

theorem configKept_offerState (h : ConfigKept s u) : ConfigKept s (offerState u) := by
  have k := configKept_offerInserted (stateFrame u) h
  simp only [offerState]
  split
  · exact k.trans ⟨rfl, rfl, rfl⟩
  · exact k

/-- A response leaves items, tables and channels as its serving left them. -/
theorem configKept_respond (r : Req) (code : Nat) {p : Reply} (h : ConfigKept s p.state) : ConfigKept s (respond r code p) :=
  configKept_offerInserted _ h

/-! ### CAB -/

theorem configKept_takeConfirm (pressed : Bool) (s : State) : ConfigKept s (takeConfirm pressed s) := by
  simp only [takeConfirm]
  split
  · exact (handsOff_withPos s _).configKept.trans (handsOff_confirmHeading _).configKept
  · exact ⟨rfl, rfl, rfl⟩

theorem configKept_walkRequest (s : State) : ConfigKept s (walkRequest s).1 := by
  have forced (w : Wsq) : ConfigKept s (force (s.withWsq w)) := configKept_force ⟨rfl, rfl, rfl⟩
  simp only [walkRequest]
  split
  · exact .refl s
  · split
    · exact (forced _).trans (reacts_openDrag _).configKept
    · exact forced _

theorem configKept_walkEdge (s : State) : ConfigKept s (walkEdge s).1 := by
  unfold walkEdge
  split
  · exact configKept_walkRequest s
  all_goals exact ⟨rfl, rfl, rfl⟩

theorem configKept_takeSelector (sel : Selector) (s : State) : ConfigKept s (takeSelector sel s).1 := by
  have held : ConfigKept s (s.withWsq { s.wsq with selector := some sel }) := ⟨rfl, rfl, rfl⟩
  simp only [takeSelector]
  split
  · exact held.trans (configKept_walkEdge _)
  · exact held.trans (reacts_digEdge _).configKept
  · exact held

theorem configKept_acknowledged (ns : List Nat) (s : State) : ConfigKept s (acknowledged ns s) :=
  configKept_report [] ⟨rfl, rfl, rfl⟩

theorem configKept_takeAckPush (pressed : Bool) (s : State) : ConfigKept s (takeAckPush pressed s) := by
  have held : ConfigKept s (s.withAlu { s.alu with lastAck := some pressed }) := ⟨rfl, rfl, rfl⟩
  simp only [takeAckPush]
  split
  · exact held.trans (configKept_acknowledged _ _)
  · exact held

theorem configKept_takeResetPush (pressed : Bool) (s : State) : ConfigKept s (takeResetPush pressed s) := by
  simp only [takeResetPush]
  split <;> exact ⟨rfl, rfl, rfl⟩

theorem configKept_takeCab (selector pushes : Word) (s : State) : ConfigKept s (takeCab selector pushes s) :=
  (((configKept_takeConfirm _ s).trans (configKept_settleMove (configKept_takeSelector _ _))).trans
    (configKept_takeAckPush _ _)).trans (configKept_takeResetPush _ _)

/-! ### COMMAND -/

theorem configKept_commandArrives (g : Axis) (s : State) : ConfigKept s (commandArrives g s) := by
  simp only [commandArrives]
  split
  · exact configKept_report _ ⟨rfl, rfl, rfl⟩
  · exact ⟨rfl, rfl, rfl⟩

theorem configKept_takeLever (g : Axis) (v : Int) (s : State) : ConfigKept s (takeLever g v s) := by
  simp only [takeLever]
  split <;> exact ⟨rfl, rfl, rfl⟩

theorem configKept_tryActivate (g : Axis) (v : Int) (s : State) : ConfigKept s (tryActivate g v s) := by
  unfold tryActivate activate
  split
  · cases g <;> exact ⟨rfl, rfl, rfl⟩
  · exact .refl s

theorem configKept_walkLever (v : Int) (s : State) : ConfigKept s (walkLever v s) := by
  simp only [walkLever]
  split
  · split
    · split
      · exact configKept_settleMove ((configKept_withWsq s _).trans (reacts_park _).configKept)
      · exact ⟨rfl, rfl, rfl⟩
    · exact ⟨rfl, rfl, rfl⟩
  · exact .refl s

theorem configKept_glideSwing (s : State) : ConfigKept s (glideSwing s) := ⟨rfl, rfl, rfl⟩

theorem configKept_shapeRest (g : Axis) (v : Int) (s : State) : ConfigKept s (shapeRest g v s).state := by
  simp only [shapeRest, recordCaps]
  split <;> exact ⟨rfl, rfl, rfl⟩

theorem configKept_shapeOwn (g : Axis) (v : Int) (s : State) : ConfigKept s (shapeOwn g v s).state := by
  have active := configKept_tryActivate g v s
  cases g
  · exact active.trans (configKept_shapeRest _ _ _)
  · exact active.trans (configKept_shapeRest _ _ _)
  · exact (active.trans (configKept_glideSwing _)).trans (configKept_shapeRest _ _ _)
  · exact (active.trans (configKept_walkLever _ _)).trans (configKept_shapeRest _ _ _)

theorem configKept_shape (g : Axis) (lever : Word) (s : State) : ConfigKept s (shape g lever s).state := by
  have taken := (configKept_commandArrives g s).trans (configKept_takeLever g (frameLever g lever s) _)
  simp only [shape]
  split
  · exact taken.trans ⟨rfl, rfl, rfl⟩
  · exact taken.trans (configKept_shapeOwn _ _ _)

theorem configKept_takeCommand (l : Link) (group lever : Word) (s : State) : ConfigKept s (takeCommand l group lever s) := by
  unfold takeCommand
  split
  · exact configKept_offerForwarded _ (configKept_report _ (configKept_shape _ _ s))
  · exact configKept_offerForwarded _ (.refl s)

/-! ### DISCRETE, DRIVE_STATUS and the marker -/

theorem configKept_takeInputs (inputs : BitVec 32) (s : State) : ConfigKept s (takeInputs inputs s).1 := by
  simp only [takeInputs]
  split
  · exact ⟨rfl, rfl, rfl⟩
  · split <;> exact ⟨rfl, rfl, rfl⟩

theorem configKept_takeDiscreteFrame (src : Byte) (low high : Word) (s : State) :
    ConfigKept s (takeDiscreteFrame src low high s) := by
  have loaded (d : Dgu) (i : BitVec 32) : ConfigKept s (settleMove (takeInputs i (s.withDgu d))) :=
    configKept_settleMove ((handsOff_withDgu s d).configKept.trans (configKept_takeInputs i _))
  simp only [takeDiscreteFrame, takeDiscrete]
  split
  · exact configKept_report _ ((loaded _ _).trans (handsOff_takeMarks _ _).configKept)
  · exact .refl s

theorem configKept_takeDriveStatus (src : Nat) (x : DriveData) (s : State) : ConfigKept s (takeDriveStatus src x s) := by
  simp only [takeDriveStatus]
  split
  · exact (handsOff_withDgu s _).configKept.trans (handsOff_handDrives [] _).configKept
  · exact .refl s

theorem configKept_takeNumber (number : Word) (s : State) : ConfigKept s (takeNumber number s) := by
  simp only [takeNumber]
  split
  · exact configKept_report _ ⟨rfl, rfl, rfl⟩
  · exact ⟨rfl, rfl, rfl⟩

theorem configKept_lossMarker (g : Axis) (s : State) : ConfigKept s (lossMarker g s) := by
  simp only [lossMarker]
  split
  · exact configKept_report _ ⟨rfl, rfl, rfl⟩
  · exact ⟨rfl, rfl, rfl⟩

/-- The shapers' and the SWU's marker work, after that of the channels and the DGU. -/
theorem configKept_lossMarkers (gs : List Axis) (s : State) : ConfigKept s (gs.foldl (fun s g => lossMarker g s) s) := by
  induction gs generalizing s with
  | nil => exact .refl s
  | cons g gs ih => exact (configKept_lossMarker g s).trans (ih _)

/-! ### Bad frames and silence -/

theorem configKept_takeBad (reason : Nat) (bs : Bytes) (s : State) : ConfigKept s (takeBad reason bs s) := by
  simp only [takeBad]
  refine configKept_offerForwarded _ (configKept_report _ ?_)
  split <;> exact ⟨rfl, rfl, rfl⟩

theorem configKept_expireTimer (s : State) : ConfigKept s (expireTimer s) := by
  simp only [expireTimer]
  split
  · exact ⟨rfl, rfl, rfl⟩
  · exact configKept_report _ ⟨rfl, rfl, rfl⟩

end

end Sys2Proof.Machine
end

section
/-! SUPPORT. The gain level and the correction values of a channel stay in their ranges (R11, R23) through every command: what each write,
marker, frame and reset does to the two ranges, and from it that every step keeps them. -/

namespace Sys2Proof.Machine

/-! ### The two ranges of one channel -/

/-- A gain level within the levels of the channel's items, and these not above 7 (R23). -/
def GainWithin (it : ChannelItems) (c : Channel) : Prop := it.gainLow ≤ c.gain ∧ c.gain ≤ it.gainHigh ∧ it.gainHigh ≤ 7

/-- Values in use and fixed items within the correction ranges, the limits not negative (R11). -/
def CorrectionWithin (it : ChannelItems) (c : Channel) : Prop :=
  0 ≤ it.offsetLimit ∧ 0 ≤ it.gainLimit ∧ InCorrectionRange it c.used ∧ InCorrectionRange it ⟨it.fixedSin, it.fixedCos, it.fixedGain⟩

theorem gainOk_iff (s : State) : GainOk s ↔ ∀ a, GainWithin (s.items.channels.get a) (s.chan a) := Iff.rfl

theorem correctionOk_iff (s : State) : CorrectionOk s ↔ ∀ a, CorrectionWithin (s.items.channels.get a) (s.chan a) := Iff.rfl

/-- Both ranges survive a change of a channel's items and record. -/
structure KeepsRanges (it : ChannelItems) (c : Channel) (it' : ChannelItems) (c' : Channel) : Prop where
  gain : GainWithin it c → GainWithin it' c'
  correction : CorrectionWithin it c → CorrectionWithin it' c'

theorem gainSpan_nonneg {it : ChannelItems} (h : 0 ≤ it.gainLimit) : 0 ≤ gainSpan it :=
  Int.tdiv_nonneg (by omega) (by decide)

theorem clampOffset_mem {it : ChannelItems} (h : 0 ≤ it.offsetLimit) (v : Int) :
    -it.offsetLimit ≤ clampOffset it v ∧ clampOffset it v ≤ it.offsetLimit := by
  simp only [clampOffset, clamp]
  omega

theorem clampGain_mem {it : ChannelItems} (h : 0 ≤ it.gainLimit) (v : Int) :
    1024 - gainSpan it ≤ clampGain it v ∧ clampGain it v ≤ 1024 + gainSpan it := by
  have := gainSpan_nonneg h
  simp only [clampGain, clamp]
  omega

/-- Clamped values lie in the correction ranges (R11). -/
theorem clampCorrection_mem {it : ChannelItems} (ho : 0 ≤ it.offsetLimit) (hg : 0 ≤ it.gainLimit) (k : Correction) :
    InCorrectionRange it (clampCorrection it k) :=
  have so := clampOffset_mem ho k.so
  have co := clampOffset_mem ho k.co
  have g := clampGain_mem hg k.g
  ⟨so.1, so.2, co.1, co.2, g⟩

/-- The values a mode puts in use lie in the correction ranges with the fixed items (R2, R10). -/
theorem initialCorrection_mem {it : ChannelItems} (ho : 0 ≤ it.offsetLimit) (hg : 0 ≤ it.gainLimit)
    (hf : InCorrectionRange it ⟨it.fixedSin, it.fixedCos, it.fixedGain⟩) : InCorrectionRange it it.initialCorrection := by
  have := gainSpan_nonneg hg
  unfold ChannelItems.initialCorrection
  split
  · simp only [InCorrectionRange]; omega
  · exact hf

/-! ### Channels, resets and writes -/

/-- The stages of a frame keep both ranges. -/
theorem Tracks.keepsRanges {it : ChannelItems} {c c' : Channel} (h : Tracks it c c') : KeepsRanges it c it c' where
  gain := fun ⟨lo, hi, top⟩ =>
    have k := h.gain ⟨lo, hi⟩
    ⟨k.1, k.2, top⟩
  correction := fun ⟨ho, hg, hu, hf⟩ => by
    refine ⟨ho, hg, ?_, hf⟩
    rcases h.used with e | ⟨k, e⟩ <;> rw [e]
    · exact hu
    · exact clampCorrection_mem ho hg k

/-- A change that writes none of the fields the ranges are about. -/
theorem keepsRanges_of_same {it it' : ChannelItems} {c c' : Channel} (g : c'.gain = c.gain := by rfl)
    (u : c'.used = c.used := by rfl) (lo : it'.gainLow = it.gainLow := by rfl) (hi : it'.gainHigh = it.gainHigh := by rfl)
    (ol : it'.offsetLimit = it.offsetLimit := by rfl) (gl : it'.gainLimit = it.gainLimit := by rfl)
    (fs : it'.fixedSin = it.fixedSin := by rfl) (fc : it'.fixedCos = it.fixedCos := by rfl)
    (fg : it'.fixedGain = it.fixedGain := by rfl) : KeepsRanges it c it' c' := by
  constructor
  · simp only [GainWithin, g, lo, hi]; exact id
  · simp only [CorrectionWithin, InCorrectionRange, gainSpan, u, ol, gl, fs, fc, fg]; exact id

/-- A reset leaves a channel with the highest gain and the values of its mode (R2). -/
theorem keepsRanges_reset (it : ChannelItems) (c : Channel) : KeepsRanges it c it (Channel.reset it) where
  gain := fun ⟨lo, hi, top⟩ => ⟨lo.trans hi, le_rfl, top⟩
  correction := fun ⟨ho, hg, _, hf⟩ => ⟨ho, hg, initialCorrection_mem ho hg hf, hf⟩

/-- A mode written (R10). -/
theorem keepsRanges_setCorrectionMode (it : ChannelItems) (m : CorrectionMode) (c : Channel) :
    KeepsRanges it c { it with correctionMode := m } (setCorrectionMode { it with correctionMode := m } c) := by
  have used : (setCorrectionMode { it with correctionMode := m } c).used
      = ({ it with correctionMode := m } : ChannelItems).initialCorrection := by
    simp only [setCorrectionMode]; split <;> rfl
  have gain : (setCorrectionMode { it with correctionMode := m } c).gain = c.gain := by
    simp only [setCorrectionMode]; split <;> rfl
  constructor
  · simp only [GainWithin, gain]; exact id
  · rintro ⟨ho, hg, -, hf⟩
    exact ⟨ho, hg, by rw [used]; exact initialCorrection_mem (it := { it with correctionMode := m }) ho hg hf, hf⟩

/-- New limits, with the fixed items and the values in use brought into their ranges (R11). -/
theorem keepsRanges_limits (it it' : ChannelItems) (c : Channel)
    (lo : it'.gainLow = it.gainLow) (hi : it'.gainHigh = it.gainHigh)
    (limits : 0 ≤ it.offsetLimit → 0 ≤ it.gainLimit → 0 ≤ it'.offsetLimit ∧ 0 ≤ it'.gainLimit) :
    KeepsRanges it c
      { it' with
        fixedSin := clampOffset it' it'.fixedSin, fixedCos := clampOffset it' it'.fixedCos
        fixedGain := clampGain it' it'.fixedGain }
      { c with used := clampCorrection it' c.used } where
  gain := by simp only [GainWithin, lo, hi]; exact id
  correction := fun ⟨ho, hg, _, _⟩ =>
    have ⟨ho', hg'⟩ := limits ho hg
    ⟨ho', hg', clampCorrection_mem ho' hg' c.used, clampCorrection_mem ho' hg' ⟨it'.fixedSin, it'.fixedCos, it'.fixedGain⟩⟩

/-- Gain levels written in order, the gain level brought between them (R23). -/
theorem keepsRanges_clampGainLevel (it it' : ChannelItems) (c : Channel)
    (levels : it.gainLow ≤ it.gainHigh → it.gainHigh ≤ 7 → it'.gainLow ≤ it'.gainHigh ∧ it'.gainHigh ≤ 7)
    (same : CorrectionWithin it c → CorrectionWithin it' c) : KeepsRanges it c it' (clampGainLevel it' c) := by
  constructor
  · rintro ⟨lo, hi, top⟩
    obtain ⟨order, top'⟩ := levels (lo.trans hi) top
    simp only [GainWithin, clampGainLevel]
    split
    · simp only [clampNat]; omega
    · simp only; split <;> omega
  · have used : (clampGainLevel it' c).used = c.used := by unfold clampGainLevel; split <;> rfl
    intro h
    simpa only [CorrectionWithin, used] using same h

/-! ### The whole device -/

/-- Both ranges survive in every channel. -/
def RangesKept (s t : State) : Prop := ∀ a, KeepsRanges (s.items.channels.get a) (s.chan a) (t.items.channels.get a) (t.chan a)

theorem RangesKept.trans {a b c : State} (h : RangesKept a b) (k : RangesKept b c) : RangesKept a c :=
  fun x => ⟨fun y => (k x).gain ((h x).gain y), fun y => (k x).correction ((h x).correction y)⟩

theorem rangesKept_of_same {s t : State} (i : t.items.channels = s.items.channels) (c : t.tru = s.tru) : RangesKept s t := by
  intro a
  simp only [State.chan, i, c]
  exact ⟨id, id⟩

theorem ConfigKept.rangesKept {s t : State} (h : ConfigKept s t) : RangesKept s t :=
  rangesKept_of_same (by rw [h.items]) h.tru

theorem HandsOff.rangesKept {s t : State} (h : HandsOff s t) : RangesKept s t := h.configKept.rangesKept

/-- One channel's items and record replaced. -/
theorem rangesKept_setChannel (s : State) (a : Axis) {it' : ChannelItems} {c' : Channel}
    (h : KeepsRanges (s.items.channels.get a) (s.chan a) it' c') : RangesKept s ((setChannelItems a it' s).setChan a c') := by
  intro b
  by_cases e : b = a
  · subst e; simpa [setChannelItems] using h
  · rw [State.setChan_other _ _ e]
    simp only [setChannelItems, State.setChan_items, State.withItems_items, PerAxis.get_set_other _ _ e]
    exact ⟨id, id⟩

theorem rangesKept_setChannelItems (s : State) (a : Axis) {it' : ChannelItems}
    (h : KeepsRanges (s.items.channels.get a) (s.chan a) it' (s.chan a)) : RangesKept s (setChannelItems a it' s) := by
  have k := rangesKept_setChannel s a h
  rwa [show (setChannelItems a it' s).setChan a (s.chan a) = setChannelItems a it' s by
    simp [setChannelItems, State.setChan, State.withTru, State.withItems, State.chan]] at k

theorem rangesKept_setChan (s : State) (a : Axis) {c' : Channel}
    (h : KeepsRanges (s.items.channels.get a) (s.chan a) (s.items.channels.get a) c') : RangesKept s (s.setChan a c') := by
  have k := rangesKept_setChannel s a h
  rwa [show setChannelItems a (s.items.channels.get a) s = s by simp [setChannelItems, State.withItems]] at k

end Sys2Proof.Machine
end

section
/-! SUPPORT. Writes, SAMPLE frames and the CYCLE marker keep the gain level and the correction values of each channel in their ranges. -/

namespace Sys2Proof.Machine

/-! ### Writes -/

theorem clamp_mem {lo hi : Int} (h : lo ≤ hi) (v : Int) : lo ≤ clamp lo hi v ∧ clamp lo hi v ≤ hi := by
  simp only [clamp]; omega

theorem rangesKept_report (rs : List Report) (s : State) : RangesKept s (report rs s) :=
  (reacts_report rs s).configKept.rangesKept

theorem rangesKept_applyLimits (a : Axis) (it' : ChannelItems) (s : State)
    (lo : it'.gainLow = (s.items.channels.get a).gainLow) (hi : it'.gainHigh = (s.items.channels.get a).gainHigh)
    (limits : 0 ≤ (s.items.channels.get a).offsetLimit → 0 ≤ (s.items.channels.get a).gainLimit →
      0 ≤ it'.offsetLimit ∧ 0 ≤ it'.gainLimit) : RangesKept s (applyLimits a it' s) :=
  rangesKept_setChannel s a (keepsRanges_limits _ it' _ lo hi limits)

/-- A fixed item stored within its range, and in FIXED mode in use (R10, R11). -/
theorem rangesKept_applyFixed (a : Axis) (it' : ChannelItems) (s : State)
    (lo : it'.gainLow = (s.items.channels.get a).gainLow) (hi : it'.gainHigh = (s.items.channels.get a).gainHigh)
    (ol : it'.offsetLimit = (s.items.channels.get a).offsetLimit) (gl : it'.gainLimit = (s.items.channels.get a).gainLimit)
    (fixed : CorrectionWithin (s.items.channels.get a) (s.chan a) → InCorrectionRange it' ⟨it'.fixedSin, it'.fixedCos, it'.fixedGain⟩) :
    RangesKept s (applyFixed a it' s) := by
  have within (u : Correction) (hu : CorrectionWithin (s.items.channels.get a) (s.chan a) → InCorrectionRange it' u) :
      KeepsRanges (s.items.channels.get a) (s.chan a) it' { s.chan a with used := u } :=
    { gain := by simp only [GainWithin, lo, hi]; exact id
      correction := fun h => ⟨by rw [ol]; exact h.1, by rw [gl]; exact h.2.1, hu h, fixed h⟩ }
  simp only [applyFixed]
  split
  · exact rangesKept_setChannel s a (within _ fixed)
  · refine rangesKept_setChannelItems s a (within (s.chan a).used ?_)
    rintro ⟨-, -, hu, -⟩
    simpa only [InCorrectionRange, gainSpan, ol, gl] using hu

theorem rangesKept_applyGainMode (a : Axis) (m : GainMode) (s : State) :
    RangesKept s (applyGainMode a { s.items.channels.get a with gainMode := m } s) := by
  simp only [applyGainMode]
  split
  · refine rangesKept_setChannel s a ⟨?_, id⟩
    rintro ⟨lo, hi, top⟩
    exact ⟨le_rfl, lo.trans hi, top⟩
  · exact rangesKept_setChannelItems s a keepsRanges_of_same

/-- Every write of a channel item keeps both ranges. -/
theorem rangesKept_writeChannel (n : Nat) (a : Axis) (w : Word) (s : State) : RangesKept s (writeChannel n a w s).1 := by
  have plain (it' : ChannelItems) (h : KeepsRanges (s.items.channels.get a) (s.chan a) it' (s.chan a)) :=
    rangesKept_setChannelItems s a h
  simp only [writeChannel]
  split
  case h_4 => exact rangesKept_setChannel s a (keepsRanges_setCorrectionMode _ _ _)
  case h_5 =>
    refine rangesKept_applyFixed a _ s rfl rfl rfl rfl ?_
    rintro ⟨ho, -, -, -, -, hf⟩
    exact ⟨(clampOffset_mem ho _).1, (clampOffset_mem ho _).2, hf⟩
  case h_6 =>
    refine rangesKept_applyFixed a _ s rfl rfl rfl rfl ?_
    rintro ⟨ho, -, -, slo, shi, -, -, hf⟩
    exact ⟨slo, shi, (clampOffset_mem ho _).1, (clampOffset_mem ho _).2, hf⟩
  case h_7 =>
    refine rangesKept_applyFixed a _ s rfl rfl rfl rfl ?_
    rintro ⟨-, hg, -, slo, shi, clo, chi, -⟩
    exact ⟨slo, shi, clo, chi, clampGain_mem hg _⟩
  case h_8 => exact rangesKept_applyLimits a _ s rfl rfl (fun _ hg => ⟨(clamp_mem (by decide) _).1, hg⟩)
  case h_9 => exact rangesKept_applyLimits a _ s rfl rfl (fun ho _ => ⟨ho, (clamp_mem (by decide) _).1⟩)
  case h_11 => exact (rangesKept_setChannel s a keepsRanges_of_same).trans (rangesKept_report _ _)
  case h_12 => exact rangesKept_applyGainMode a _ s
  case h_13 =>
    refine rangesKept_setChannel s a (keepsRanges_clampGainLevel _ _ _ (fun _ top => ⟨?_, top⟩) id)
    simp only [clampTo, clamp]; omega
  case h_14 =>
    refine rangesKept_setChannel s a (keepsRanges_clampGainLevel _ _ _ (fun _ _ => ?_) id)
    simp only [clampTo, clamp]; omega
  all_goals exact plain _ keepsRanges_of_same

theorem rangesKept_setSwingGear (v : Int) (s : State) : RangesKept s (setSwingGear v s) := by
  simp only [setSwingGear]
  split
  · exact rangesKept_of_same rfl rfl
  · have geared : RangesKept s (s.withItems { s.items with swingGear := v }) := rangesKept_of_same rfl rfl
    exact ((geared.trans (rangesKept_setChan _ .swing keepsRanges_of_same)).trans (handsOff_withPos _ _).rangesKept).trans
      (handsOff_updateHouse _ _).rangesKept

theorem rangesKept_setRopeK (d : Drum) (v : Int) (s : State) : RangesKept s (setRopeK d v s) := by
  simp only [setRopeK]
  split
  · exact rangesKept_of_same rfl rfl
  · exact RangesKept.trans (b := s.withItems { s.items with ropeK := s.items.ropeK.set d v }) (rangesKept_of_same rfl rfl)
      ((handsOff_withPos _ _).trans (handsOff_updateDrum d _)).rangesKept

theorem rangesKept_setCamZero (v : Int) (s : State) : RangesKept s (setCamZero v s) :=
  RangesKept.trans (b := s.withItems { s.items with camZero := v }) (rangesKept_of_same rfl rfl) (handsOff_updateCam _).rangesKept

theorem rangesKept_setPitHeading (v : Int) (s : State) : RangesKept s (setPitHeading v s) :=
  RangesKept.trans (b := s.withItems { s.items with pitHeading := v }) (rangesKept_of_same rfl rfl)
    (((handsOff_withPos _ _).trans (handsOff_report _ _)).trans (handsOff_updateHouse _ _)).rangesKept

theorem rangesKept_writePart (n : Nat) (w : Word) (s : State) : RangesKept s (writePart n w s).1 := by
  simp only [writePart]
  split
  case h_4 => exact rangesKept_setSwingGear _ s
  case h_5 => exact rangesKept_setRopeK .hoist _ s
  case h_6 => exact rangesKept_setRopeK .drag _ s
  case h_10 => exact rangesKept_setCamZero _ s
  case h_11 => exact rangesKept_setPitHeading _ s
  all_goals exact rangesKept_of_same rfl rfl

theorem rangesKept_writeGroup (n : Nat) (g : Axis) (w : Word) (s : State) : RangesKept s (writeGroup n g w s).1 := by
  simp only [writeGroup]
  split <;> exact rangesKept_of_same rfl rfl

/-- Every accepted write keeps both ranges. -/
theorem rangesKept_writeItem (sc : Scope) (n index : Nat) (w : Word) (s : State) : RangesKept s (writeItem sc n index w s).1 := by
  unfold writeItem
  split
  · exact rangesKept_writePart n w s
  · split
    · exact rangesKept_writeChannel n _ w s
    · exact rangesKept_of_same rfl rfl
  · split
    · exact rangesKept_writeGroup n _ w s
    · exact rangesKept_of_same rfl rfl
  all_goals exact rangesKept_of_same rfl rfl

/-! ### Frames and the marker -/

/-- A SAMPLE frame keeps both ranges (R4). -/
theorem rangesKept_takeSampleFrame (src : Byte) (d : SampleData) (s : State) : RangesKept s (takeSampleFrame src d s) := by
  simp only [takeSampleFrame]
  split
  · exact rangesKept_of_same rfl rfl
  · rename_i a _
    split
    · exact rangesKept_of_same rfl rfl
    · rename_i fresh
      have gap : seqGap (s.chan a) d.sequence.toNat ≠ some 0 := fun e => fresh (by simp [takeSample, e])
      have arrived : KeepsRanges (s.items.channels.get a) (s.chan a) (s.items.channels.get a)
          (arrive d.sequence.toNat (s.chan a)) := keepsRanges_of_same
      have staged := (tracks_takeSample (s.chanCtx a) d (s.chan a) gap).keepsRanges
      have served : KeepsRanges (s.items.channels.get a) (s.chan a) (s.items.channels.get a) _ :=
        ⟨fun x => staged.gain (arrived.gain x), fun x => staged.correction (arrived.correction x)⟩
      exact ((rangesKept_setChan s a served).trans (rangesKept_report _ _)).trans (handsOff_handOff _ _ _).rangesKept

/-- A marker changes a channel's note and stale count, and may put it in FAULT (R29). -/
theorem rangesKept_channelMarker (s : State) (a : Axis) : RangesKept s (channelMarker s a) := by
  have counted : Tracks (s.items.channels.get a) { s.chan a with stale := staleNext (s.chan a), note := false }
      (markChannel (s.chanCtx a) (s.chan a)).chan := by
    simp only [markChannel]
    split
    · exact tracks_enterFault (s.chanCtx a) .stale (.refl _ _)
    · exact .refl _ _
  have marked := rangesKept_setChan s a
    (KeepsRanges.mk (it := s.items.channels.get a) (c := s.chan a) counted.keepsRanges.gain counted.keepsRanges.correction)
  simp only [channelMarker]
  split
  · split
    · exact marked.trans (rangesKept_report _ _)
    · exact (marked.trans (rangesKept_report _ _)).trans (handsOff_handOff _ _ _).rangesKept
  · exact marked

theorem rangesKept_channelMarkers (as : List Axis) (s : State) : RangesKept s (as.foldl channelMarker s) := by
  induction as generalizing s with
  | nil => exact rangesKept_of_same rfl rfl
  | cons a as ih => exact (rangesKept_channelMarker s a).trans (ih _)

/-- The marker work of every block keeps both ranges (R171). -/
theorem rangesKept_markBeforeSeq (number : Word) (s : State) : RangesKept s (markBeforeSeq number s) := by
  have channels := (configKept_takeNumber number s).rangesKept.trans (rangesKept_channelMarkers Axis.all _)
  have drives := channels.trans (handsOff_driveMarker _).rangesKept
  have losses := drives.trans (configKept_lossMarkers Axis.all _).rangesKept
  exact losses.trans (configKept_withSwu _ _).rangesKept

theorem rangesKept_takeCycle (l : Link) (number : Word) (s : State) : RangesKept s (takeCycle l number s) := by
  have marked := (rangesKept_markBeforeSeq number s).trans (reacts_seqMarker _).configKept.rangesKept
  exact marked.trans (configKept_offerState (configKept_offerForwarded _ (.refl _))).rangesKept

end Sys2Proof.Machine
end

section
/-! Every command keeps the gain level and the correction values of each channel in their ranges: the tables, the requests and the resets,
then the whole dispatch, and from it O9 and O10. -/

namespace Sys2Proof.Machine

/-! ### Tables -/

/-- A table replaced. -/
theorem rangesKept_setTable (s : State) (i : TableId) (x : Table) : RangesKept s (s.setTable i x) := rangesKept_of_same rfl rfl

theorem rangesKept_windowsChanged (s : State) : RangesKept s (windowsChanged s) :=
  (configKept_withSwu s _).rangesKept.trans (rangesKept_report _ _)

theorem rangesKept_camTableChanged (s : State) : RangesKept s (camTableChanged s) := by
  simp only [camTableChanged]
  split <;> exact rangesKept_of_same rfl rfl

theorem rangesKept_severitiesChanged (old : Table) (s : State) : RangesKept s (severitiesChanged old s) :=
  (reacts_withAlu s _).configKept.rangesKept.trans (rangesKept_report [] _)

theorem rangesKept_leftLive (i : TableId) (old : Table) (s : State) : RangesKept s (leftLive i old s) := by
  unfold leftLive
  split
  · exact rangesKept_of_same rfl rfl
  · exact rangesKept_windowsChanged s
  · exact rangesKept_of_same rfl rfl
  · exact rangesKept_camTableChanged s
  · exact rangesKept_severitiesChanged old s
  all_goals exact rangesKept_of_same rfl rfl

theorem rangesKept_enteredLive (i : TableId) (old : Table) (s : State) : RangesKept s (enteredLive i old s) := by
  unfold enteredLive
  split
  · exact rangesKept_of_same rfl rfl
  · exact rangesKept_windowsChanged s
  · exact rangesKept_of_same rfl rfl
  · exact rangesKept_camTableChanged s
  · exact ((handsOff_withDgu s _).trans (handsOff_handDrives [] _)).rangesKept
  · exact rangesKept_severitiesChanged old s
  all_goals exact rangesKept_of_same rfl rfl

theorem rangesKept_dropTable (i : TableId) (new : Table) (s : State) : RangesKept s (dropTable i new s) := by
  simp only [dropTable]
  split
  · exact (rangesKept_setTable s i new).trans (rangesKept_leftLive i _ _)
  · exact rangesKept_setTable s i new

theorem rangesKept_dropT0With (i : TableId) (s : State) : RangesKept s (dropT0With i s) := by
  unfold dropT0With
  split
  · exact rangesKept_dropTable _ _ s
  · exact rangesKept_of_same rfl rfl

theorem rangesKept_abandonMembers (i : TableId) (s : State) : RangesKept s (abandonMembers i s) := by
  unfold abandonMembers
  split
  · exact ((handsOff_withDgu _ _).trans (handsOff_handDrives [] _)).rangesKept
  · exact rangesKept_of_same rfl rfl

/-! ### Requests -/

section
variable (s : State)

theorem rangesKept_refuse (x : Status) : RangesKept s (refuse s x).state := rangesKept_of_same rfl rfl

theorem rangesKept_serveRead (item index : Word) (count : Byte) : RangesKept s (serveRead item index count s).state := by
  simp only [serveRead]
  split
  · exact rangesKept_refuse s _
  · split
    · exact rangesKept_refuse s _
    · simp only
      split <;> exact rangesKept_of_same rfl rfl

theorem rangesKept_serveWrite (item index : Word) (values : List Word) : RangesKept s (serveWrite item index values s).state := by
  unfold serveWrite
  split
  · exact rangesKept_refuse s _
  · split
    · exact rangesKept_refuse s _
    · split
      · split
        · exact rangesKept_refuse s _
        · exact rangesKept_writeItem _ _ _ _ s
      · exact rangesKept_refuse s _

theorem rangesKept_serveOpen (table : Word) : RangesKept s (serveOpen table s).state := by
  unfold serveOpen
  split
  · exact rangesKept_refuse s _
  · split
    · exact rangesKept_refuse s _
    · split
      · exact rangesKept_of_same rfl rfl
      · exact (rangesKept_dropT0With _ s).trans (rangesKept_dropTable _ _ _)

theorem rangesKept_serveAbandon (table : Word) : RangesKept s (serveAbandon table s).state := by
  unfold serveAbandon
  split
  · exact rangesKept_refuse s _
  · split
    · exact rangesKept_refuse s _
    · exact ((rangesKept_dropT0With _ s).trans (rangesKept_dropTable _ _ _)).trans (rangesKept_abandonMembers _ _)

theorem rangesKept_serveClose (table : Word) : RangesKept s (serveClose table s).state := by
  unfold serveClose
  split
  · exact rangesKept_refuse s _
  · split
    · exact rangesKept_refuse s _
    · split
      · exact rangesKept_refuse s _
      · split
        · exact rangesKept_of_same rfl rfl
        · exact (rangesKept_setTable s _ _).trans (rangesKept_enteredLive _ _ _)

theorem rangesKept_serveLoad (table first : Word) (mode : Byte) (words : List Word) :
    RangesKept s (serveLoad table first mode words s).state := by
  unfold serveLoad
  split
  · exact rangesKept_refuse s _
  · split
    · exact rangesKept_refuse s _
    · split
      · exact rangesKept_refuse s _
      · split
        · exact rangesKept_refuse s _
        · simp only
          split
          · exact rangesKept_refuse s _
          · exact rangesKept_setTable s _ _

theorem rangesKept_serveReadTable (table first : Word) (count : Byte) :
    RangesKept s (serveReadTable table first count s).state := by
  unfold serveReadTable
  split
  · exact rangesKept_refuse s _
  · simp only
    split <;> exact rangesKept_of_same rfl rfl

theorem rangesKept_serveStart : RangesKept s (serveStart s).state := by
  unfold serveStart
  split
  · exact rangesKept_refuse s _
  · exact rangesKept_refuse s _
  · split <;> exact rangesKept_of_same rfl rfl

theorem rangesKept_serveStop : RangesKept s (serveStop s).state := by
  unfold serveStop
  split
  · exact (ConfigKept.trans (b := s.withMgu { s.mgu with mode := .standby }) ⟨rfl, rfl, rfl⟩
      (reacts_stopGroups Axis.all _).configKept).rangesKept
  · exact rangesKept_of_same rfl rfl
  · exact rangesKept_refuse s _

/-- Learning begins with the gain level and the values in use as they were (R12). -/
theorem rangesKept_serveLearn (channel : Word) : RangesKept s (serveLearn channel s).state := by
  unfold serveLearn
  split
  · exact rangesKept_refuse s _
  · split
    · exact rangesKept_setChan s _ keepsRanges_of_same
    · exact rangesKept_refuse s _

theorem rangesKept_zeroAxis (a : Axis) (v : Int) : RangesKept s (zeroAxis a v s) := by
  cases a
  case walk => exact rangesKept_setCamZero _ s
  case hoist => exact (handsOff_zeroAxis .hoist v s).rangesKept
  case drag => exact (handsOff_zeroAxis .drag v s).rangesKept
  case swing => exact (handsOff_zeroAxis .swing v s).rangesKept

theorem rangesKept_serveZero (channel : Word) (values : List Word) : RangesKept s (serveZero channel values s).state := by
  unfold serveZero
  split
  · exact rangesKept_refuse s _
  · split
    · exact rangesKept_refuse s _
    · split
      · exact rangesKept_refuse s _
      · split
        · exact rangesKept_refuse s _
        · exact rangesKept_zeroAxis s _ _

theorem rangesKept_serveForce (condition : Word) : RangesKept s (serveForce condition s).state := by
  simp only [serveForce]
  split
  · exact rangesKept_refuse s _
  · split
    · exact rangesKept_refuse s _
    · exact rangesKept_refuse s _
    · split
      · exact rangesKept_refuse s _
      · have acted (e : Effect) (x : Alu) := (reacts_withAlu s x).trans (reacts_aluAct e _)
        exact (configKept_settleMove ((acted _ _).trans (reacts_reactToGroups _)).configKept).rangesKept

theorem rangesKept_acknowledged (ns : List Nat) : RangesKept s (acknowledged ns s) := (configKept_acknowledged ns s).rangesKept

theorem rangesKept_serveAck (target : Word) : RangesKept s (serveAck target s).state := by
  simp only [serveAck]
  split
  · exact rangesKept_acknowledged s _
  · split
    · exact rangesKept_acknowledged s _
    · exact rangesKept_refuse s _

theorem rangesKept_serveReadAlarms (position : Word) (count : Byte) : RangesKept s (serveReadAlarms position count s).state := by
  simp only [serveReadAlarms]
  split
  · exact rangesKept_refuse s _
  · simp only
    split
    · exact rangesKept_of_same rfl rfl
    · exact rangesKept_acknowledged s _

/-! ### Frames, requests and resets as commands -/

variable {s} {t : State}

theorem rangesKept_goodFrameSeen (s : State) : RangesKept s (goodFrameSeen s) := rangesKept_of_same rfl rfl

theorem rangesKept_arrival (l : Link) (size : Nat) {body : State → State} (h : ∀ u, RangesKept u (body u)) :
    RangesKept s (arrival l size body s) := by
  unfold arrival
  split
  · exact (rangesKept_goodFrameSeen s).trans (h _)
  · exact rangesKept_of_same rfl rfl

theorem rangesKept_delivered (kind : Byte) (l : Link) (ws : List Word) {body : State → State} (h : ∀ u, RangesKept u (body u)) :
    RangesKept s (delivered kind l ws body s) :=
  rangesKept_arrival l _ (fun u => (h u).trans (configKept_offerForwarded _ (.refl _)).rangesKept)

/-- A request whose serving keeps both ranges keeps them, served or not. -/
theorem rangesKept_serve (r : Req) (code : Nat) {body : State → Reply} (h : ∀ u, RangesKept u (body u).state)
    (e : serve r code body s = .next t) : RangesKept s t := by
  unfold serve at e
  split at e <;> cases e
  · exact ((rangesKept_goodFrameSeen s).trans (h _)).trans (configKept_respond r code (.refl _)).rangesKept
  · exact rangesKept_of_same rfl rfl

theorem configKept_ownersReport (s : State) : ConfigKept s (ownersReport s) := by
  unfold ownersReport
  split <;> exact configKept_report _ (configKept_report _ (.refl s))

/-- A soft reset keeps the items and resets every channel with them (R190). -/
theorem rangesKept_takeSoftReset (s : State) : RangesKept s (takeSoftReset s) := by
  have blocks : RangesKept s (softBlocks s) := by
    intro a
    have e : (softBlocks s).chan a = Channel.reset (s.items.channels.get a) := by
      simp [softBlocks, State.chan]
    rw [e]
    exact keepsRanges_reset _ _
  exact blocks.trans (configKept_ownersReport _).rangesKept

theorem rangesKept_completeReset (straps : BitVec 5) (s : State) : RangesKept s (completeReset straps s) := by
  simp only [completeReset]
  split <;> exact rangesKept_of_same rfl rfl

/-- Power-on and pin reset leave every channel at its defaults, in both ranges whatever stood before (R191). -/
theorem rangesKept_freshPart (s : State) : RangesKept s (freshPart s) := by
  have kept := configKept_ownersReport
    { State.reset with alu := .reset, dguReportsFirst := s.dguReportsFirst, pending := s.pending }
  intro a
  have items : (freshPart s).items = Items.reset := kept.items
  have chan : (freshPart s).chan a = Channel.reset (Items.reset.channels.get a) := by
    rw [show (freshPart s).chan a = _ from kept.chan a]
    cases a <;> rfl
  rw [items, chan]
  constructor
  · intro
    unfold GainWithin
    cases a <;> decide
  · intro
    unfold CorrectionWithin InCorrectionRange
    cases a <;> decide

theorem rangesKept_next {u : State} (e : (.next u : Result) = .next t) (k : RangesKept s u) : RangesKept s t :=
  Host.Outcome.next.inj e ▸ k

theorem rangesKept_self (s : State) : RangesKept s s := rangesKept_of_same rfl rfl

theorem rangesKept_cycleEvent {due : Bool} {l : Link} {number : Word} (e : cycleEvent due l number s = .next t) :
    RangesKept s t := by
  unfold cycleEvent at e
  split at e
  · exact rangesKept_next e (rangesKept_arrival l 2 (rangesKept_takeCycle l number))
  · exact rangesKept_next e (rangesKept_self s)

theorem rangesKept_sampleEvent {due : Bool} {l : Link} {d : SampleData} (e : sampleEvent due l d s = .next t) :
    RangesKept s t := by
  unfold sampleEvent at e
  split at e
  · exact rangesKept_next e (rangesKept_delivered _ l _ (rangesKept_takeSampleFrame l.src d))
  · exact rangesKept_next e (rangesKept_self s)

theorem rangesKept_write {r : Req} {item index : Word} {values : List Word}
    (e : serve r 2 (serveWrite item index values) s = .next t) : RangesKept s t :=
  rangesKept_serve r 2 (fun u => rangesKept_serveWrite u item index values) e

/-- Both ranges survive every command. -/
theorem rangesKept_exec {c : Instr} (e : exec c s = .next t) : RangesKept s t := by
  cases c
  case powerOnReset | pinReset => exact rangesKept_next e (rangesKept_freshPart s)
  case resetComplete straps =>
    simp only [exec, execResetComplete] at e
    split at e
    · exact rangesKept_next e (rangesKept_completeReset straps s)
    all_goals exact rangesKept_next e (rangesKept_self s)
  case bypassStart =>
    simp only [exec, execBypassStart] at e
    split at e <;> exact rangesKept_next e (rangesKept_of_same rfl rfl)
  case softReset =>
    simp only [exec, execSoftReset] at e
    split at e
    · exact rangesKept_next e (rangesKept_takeSoftReset s)
    all_goals exact rangesKept_next e (rangesKept_self s)
  case cycle l number => exact rangesKept_next e (rangesKept_arrival l 2 (rangesKept_takeCycle l number))
  case cab l selector pushes =>
    exact rangesKept_next e (rangesKept_delivered _ l _ (fun u => (configKept_takeCab selector pushes u).rangesKept))
  case command l group lever =>
    exact rangesKept_next e (rangesKept_arrival l 4 (fun u => (configKept_takeCommand l group lever u).rangesKept))
  case sample l d => exact rangesKept_next e (rangesKept_delivered _ l _ (rangesKept_takeSampleFrame l.src d))
  case discrete l low high =>
    exact rangesKept_next e (rangesKept_delivered _ l _ (fun u => (configKept_takeDiscreteFrame l.src low high u).rangesKept))
  case driveStatus l d =>
    exact rangesKept_next e (rangesKept_delivered _ l _ (fun u => (configKept_takeDriveStatus l.src.toNat d u).rangesKept))
  case forwardedFrame bytes =>
    simp only [exec, execForwardedFrame] at e
    split at e
    · exact rangesKept_next e ((rangesKept_goodFrameSeen s).trans (configKept_offerForwarded _ (.refl _)).rangesKept)
    · exact rangesKept_next e (rangesKept_self s)
  case ownFrameRemoval bytes =>
    simp only [exec, execOwnFrameRemoval] at e
    split at e <;> exact rangesKept_next e (rangesKept_of_same rfl rfl)
  case badFrame bytes =>
    simp only [exec, execBadFrame] at e
    split at e
    · split at e
      · exact rangesKept_next e (configKept_takeBad _ bytes s).rangesKept
      · exact rangesKept_next e (rangesKept_self s)
    · exact rangesKept_next e (rangesKept_self s)
  case frameTransmitted => exact rangesKept_next e (rangesKept_of_same rfl rfl)
  case loopSilent =>
    simp only [exec, execLoopSilent] at e
    split at e
    · exact rangesKept_next e (configKept_expireTimer s).rangesKept
    · exact rangesKept_next e (rangesKept_self s)
  case read | discardCountRead => exact rangesKept_serve _ 1 (fun u => rangesKept_serveRead u _ _ _) e
  case openTable => exact rangesKept_serve _ 3 (fun u => rangesKept_serveOpen u _) e
  case loadTable => exact rangesKept_serve _ 4 (fun u => rangesKept_serveLoad u _ _ _ _) e
  case closeTable => exact rangesKept_serve _ 5 (fun u => rangesKept_serveClose u _) e
  case abandonTable => exact rangesKept_serve _ 6 (fun u => rangesKept_serveAbandon u _) e
  case readTable => exact rangesKept_serve _ 7 (fun u => rangesKept_serveReadTable u _ _ _) e
  case start => exact rangesKept_serve _ 8 rangesKept_serveStart e
  case stop => exact rangesKept_serve _ 9 rangesKept_serveStop e
  case learn => exact rangesKept_serve _ 10 (fun u => rangesKept_serveLearn u _) e
  case zero => exact rangesKept_serve _ 11 (fun u => rangesKept_serveZero u _ _) e
  case force => exact rangesKept_serve _ 12 (fun u => rangesKept_serveForce u _) e
  case ack => exact rangesKept_serve _ 13 (fun u => rangesKept_serveAck u _) e
  case readAlarms => exact rangesKept_serve _ 14 (fun u => rangesKept_serveReadAlarms u _ _) e
  case reset => exact rangesKept_serve _ 15 (fun _ => rangesKept_of_same rfl rfl) e
  case unknownCode r code =>
    simp only [exec, execUnknownCode] at e
    split at e
    · exact rangesKept_next e (rangesKept_self s)
    · exact rangesKept_serve r _ (fun u => rangesKept_refuse u _) e
  case write | crossingFlags | pitHeading | correctionMode | speedLimit | offsetLimit | gainLimit | gainMode | gainLow
      | gainHigh | swingGear | hoistRopeK | dragRopeK | camZero | fixedItems =>
    exact rangesKept_write e
  case channelStale | memberAbsent | discreteStale | cmdLost | transferTimeout | shoeMismatch | shoeDisagree =>
    simp only [exec, execChannelStale, execMemberAbsent, execDiscreteStale, execCmdLost, execTransferTimeout,
      execShoeMismatch, execShoeDisagree] at e
    exact rangesKept_cycleEvent e
  case brakeDelayExpiry l group lever =>
    simp only [exec, execBrakeDelayExpiry] at e
    split at e
    · exact rangesKept_next e (rangesKept_arrival l 4 (fun u => (configKept_takeCommand l _ lever u).rangesKept))
    · exact rangesKept_next e (rangesKept_self s)
  case stuck | settled =>
    simp only [exec, execStuck, execSettled] at e
    exact rangesKept_sampleEvent e

/-- Both ranges survive every step. -/
theorem rangesKept_step (e : step s = .next t) : RangesKept s t := by
  unfold step at e
  split at e
  · exact rangesKept_next e (rangesKept_self s)
  · rename_i rest _
    have taken : RangesKept s (s.withPending rest) := rangesKept_of_same rfl rfl
    exact taken.trans (rangesKept_exec e)

end

/-- Settles O9: a step keeps each channel's gain level in its range (`rangesKept_step`). -/
theorem stepKeepsGainLevels : Obligations.StepKeepsGainLevels := fun _ _ ok e a => (rangesKept_step e a).gain (ok a)

/-- Settles O10: a step keeps each channel's correction values in their ranges (`rangesKept_step`). -/
theorem stepKeepsCorrectionRanges : Obligations.StepKeepsCorrectionRanges :=
  fun _ _ ok e a => (rangesKept_step e a).correction (ok a)

end Sys2Proof.Machine
end

section
/-! SUPPORT. The answer to a request and the delivery of a frame as the statements write them, from what serving or delivery did to the
loop port; and what an accepted write comes to outside RUN. -/

namespace Sys2Proof.Machine

theorem mag_eq_abs (v : Int) : mag v = |v| := by
  unfold mag
  split
  · exact (abs_of_neg ‹_›).symm
  · exact (abs_of_nonneg (not_lt.1 ‹_›)).symm

theorem satInc_eq_min (top n : Nat) : satInc top n = min top (n + 1) := by
  unfold satInc
  split <;> omega

@[simp] theorem goodFrameSeen_chan (s : State) (a : Axis) : (goodFrameSeen s).chan a = s.chan a := rfl
@[simp] theorem goodFrameSeen_items (s : State) : (goodFrameSeen s).items = s.items := rfl
@[simp] theorem goodFrameSeen_mgu (s : State) : (goodFrameSeen s).mgu = s.mgu := rfl
@[simp] theorem goodFrameSeen_tru (s : State) : (goodFrameSeen s).tru = s.tru := rfl

/-! ### Answers -/

/-- The port a response leaves is the one its serving left but for the queue and the discard count (R172 to R174). -/
theorem respond_port (r : Req) (code : Nat) (p : Reply) :
    ∃ q d, (respond r code p).lpu = { p.state.lpu with queue := q, discard := d } := by
  rcases offerInserted_spec (responseFrame r code p) p.state with ⟨-, e⟩ | ⟨-, e⟩ <;> rw [respond, e]
  · exact ⟨_, _, rfl⟩
  · exact ⟨_, _, rfl⟩

theorem respond_discard (r : Req) (code : Nat) (p : Reply) : (respond r code p).lpu.discard
    = if p.state.lpu.queue.length ≤ 6 then p.state.lpu.discard else min 65535 (p.state.lpu.discard + 1) := by
  rcases offerInserted_spec (responseFrame r code p) p.state with ⟨h, e⟩ | ⟨h, e⟩ <;> rw [respond, e]
  · simp [h]
  · simp [show ¬ p.state.lpu.queue.length ≤ 6 by omega, discardOne, satInc_eq_min]

/-- Serving that leaves the port as the request's arrival did is answered with its status and values. -/
theorem answered_respond (r : Req) (code : Nat) {p : Reply} {s : State} (h : p.state.lpu = (goodFrameSeen s).lpu)
    (v : p.values.length ≤ 20) : Answered r code p.status.code p.values s (respond r code p) := by
  have own : p.state.ownByte = s.ownByte := by simp only [State.ownByte, h]; rfl
  obtain ⟨q, d, port⟩ := respond_port r code p
  refine ⟨?_, ?_, ?_, ?_⟩
  · rw [respond_queue r code p v, own, h]; rfl
  · rw [respond_discard, h]; rfl
  · simp [PortKept, port, h, goodFrameSeen_eq]
  · simp [Restarted, port, h, goodFrameSeen_eq]

/-- A request that changes no block is answered and changes nothing else. -/
theorem nothingElse_respond (r : Req) (code : Nat) {p : Reply} {s : State} (h : p.state = goodFrameSeen s) :
    NothingElse s (respond r code p) := by
  obtain ⟨q, d, port⟩ := respond_port r code p
  refine ⟨⟨(respond r code p).lpu, ?_⟩, ?_⟩
  · rw [respond_lpu r code p, h]; rfl
  · simp [PortKept, port, h, goodFrameSeen_eq]

/-- A request answered with a status alone, no block changed. -/
theorem serve_nothingElse {r : Req} {code : Nat} {body : State → Reply} {s : State} {x : Status} (h : s.lpu.bypass = .off)
    (b : body (goodFrameSeen s) = ⟨goodFrameSeen s, x, []⟩) :
    ∃ t, serve r code body s = .next t ∧ NothingElse s t ∧ Answered r code x.code [] s t := by
  refine ⟨_, serve_in r code body s h, ?_⟩
  rw [b]
  exact ⟨nothingElse_respond r code rfl, answered_respond r code (p := ⟨goodFrameSeen s, x, []⟩) rfl (Nat.zero_le _)⟩

theorem okIf_code (b : Bool) : (okIf b).code = if b then 1 else 0 := by cases b <;> rfl

/-! ### Deliveries -/

/-- A frame whose blocks leave the port as its arrival did is delivered. -/
theorem delivered_offerForwarded (bs : Bytes) {u s : State} (h : u.lpu = (goodFrameSeen s).lpu) :
    Delivered bs s (offerForwarded bs u) := by
  rcases offerForwarded_spec bs u with ⟨short, e⟩ | ⟨full, e⟩ <;> rw [e] <;> rw [h] at *
  · have : s.lpu.queue.length < 8 := short
    simp [Delivered, Forwarded, PortKept, Restarted, goodFrameSeen_eq, this]
  · have : ¬ s.lpu.queue.length < 8 := Nat.not_lt.2 full
    simp [Delivered, Forwarded, PortKept, Restarted, goodFrameSeen_eq, this, discardOne, satInc_eq_min]

/-- In the loop a frame that fits is taken by its body and forwarded behind it. -/
theorem delivered_in (kind : Byte) (l : Link) (ws : List Word) (body : State → State) (s : State) (h : s.lpu.bypass = .off)
    (f : fits l (2 * ws.length) = true) :
    delivered kind l ws body s = offerForwarded (received kind l ws) (body (goodFrameSeen s)) :=
  arrival_in l _ _ s h f

/-- A frame that its blocks leave alone is delivered and changes nothing else. -/
theorem nothingElse_offerForwarded (bs : Bytes) (s : State) : NothingElse s (offerForwarded bs (goodFrameSeen s)) :=
  ⟨⟨_, offerForwarded_lpu bs (goodFrameSeen s)⟩, (delivered_offerForwarded bs rfl).1.2.2⟩

/-! ### Writes outside RUN -/

/-- A write of a setup item, one word, outside RUN is accepted (R186). -/
theorem serveWrite_setup {row : ItemRow} {item index w : Word} {s : State}
    (named : namedItem item.toNat index.toNat = some row) (cls : row.cls = .setup) (mode : s.mgu.mode ≠ .run) :
    serveWrite item index [w] s
      = ⟨(writeItem row.scope item.toNat index.toNat w s).1, okIf (writeItem row.scope item.toNat index.toNat w s).2, []⟩ := by
  have allowed : writeRefused item.toNat row.cls s = false := by simp [writeRefused, mode]
  simp [serveWrite, named, cls, cls ▸ allowed]

theorem axisOfCode_natWord (a : Axis) : Axis.ofCode (natWord a.code).toNat = some a := by cases a <;> rfl

/-- A write of a channel item outside RUN acts on that channel (R186). -/
theorem serveWrite_channel {item : Word} (a : Axis) {w : Word} {s : State}
    (named : namedItem item.toNat (natWord a.code).toNat = some ⟨10, 27, .channel, .setup⟩) (mode : s.mgu.mode ≠ .run) :
    serveWrite item (natWord a.code) [w] s
      = ⟨(writeChannel item.toNat a w s).1, okIf (writeChannel item.toNat a w s).2, []⟩ := by
  rw [serveWrite_setup named rfl mode]
  simp only [writeItem, axisOfCode_natWord]

end Sys2Proof.Machine
end

section
/-! LEARN, and the writes of the correction items: O33 and O40. -/

namespace Sys2Proof.Machine

/-- A request whose serving leaves the port alone is answered, and every other block is as the serving left it. -/
theorem serve_answered {r : Req} {code : Nat} {body : State → Reply} {s : State} {p : Reply} (h : s.lpu.bypass = .off)
    (b : body (goodFrameSeen s) = p) (port : p.state.lpu = (goodFrameSeen s).lpu) (v : p.values.length ≤ 20) :
    ∃ t, serve r code body s = .next t ∧ t = p.state.withLpu t.lpu ∧ Answered r code p.status.code p.values s t := by
  subst b
  exact ⟨_, serve_in r code body s h, respond_lpu r code _, answered_respond r code port v⟩

/-! ### LEARN -/

/-- Settles O33: a LEARN request begins learning where `learnReady` holds, and is refused elsewhere. -/
theorem learnRequests : Obligations.LearnRequests := by
  intro r s h
  refine ⟨fun ch large => ?_, fun a tracking mode => ?_, fun a other => ?_⟩
  · exact serve_nothingElse (x := .outOfRange) h (by simp [serveLearn, Axis.ofCode_large large, refuse])
  · have ready : learnReady (s.items.channels.get a) (s.chan a) = true := by simp [learnReady, tracking, mode]
    obtain ⟨t, e, rest, answer⟩ := serve_answered (r := r) (code := 10) (body := serveLearn (natWord a.code))
      (p := ⟨(goodFrameSeen s).setChan a (startLearning (s.chan a)), .ok, []⟩) h
      (by simp [serveLearn, axisOfCode_natWord, ready]) rfl (Nat.zero_le _)
    exact ⟨t, e, rest, answer⟩
  · have unready : learnReady (s.items.channels.get a) (s.chan a) = false := by
      rcases other with x | x <;> simp [learnReady, x]
    exact serve_nothingElse (x := .notReady) h (by simp [serveLearn, axisOfCode_natWord, unready, refuse])

/-! ### Writes of one channel's items -/

/-- A write leaves one channel's items and record as given, nothing else changed but the port, and is answered. -/
def LeavesChannel (r : Req) (a : Axis) (s : State) (i : Instr) (it' : ChannelItems) (c' : Channel) (status : Nat) : Prop :=
  ∃ t, exec i s = .next t ∧ t.items = { s.items with channels := s.items.channels.set a it' } ∧ t.chan a = c'
    ∧ (∀ b, b ≠ a → t.chan b = s.chan b) ∧ t = ((s.withLpu t.lpu).withItems t.items).withTru t.tru
    ∧ Answered r 2 status [] s t

/-- What `writeChannel` makes of the channel is what the write leaves. -/
theorem leavesChannel_of_write {r : Req} {a : Axis} {s : State} {i : Instr} {item w : Word} {it' : ChannelItems} {c' : Channel}
    {status : Nat} {adjusted : Bool} (h : s.lpu.bypass = .off) (mode : s.mgu.mode ≠ .run)
    (e : exec i s = serve r 2 (serveWrite item (natWord a.code) [w]) s)
    (named : namedItem item.toNat (natWord a.code).toNat = some ⟨10, 27, .channel, .setup⟩)
    (written : writeChannel item.toNat a w (goodFrameSeen s) = ((setChannelItems a it' (goodFrameSeen s)).setChan a c', adjusted))
    (st : (if adjusted then 1 else 0) = status) : LeavesChannel r a s i it' c' status := by
  subst st
  obtain ⟨t, e', rest, answer⟩ := serve_answered (r := r) (code := 2) (body := serveWrite item (natWord a.code) [w]) h
    ((serveWrite_channel a (s := goodFrameSeen s) named mode).trans (by rw [written])) rfl (Nat.zero_le _)
  have tru : t.tru = s.tru.set a c' := congrArg State.tru rest
  have items : t.items = { s.items with channels := s.items.channels.set a it' } := congrArg State.items rest
  refine ⟨t, e.trans e', items, ?_, fun b other => ?_, ?_, okIf_code adjusted ▸ answer⟩
  · simp [State.chan, tru]
  · simp [State.chan, tru, PerAxis.get_set_other _ _ other]
  · rw [tru, items]; exact rest

/-- A stored item that leaves the channel's record alone. -/
theorem setChan_setChannelItems (a : Axis) (it' : ChannelItems) (s : State) :
    (setChannelItems a it' s).setChan a (s.chan a) = setChannelItems a it' s := by
  simp [setChannelItems, State.setChan, State.withTru, State.withItems, State.chan]

/-- A mode code written above 3 is the highest (R186). -/
theorem correctionMode_code_ofCode (w : Word) : CorrectionMode.code (.ofCode (clampCode 3 w)) = min 3 w.toNat := by
  have : clampCode 3 w < 4 := by unfold clampCode; omega
  rw [← clampCode]
  interval_cases clampCode 3 w <;> rfl

/-- What a written mode leaves of the channel, by the code sent (R10, R15, R16). -/
theorem setCorrectionMode_ofCode (it : ChannelItems) (c : Channel) (w : Word) :
    setCorrectionMode { it with correctionMode := .ofCode (clampCode 3 w) } c
      = { c with
          used := if w.toNat = 0 then ⟨0, 0, 1024⟩ else ⟨it.fixedSin, it.fixedCos, it.fixedGain⟩
          learn := if 3 ≤ w.toNat ∧ c.state = .tracking then .waitingIndex else .idle
          acc := none } := by
  have cases : (w.toNat = 0 ∧ clampCode 3 w = 0) ∨ (w.toNat = 1 ∧ clampCode 3 w = 1) ∨ (w.toNat = 2 ∧ clampCode 3 w = 2)
      ∨ (3 ≤ w.toNat ∧ clampCode 3 w = 3) := by unfold clampCode; omega
  rcases cases with ⟨n, k⟩ | ⟨n, k⟩ | ⟨n, k⟩ | ⟨n, k⟩
  · simp [setCorrectionMode, ChannelItems.initialCorrection, k, n, CorrectionMode.ofCode]
  · simp [setCorrectionMode, ChannelItems.initialCorrection, k, n, CorrectionMode.ofCode]
  · simp [setCorrectionMode, ChannelItems.initialCorrection, k, n, CorrectionMode.ofCode]
  · have : w.toNat ≠ 0 := by omega
    simp only [setCorrectionMode, ChannelItems.initialCorrection, k, n, CorrectionMode.ofCode, this, true_and, if_false]
    split <;> rfl

/-- A fixed item's write leaves the item stored and, in FIXED mode, in use (R10). -/
theorem applyFixed_eq (a : Axis) (it' : ChannelItems) (s : State) : applyFixed a it' s
    = (setChannelItems a it' s).setChan a
        (if it'.correctionMode = .fixed then { s.chan a with used := ⟨it'.fixedSin, it'.fixedCos, it'.fixedGain⟩ } else s.chan a) := by
  simp only [applyFixed]
  split
  · rfl
  · exact (setChan_setChannelItems a it' s).symm

/-- An unsigned word clamped from 0 to a limit. -/
theorem clamp_unsigned (top : Int) (w : Word) (h : 0 ≤ top) : clamp 0 top (unsigned w) = min top (w.toNat : Int) := by
  simp only [clamp, unsigned]; omega

theorem notExact {v w : Int} : (if v != w then 1 else 0) = if v == w then 0 else (1 : Nat) := by
  by_cases h : v = w <;> simp [h]

/-- A word written to an item from 0 to a limit is stored as sent exactly up to the limit. -/
theorem clamp_exact {top : Int} {n : Nat} (h : top = n) (w : Word) :
    (if clamp 0 top (unsigned w) != unsigned w then 1 else 0) = if w.toNat ≤ n then 0 else (1 : Nat) := by
  rw [clamp_unsigned top w (by omega), notExact, unsigned, h]
  split <;> split <;> simp_all

/-- Settles O40: each write of a correction item comes to `writeChannel`, whose case gives what is left. -/
theorem correctionItemWrites : Obligations.CorrectionItemWrites := by
  intro r a w s h mode
  refine ⟨⟨.ofCode (clampCode 3 w), correctionMode_code_ofCode w, ?_⟩, ?_, ?_, ?_, ?_, ?_⟩
  · refine leavesChannel_of_write (item := 13) h mode rfl (by cases a <;> rfl) ?_ ?_ (adjusted := decide (3 < w.toNat))
    · rw [← setCorrectionMode_ofCode]; rfl
    · simp only [decide_eq_true_eq]; split <;> split <;> omega
  · refine leavesChannel_of_write (item := 17) h mode rfl (by cases a <;> rfl) ?_ ?_
      (adjusted := clamp 0 256 (unsigned w) != unsigned w)
    · rw [← clamp_unsigned 256 w (by decide)]; rfl
    · exact clamp_exact rfl w
  · refine leavesChannel_of_write (item := 18) h mode rfl (by cases a <;> rfl) ?_ ?_
      (adjusted := clamp 0 400 (unsigned w) != unsigned w)
    · rw [← clamp_unsigned 400 w (by decide)]; rfl
    · exact clamp_exact rfl w
  · exact leavesChannel_of_write (item := 14) h mode rfl (by cases a <;> rfl)
      (congrArg (·, _) (applyFixed_eq a _ (goodFrameSeen s))) notExact
  · exact leavesChannel_of_write (item := 15) h mode rfl (by cases a <;> rfl)
      (congrArg (·, _) (applyFixed_eq a _ (goodFrameSeen s))) notExact
  · exact leavesChannel_of_write (item := 16) h mode rfl (by cases a <;> rfl)
      (congrArg (·, _) (applyFixed_eq a _ (goodFrameSeen s))) notExact

end Sys2Proof.Machine
end

section
/-! The writes of the loop items: O41. -/

namespace Sys2Proof.Machine

/-! ### What the ALU's work leaves of the POS and the SWU -/

theorem stopGroups_eq (gs : List Axis) (s : State) : ∃ p, s.stopGroups gs = s.withGroups p := by
  induction gs generalizing s with
  | nil => exact ⟨s.groups, rfl⟩
  | cons g gs ih =>
    obtain ⟨p, e⟩ := ih (s.stopGroup g)
    exact ⟨p, e⟩

/-- Acting on a changed ALU sets the ALU, the MGU and the groups alone (R162, R163). -/
theorem aluAct_eq (e : Effect) (s : State) : ∃ x m p, aluAct e s = ((s.withAlu x).withMgu m).withGroups p := by
  have hand : ∃ x m p, handSeverities s = ((s.withAlu x).withMgu m).withGroups p := by
    obtain ⟨p, h⟩ := stopGroups_eq
      (Axis.all.filter (fun g => stops ((s.alu.groupSeverities s.tables.t10).get g)))
      ((s.withAlu { s.alu with severity := s.alu.groupSeverities s.tables.t10 }).withMgu
        { s.mgu with tripStanding := s.alu.tripStanding s.tables.t10 })
    exact ⟨_, _, p, h⟩
  obtain ⟨x, m, p, h⟩ := hand
  obtain ⟨q, k⟩ := stopGroups_eq e.stops (handSeverities s)
  have once : (handSeverities s).stopGroups e.stops = ((s.withAlu x).withMgu m).withGroups q := by rw [k, h]; rfl
  simp only [aluAct, once]
  split
  · unfold haltPart
    split
    · exact ⟨_, _, _, rfl⟩
    · exact ⟨x, _, _, rfl⟩
  · exact ⟨_, _, _, rfl⟩

theorem aluTake_eq (rs : List Report) (s : State) : ∃ x m p, aluTake rs s = ((s.withAlu x).withMgu m).withGroups p := by
  obtain ⟨x, m, p, e⟩ := aluAct_eq (s.alu.take s.aluCtx rs).2 (s.withAlu (s.alu.take s.aluCtx rs).1)
  exact ⟨x, m, p, e⟩

/-- A report that the sequencer does not react to leaves POS, WSQ and SWU as they were. -/
theorem report_sequencerIdle (rs : List Report) {s : State} (h : SequencerIdle s) :
    (report rs s).pos = s.pos ∧ (report rs s).wsq = s.wsq ∧ (report rs s).swu = s.swu := by
  obtain ⟨x, m, p, e⟩ := aluTake_eq rs s
  rw [report_idle rs s h.1 h.2, e]
  exact ⟨rfl, rfl, rfl⟩

/-! ### The loop items -/

theorem cOverspeed_not_reaction (a : Axis) : cOverspeed a ∉ reactionNumbers := by cases a <;> decide

/-- A level condition reported alone stands as it was reported (R150). -/
theorem report_single (s : State) (n : Nat) (b : Bool) (d : Option Nat) (h : n ∉ reactionNumbers) (hn : n < s.alu.conds.length) :
    (report [.level n b d] s).alu.raised n = b :=
  (report_level [.level n b d] s n b d h hn (List.mem_singleton.2 rfl) (by simp)).1

theorem cOverspeed_lt {s : State} (ok : AlarmsOk s) (a : Axis) : cOverspeed a < s.alu.conds.length := by
  rw [ok.1]; cases a <;> decide

/-- A written gain mode: any code but 0 is FIXED. -/
theorem gainMode_ofCode (w : Word) : GainMode.ofCode (clampCode 1 w) = if w.toNat = 0 then .scheduled else .fixed := by
  unfold clampCode
  split
  · simp [*, GainMode.ofCode]
  · rw [show min 1 w.toNat = 1 by omega]; rfl

/-- FIXED clears the boost and sets L to GAIN_LOW; SCHEDULED leaves the channel (R23). -/
theorem applyGainMode_eq (a : Axis) (it' : ChannelItems) (s : State) : applyGainMode a it' s
    = (setChannelItems a it' s).setChan a
        (if it'.gainMode = .scheduled then s.chan a else { s.chan a with boost := false, gain := it'.gainLow }) := by
  simp only [applyGainMode]
  split
  · simp [*]; rfl
  · simp [*, setChan_setChannelItems]

/-- The gain level a write of a gain limit leaves (R23). -/
theorem clampGainLevel_eq (it : ChannelItems) (c : Channel) : clampGainLevel it c
    = { c with
        gain := if it.gainMode = .fixed then (if c.boost then it.gainHigh else it.gainLow)
          else max it.gainLow (min it.gainHigh c.gain) } := by
  unfold clampGainLevel
  split <;> simp [*, clampNat]

/-- The SPEED_LIMIT part of O41: the condition follows the report, which moves no channel and no item. -/
theorem speedLimit_written (r : Req) (a : Axis) (w : Word) (s : State) (h : s.lpu.bypass = .off) (mode : s.mgu.mode ≠ .run)
    (ok : AlarmsOk s) (v : Int) (hv : v = clamp 16 8192 (unsigned w)) :
    ∃ t, exec (.speedLimit r (natWord a.code) [w]) s = .next t
      ∧ t.items = { s.items with channels := s.items.channels.set a { s.items.channels.get a with speedLimit := v } }
      ∧ t.chan a = { s.chan a with speed := max (-v) (min v (s.chan a).speed) }
      ∧ t.alu.raised (cOverspeed a) = (|(t.chan a).speed| == v)
      ∧ (∀ b, b ≠ a → t.chan b = s.chan b) ∧ t.tables = s.tables ∧ t.dgu = s.dgu ∧ t.env = s.env
      ∧ (SequencerIdle s → t.pos = s.pos ∧ t.wsq = s.wsq ∧ t.swu = s.swu)
      ∧ Answered r 2 (if v = (w.toNat : Int) then 0 else 1) [] s t := by
  let c' : Channel := { s.chan a with speed := max (-v) (min v (s.chan a).speed) }
  let u := (setChannelItems a { s.items.channels.get a with speedLimit := v } (goodFrameSeen s)).setChan a c'
  let rs : List Report := [.level (cOverspeed a) (mag c'.speed == v) none]
  obtain ⟨t, e, rest, answer⟩ := serve_answered (r := r) (code := 2) (body := serveWrite 20 (natWord a.code) [w])
    (p := ⟨report rs u, okIf (v != unsigned w), []⟩) h
    ((serveWrite_channel a (s := goodFrameSeen s) (by cases a <;> rfl) mode).trans (by subst hv; rfl))
    (reacts_report rs u).lpu (Nat.zero_le _)
  have kept := reacts_report rs u
  have tru : t.tru = s.tru.set a c' := (congrArg State.tru rest).trans kept.tru
  have own : t.chan a = c' := by simp [State.chan, tru]
  refine ⟨t, e, (congrArg State.items rest).trans kept.items, own, ?_, fun b other => ?_,
    (congrArg State.tables rest).trans kept.tables, (congrArg State.dgu rest).trans kept.dgu,
    (congrArg State.env rest).trans kept.env, fun idle => ?_, ?_⟩
  · rw [own, ← mag_eq_abs, rest]
    exact report_single u _ _ _ (cOverspeed_not_reaction a) (cOverspeed_lt ok a)
  · simp [State.chan, tru, PerAxis.get_set_other _ _ other]
  · obtain ⟨pos, wsq, swu⟩ := report_sequencerIdle rs (s := u) idle
    rw [rest]
    exact ⟨pos, wsq, swu⟩
  · simpa [okIf_code, notExact, unsigned] using answer

/-- Settles O41: each write of a loop item comes to `writeChannel`, whose case gives what is left. -/
theorem loopItemWrites : Obligations.LoopItemWrites := by
  intro r a w s h mode
  refine ⟨fun ok => speedLimit_written r a w s h mode ok _ rfl, ?_, fun order top => ⟨?_, ?_⟩⟩
  · refine leavesChannel_of_write (item := 21) h mode rfl (by cases a <;> rfl) (adjusted := decide (1 < w.toNat)) ?_ ?_
    · refine congrArg (·, _) ((applyGainMode_eq a _ (goodFrameSeen s)).trans ?_)
      simp only [gainMode_ofCode]
      by_cases zero : w.toNat = 0 <;> simp [zero]
    · simp only [decide_eq_true_eq]; split <;> split <;> omega
  · have low : (clamp 0 (min 7 ((s.items.channels.get a).gainHigh : Int)) (unsigned w)).toNat
        = min w.toNat (s.items.channels.get a).gainHigh := by simp only [clamp, unsigned]; omega
    refine leavesChannel_of_write (item := 22) h mode rfl (by cases a <;> rfl)
      (adjusted := clamp 0 (min 7 ((s.items.channels.get a).gainHigh : Int)) (unsigned w) != unsigned w) ?_ ?_
    · rw [← low]
      exact congrArg (fun c => (State.setChan _ a c, _)) (clampGainLevel_eq _ _)
    · have exact : clamp 0 (min 7 ((s.items.channels.get a).gainHigh : Int)) (unsigned w) = unsigned w
          ↔ min w.toNat (s.items.channels.get a).gainHigh = w.toNat := by simp only [clamp, unsigned]; omega
      simp only [notExact, beq_iff_eq, exact]
  · have high : (clamp ((s.items.channels.get a).gainLow : Int) 7 (unsigned w)).toNat
        = max (s.items.channels.get a).gainLow (min 7 w.toNat) := by simp only [clamp, unsigned]; omega
    refine leavesChannel_of_write (item := 23) h mode rfl (by cases a <;> rfl)
      (adjusted := clamp ((s.items.channels.get a).gainLow : Int) 7 (unsigned w) != unsigned w) ?_ ?_
    · rw [← high]
      exact congrArg (fun c => (State.setChan _ a c, _)) (clampGainLevel_eq _ _)
    · have exact : clamp ((s.items.channels.get a).gainLow : Int) 7 (unsigned w) = unsigned w
          ↔ max (s.items.channels.get a).gainLow (min 7 w.toNat) = w.toNat := by simp only [clamp, unsigned]; omega
      simp only [notExact, beq_iff_eq, exact]

end Sys2Proof.Machine
end

section
/-! SUPPORT. What the recomputes of the POS leave of the POS, the ENV, the SWU and the WSQ (R35 to R39). -/

namespace Sys2Proof.Machine

/-- A report leaves the POS but for the heading. -/
theorem report_pos (rs : List Report) (s : State) : ∃ b, (report rs s).pos = { s.pos with headingConfirmed := b } :=
  ⟨_, (reacts_report rs s).pos⟩

/-! ### The drums -/

/-- Selecting a profile takes the bands and doubt flags as held (R79, R80). -/
theorem selectProfile_last (t0 : Table) (e : Env) :
    (selectProfile t0 e).lastPayout = e.lastPayout ∧ (selectProfile t0 e).lastDoubt = e.lastDoubt := by
  unfold selectProfile
  split
  · simp only; split <;> exact ⟨rfl, rfl⟩
  · exact ⟨rfl, rfl⟩

/-- The ENV keeps the payout and the doubt flag it was handed (R77). -/
theorem takePayout_last (t0 : Table) (hyst : Int) (d : Drum) (p : Int) (doubt : Bool) (e : Env) :
    (takePayout t0 hyst d p doubt e).lastPayout = e.lastPayout.set d p
      ∧ (takePayout t0 hyst d p doubt e).lastDoubt = e.lastDoubt.set d doubt := by
  simp only [takePayout]
  split
  · split
    · exact selectProfile_last t0 _
    · exact selectProfile_last t0 _
  · exact ⟨rfl, rfl⟩

/-- A drum's recompute writes its payout and nothing else of the POS but the heading (R36). -/
theorem updateDrum_pos (d : Drum) (s : State) : ∃ b, (updateDrum d s).pos
    = { s.pos with payout := s.pos.payout.set d (clamp 0 65000 (unclampedPayout s.pos s.items d)), headingConfirmed := b } :=
  report_pos _ _

/-- A drum's recompute hands the payout and its doubt flag to the ENV (R35). -/
theorem updateDrum_env (d : Drum) (s : State) :
    (updateDrum d s).env.lastPayout = s.env.lastPayout.set d (clamp 0 65000 (unclampedPayout s.pos s.items d))
      ∧ (updateDrum d s).env.lastDoubt = s.env.lastDoubt.set d (s.pos.doubtful.get d.drive) := by
  rw [show (updateDrum d s).env = _ from (reacts_report _ _).env]
  exact takePayout_last _ _ d _ _ _

/-! ### The house -/

/-- The house angle of a recompute (R38). -/
def houseAngle (p : Pos) (it : Items) : Int := (p.houseZero + houseTerm p it) % Config.circle

/-- A recompute of the house writes the two angles and nothing else of the POS but the heading (R38). -/
theorem updateHouse_pos (c : HrCause) (s : State) : ∃ b, (updateHouse c s).pos
    = { s.pos with
        house := houseAngle s.pos s.items, relative := (houseAngle s.pos s.items - s.items.pitHeading) % Config.circle
        headingConfirmed := b } := by
  obtain ⟨b, second⟩ := report_pos _ _
  obtain ⟨b', first⟩ := report_pos _ _
  exact ⟨b, second.trans (by rw [first]; rfl)⟩

/-- A recompute of the house hands the relative angle and the doubt flag to the SWU; a datum change moves no mark (R111, R122). -/
theorem updateHouse_swu (c : HrCause) (s : State) :
    (updateHouse c s).swu.heldHr = (updateHouse c s).pos.relative
      ∧ (updateHouse c s).swu.heldDoubt = s.pos.doubtful.swing
      ∧ (c = .datum → (updateHouse c s).swu.marks = s.swu.marks) := by
  obtain ⟨b, pos⟩ := updateHouse_pos c s
  have swu : ∃ b, (updateHouse c s).swu = { (takeHr ((houseAngle s.pos s.items - s.items.pitHeading) % Config.circle) c
      s.pos.doubtful.swing s.pos.headingConfirmed s).1.swu with heldHeading := b } :=
    ⟨_, ((reacts_report _ _).swu.trans (by rw [(reacts_report _ _).swu]; rfl))⟩
  obtain ⟨b', swu⟩ := swu
  rw [pos, swu]
  refine ⟨rfl, rfl, ?_⟩
  rintro rfl
  rfl

/-! ### The cam -/

/-- A hand-off of the cam angle leaves the POS but for the heading, and is held by the sequencer (R133). -/
theorem takeCam_held (c : Int) (ch : ChanState) (s : State) :
    (∃ b, (takeCam c ch s).1.pos = { s.pos with headingConfirmed := b }) ∧ (takeCam c ch s).1.wsq.heldCam = c := by
  simp only [takeCam]
  split
  · exact ⟨⟨_, (reacts_park _).pos⟩, (reacts_park _).heldCam⟩
  · exact ⟨⟨_, rfl⟩, rfl⟩

/-- A recompute of the cam writes its angle, which the sequencer then holds, and nothing else of the POS but the heading (R39). -/
theorem updateCam_pos (s : State) :
    (∃ b, (updateCam s).pos = { s.pos with cam := (s.items.camZero + camTerm s.pos) % 360, headingConfirmed := b })
      ∧ (updateCam s).wsq.heldCam = (s.items.camZero + camTerm s.pos) % 360 := by
  let c := (s.items.camZero + camTerm s.pos) % 360
  let m := takeCam c s.pos.handed.walk.state (s.withPos { s.pos with cam := c })
  obtain ⟨⟨b, pos⟩, cam⟩ := takeCam_held c s.pos.handed.walk.state (s.withPos { s.pos with cam := c })
  have settled := reacts_report m.2 m.1
  exact ⟨⟨_, settled.pos.trans (by rw [pos]; rfl)⟩, settled.heldCam.trans cam⟩

/-! ### A channel's hand-off -/

/-- A recompute leaves what the channels handed and the doubt flags (R35). -/
theorem updateAxis_pos (a : Axis) (c : HrCause) (s : State) :
    (updateAxis a c s).pos.handed = s.pos.handed ∧ (updateAxis a c s).pos.doubtful = s.pos.doubtful := by
  cases a
  case hoist => obtain ⟨b, e⟩ := updateDrum_pos .hoist s; simp only [updateAxis, e]; exact ⟨trivial, trivial⟩
  case drag => obtain ⟨b, e⟩ := updateDrum_pos .drag s; simp only [updateAxis, e]; exact ⟨trivial, trivial⟩
  case swing => obtain ⟨b, e⟩ := updateHouse_pos c s; simp only [updateAxis, e]; exact ⟨trivial, trivial⟩
  case walk => obtain ⟨⟨b, e⟩, -⟩ := updateCam_pos s; simp only [updateAxis, e]; exact ⟨trivial, trivial⟩

theorem setDoubt_handed (p : Pos) (a : Axis) (v : Bool) : (p.setDoubt a v).handed = p.handed := by cases a <;> rfl

theorem setDoubt_get (p : Pos) (d : Drive) (v : Bool) : (p.setDoubt d.axis v).doubtful.get d = v := by cases d <;> rfl

/-- A hand-off leaves the channel's state, φ and turn count with the POS (R30). -/
theorem handOff_handed (a : Axis) (recovered : Bool) (s : State) : (handOff a recovered s).pos.handed
    = s.pos.handed.set a ⟨(s.chan a).state, (s.chan a).phase, (s.chan a).turns⟩ := by
  simp only [handOff, (updateAxis_pos _ _ _).1]
  cases recovered
  · rfl
  · exact setDoubt_handed _ a true

/-- A recovery handed off sets the DOUBTFUL flag (R41). -/
theorem handOff_doubtful (d : Drive) (s : State) : (handOff d.axis true s).pos.doubtful.get d = true := by
  simp only [handOff, (updateAxis_pos _ _ _).2]
  exact setDoubt_get _ d true

end Sys2Proof.Machine
end

section
/-! The writes of the scale items: O42. -/

namespace Sys2Proof.Machine

/-- A write of a setup item of the part, outside RUN: what `writePart` makes of the state is what it leaves but for the port. -/
theorem part_written {r : Req} {i : Instr} {item w : Word} {s x : State} {first last : Nat} {adjusted : Bool}
    (h : s.lpu.bypass = .off) (mode : s.mgu.mode ≠ .run) (e : exec i s = serve r 2 (serveWrite item 0 [w]) s)
    (named : namedItem item.toNat 0 = some ⟨first, last, .part, .setup⟩)
    (written : writePart item.toNat w (goodFrameSeen s) = (x, adjusted)) (port : x.lpu = (goodFrameSeen s).lpu) :
    ∃ l, exec i s = .next (x.withLpu l) ∧ Answered r 2 (if adjusted then 1 else 0) [] s (x.withLpu l) := by
  obtain ⟨t, e', rest, answer⟩ := serve_answered (r := r) (code := 2) (body := serveWrite item 0 [w])
    (p := ⟨x, okIf adjusted, []⟩) h
    ((serveWrite_setup (s := goodFrameSeen s) (row := ⟨first, last, .part, .setup⟩) named rfl mode).trans
      (by simp only [writeItem, written]))
    port (Nat.zero_le _)
  exact ⟨t.lpu, rest ▸ e.trans e', rest ▸ okIf_code adjusted ▸ answer⟩

/-- A written word from 1 up is stored as sent. -/
theorem clamp_word (w : Word) : clamp 1 65535 (unsigned w) = max 1 (w.toNat : Int) := by
  have := w.isLt
  simp only [clamp, unsigned]; omega

theorem word_exact (w : Word) : (if clamp 1 65535 (unsigned w) != unsigned w then 1 else 0) = if 1 ≤ w.toNat then 0 else (1 : Nat) := by
  rw [notExact, clamp_word, unsigned]
  by_cases one : 1 ≤ w.toNat
  · simp [one]
  · simp [show w.toNat = 0 by omega]

/-- A write that finds the value already held changes nothing else. -/
theorem nothingElse_withLpu {r : Req} {status : Nat} {s : State} {l : Lpu}
    (answer : Answered r 2 status [] s ((goodFrameSeen s).withLpu l)) : NothingElse s ((goodFrameSeen s).withLpu l) :=
  ⟨⟨l, rfl⟩, answer.2.2.1⟩

/-- A changed rope constant: the state before the drum's recompute (R40). -/
def ropeChanged (d : Drum) (v : Int) (s : State) : State :=
  (s.withItems { s.items with ropeK := s.items.ropeK.set d v }).withPos (s.pos.setDoubt d.axis true)

theorem setRopeK_changed (d : Drum) {v : Int} {s : State} (h : s.items.ropeK.get d ≠ v) :
    setRopeK d v s = updateDrum d (ropeChanged d v s) := by simp only [setRopeK, if_neg h]; rfl

theorem setRopeK_held (d : Drum) {v : Int} {s : State} (h : s.items.ropeK.get d = v) : setRopeK d v s = s := by
  simp only [setRopeK, if_pos h]

/-- What a changed rope constant leaves: stored, the drum's payout recomputed and in doubt, and both handed to the ENV. -/
theorem setRopeK_spec (d : Drum) {v : Int} {s : State} (h : s.items.ropeK.get d ≠ v) :
    (setRopeK d v s).items = { s.items with ropeK := s.items.ropeK.set d v }
      ∧ (setRopeK d v s).pos.doubtful.get d.drive = true ∧ (setRopeK d v s).pos.payoutZero = s.pos.payoutZero
      ∧ (setRopeK d v s).env.lastDoubt.get d = true
      ∧ (setRopeK d v s).pos.payout.get d
          = clamp 0 65000 (s.pos.payoutZero.get d + floorDiv (s.pos.travel d.axis * v) Config.payoutDivisor)
      ∧ (setRopeK d v s).env.lastPayout.get d = (setRopeK d v s).pos.payout.get d
      ∧ (setRopeK d v s).tru = s.tru ∧ (setRopeK d v s).tables = s.tables ∧ (setRopeK d v s).dgu = s.dgu
      ∧ (setRopeK d v s).lpu = s.lpu := by
  rw [setRopeK_changed d h]
  have kept := handsOff_updateDrum d (ropeChanged d v s)
  obtain ⟨b, pos⟩ := updateDrum_pos d (ropeChanged d v s)
  obtain ⟨payout, doubt⟩ := updateDrum_env d (ropeChanged d v s)
  refine ⟨kept.items, ?_, ?_, ?_, ?_, ?_, kept.tru, kept.tables, updateDrum_dgu d _, kept.lpu⟩
  · rw [pos]; cases d <;> rfl
  · rw [pos]; cases d <;> rfl
  · rw [doubt]; cases d <;> rfl
  · rw [pos]; cases d <;> rfl
  · rw [payout, pos]; simp only [PerDrum.get_set]

/-- A changed gearing: the SWING turn count reduced, handed to the POS and put in doubt, before the recompute (R31, R40). -/
def gearChanged (v : Int) (s : State) : State :=
  let c := { s.chan .swing with turns := (s.chan .swing).turns % v }
  let p := { s.pos with handed := s.pos.handed.set .swing ⟨c.state, c.phase, c.turns⟩ }
  ((s.withItems { s.items with swingGear := v }).setChan .swing c).withPos (p.setDoubt .swing true)

theorem setSwingGear_changed {v : Int} {s : State} (h : s.items.swingGear ≠ v) :
    setSwingGear v s = updateHouse .datum (gearChanged v s) := by simp only [setSwingGear, if_neg h]; rfl

theorem setSwingGear_held {v : Int} {s : State} (h : s.items.swingGear = v) : setSwingGear v s = s := by
  simp only [setSwingGear, if_pos h]

/-- What a changed gearing leaves: stored, the turn count reduced, the house angle recomputed as a datum change and in doubt. -/
theorem setSwingGear_spec {v : Int} {s : State} (h : s.items.swingGear ≠ v) :
    (setSwingGear v s).items = { s.items with swingGear := v }
      ∧ (setSwingGear v s).chan .swing = { s.chan .swing with turns := (s.chan .swing).turns % v }
      ∧ (setSwingGear v s).pos.handed.swing = ⟨(s.chan .swing).state, (s.chan .swing).phase, (s.chan .swing).turns % v⟩
      ∧ (setSwingGear v s).pos.house = (s.pos.houseZero + Int.fdiv
          (((s.chan .swing).turns % v * 65536 + (s.chan .swing).phase) * 36000) (v * 65536)) % 36000
      ∧ (setSwingGear v s).pos.houseZero = s.pos.houseZero
      ∧ (setSwingGear v s).pos.relative = ((setSwingGear v s).pos.house - s.items.pitHeading) % 36000
      ∧ (setSwingGear v s).swu.heldHr = (setSwingGear v s).pos.relative
      ∧ (setSwingGear v s).pos.doubtful.swing = true ∧ (setSwingGear v s).swu.heldDoubt = true
      ∧ (setSwingGear v s).swu.marks = s.swu.marks ∧ (setSwingGear v s).tables = s.tables
      ∧ (setSwingGear v s).dgu = s.dgu ∧ (setSwingGear v s).lpu = s.lpu := by
  rw [setSwingGear_changed h]
  have kept := handsOff_updateHouse .datum (gearChanged v s)
  obtain ⟨b, pos⟩ := updateHouse_pos .datum (gearChanged v s)
  obtain ⟨hr, doubt, marks⟩ := updateHouse_swu .datum (gearChanged v s)
  refine ⟨kept.items, ?_, ?_, ?_, ?_, ?_, hr, ?_, doubt, marks rfl, kept.tables, updateHouse_dgu _ _, kept.lpu⟩
  · rw [kept.configKept.chan]; rfl
  all_goals rw [pos]; rfl

/-- A write of a drum's rope constant (R40): recomputed and put in doubt where it changes the constant, else without effect. -/
theorem ropeK_write (d : Drum) {r : Req} {i : Instr} {item w : Word} {s : State} (h : s.lpu.bypass = .off) (mode : s.mgu.mode ≠ .run)
    (e : exec i s = serve r 2 (serveWrite item 0 [w]) s) (named : namedItem item.toNat 0 = some ⟨40, 45, .part, .setup⟩)
    (written : ∀ u, writePart item.toNat w u
      = (setRopeK d (clamp 1 65535 (unsigned w)) u, clamp 1 65535 (unsigned w) != unsigned w)) :
    (s.items.ropeK.get d ≠ max 1 (w.toNat : Int) → ∃ t, exec i s = .next t
        ∧ t.items = { s.items with ropeK := s.items.ropeK.set d (max 1 (w.toNat : Int)) }
        ∧ t.pos.doubtful.get d.drive = true ∧ t.pos.payoutZero = s.pos.payoutZero ∧ t.env.lastDoubt.get d = true
        ∧ t.pos.payout.get d = clamp 0 65000
            (s.pos.payoutZero.get d + floorDiv (s.pos.travel d.axis * max 1 (w.toNat : Int)) Config.payoutDivisor)
        ∧ t.env.lastPayout.get d = t.pos.payout.get d ∧ t.tru = s.tru ∧ t.tables = s.tables ∧ t.dgu = s.dgu
        ∧ Answered r 2 (if 1 ≤ w.toNat then 0 else 1) [] s t)
      ∧ (s.items.ropeK.get d = max 1 (w.toNat : Int) → ∃ t, exec i s = .next t ∧ NothingElse s t
        ∧ Answered r 2 (if 1 ≤ w.toNat then 0 else 1) [] s t) := by
  rw [← clamp_word, ← word_exact]
  constructor
  · intro changed
    obtain ⟨items, doubtful, zero, envDoubt, payout, envPayout, tru, tables, dgu, lpu⟩ :=
      setRopeK_spec d (s := goodFrameSeen s) changed
    obtain ⟨l, e, answer⟩ := part_written h mode e named (written _) lpu
    exact ⟨_, e, items, doubtful, zero, envDoubt, payout, envPayout, tru, tables, dgu, answer⟩
  · intro held
    have same := setRopeK_held d (s := goodFrameSeen s) held
    obtain ⟨l, e, answer⟩ := part_written h mode e named ((written _).trans (by rw [same])) rfl
    exact ⟨_, e, nothingElse_withLpu answer, answer⟩

/-- Settles O42: each write of a scale item comes to its recompute (`ropeK_write`, `setSwingGear_spec`, `updateCam_pos`). -/
theorem scaleItemWrites : Obligations.ScaleItemWrites := by
  intro r w s h mode
  obtain ⟨hoistChanged, hoistHeld⟩ := ropeK_write .hoist (r := r) (i := .hoistRopeK r [w]) (item := 40) h mode rfl rfl (fun _ => rfl)
  obtain ⟨dragChanged, dragHeld⟩ := ropeK_write .drag (r := r) (i := .dragRopeK r [w]) (item := 41) h mode rfl rfl (fun _ => rfl)
  refine ⟨⟨hoistChanged, dragChanged, fun changed => ?_, hoistHeld, dragHeld, fun held => ?_⟩, ?_⟩
  · rw [← clamp_word] at changed
    obtain ⟨items, chan, handed, house, zero, relative, hr, doubt, heldDoubt, marks, tables, dgu, lpu⟩ :=
      setSwingGear_spec (s := goodFrameSeen s) changed
    obtain ⟨l, e, answer⟩ := part_written (r := r) (i := .swingGear r [w]) (item := 28) (w := w) h mode rfl rfl rfl lpu
    rw [← clamp_word, ← word_exact]
    exact ⟨_, e, items, chan, handed, house, zero, relative, hr, doubt, heldDoubt, marks, tables, dgu, answer⟩
  · have same := setSwingGear_held (s := goodFrameSeen s) ((clamp_word w).symm ▸ held)
    obtain ⟨l, e, answer⟩ := part_written (r := r) (i := .swingGear r [w]) (item := 28) (w := w) h mode rfl rfl
      (congrArg (·, _) same) rfl
    rw [← word_exact]
    exact ⟨_, e, nothingElse_withLpu answer, answer⟩
  · let u := (goodFrameSeen s).withItems { s.items with camZero := clamp 0 359 (unsigned w) }
    have kept := handsOff_updateCam u
    obtain ⟨⟨b, pos⟩, cam⟩ := updateCam_pos u
    obtain ⟨l, e, answer⟩ := part_written (r := r) (i := .camZero r [w]) (item := 45) (w := w) (x := updateCam u) h mode rfl rfl rfl
      kept.lpu
    rw [← clamp_unsigned 359 w (by decide), ← clamp_exact (top := 359) (n := 359) rfl w]
    refine ⟨_, e, kept.items, ?_, ?_, kept.tru, kept.tables, updateCam_dgu u, answer⟩
    · rw [State.withLpu_pos, pos]; rfl
    · rw [State.withLpu_pos, State.withLpu_wsq, pos]; exact cam

end Sys2Proof.Machine
end

section
/-! SUPPORT. Which conditions a channel's hand-off can report, and what a SAMPLE frame leaves of the device. -/

namespace Sys2Proof.Machine

/-! ### Conditions that stand -/

/-- A condition's raw state and detail stand. -/
structure CondKept (n : Nat) (s t : State) : Prop where
  raised : t.alu.raised n = s.alu.raised n
  detail : (t.alu.cond n).detail = (s.alu.cond n).detail

theorem CondKept.trans {n : Nat} {a b c : State} (h : CondKept n a b) (k : CondKept n b c) : CondKept n a c :=
  ⟨k.raised.trans h.raised, k.detail.trans h.detail⟩

theorem condKept_of_alu {n : Nat} {s t : State} (h : t.alu = s.alu) : CondKept n s t := by
  constructor <;> rw [h]

/-- A report keeps the conditions that neither it nor the sequencer's reaction names. -/
theorem condKept_report {n : Nat} {s u : State} (rs : List Report) (h : n ∉ reactionNumbers) (k : ∀ r ∈ rs, r.number ≠ n)
    (c : CondKept n s u) : CondKept n s (report rs u) :=
  c.trans ⟨(report_other rs u n h k).1, (report_other rs u n h k).2.1⟩

/-- The conditions a channel's hand-off can report: DOUBTFUL_x, PAYOUT_RANGE_x and SWING_INSIDE_FORBIDDEN, and what the sequencer
reports as it parks or reacts. -/
def positionNumbers : List Nat :=
  Drive.all.map cDoubtful ++ [cPayoutRange .hoist, cPayoutRange .drag, cInsideForbidden] ++ reactionNumbers

theorem not_reaction {n : Nat} (h : n ∉ positionNumbers) : n ∉ reactionNumbers := fun x => h (List.mem_append_right _ x)

section
variable {n : Nat} {s u : State}

theorem condKept_updateDrum (d : Drum) (h : n ∉ positionNumbers) (k : CondKept n s u) : CondKept n s (updateDrum d u) := by
  refine condKept_report _ (not_reaction h) ?_ (k.trans (condKept_of_alu rfl))
  intro r mem e
  refine h (e ▸ ?_)
  have range (u : Int) : (rangeReport d u).number = cPayoutRange d := by
    unfold rangeReport; split
    · rfl
    · split <;> rfl
  simp only [List.mem_cons, List.not_mem_nil, or_false] at mem
  rcases mem with rfl | rfl
  · show cDoubtful d.drive ∈ positionNumbers
    cases d <;> decide
  · rw [range]
    cases d <;> decide

theorem insideReport_number (t6 : Table) (inside : List Nat) : (insideReport t6 inside).number = cInsideForbidden := by
  unfold insideReport; split <;> rfl

theorem condKept_updateHouse (c : HrCause) (h : n ∉ positionNumbers) (k : CondKept n s u) : CondKept n s (updateHouse c u) := by
  refine condKept_report _ (not_reaction h) ?_ (condKept_report _ (not_reaction h) ?_ (k.trans (condKept_of_alu rfl)))
  all_goals
    intro r mem e
    refine h (e ▸ ?_)
    obtain rfl := List.mem_singleton.1 mem
  · rw [insideReport_number]; decide
  · show cDoubtful .swing ∈ positionNumbers; decide

theorem beginReturn_numbers (s : State) : ∀ r ∈ (beginReturn s).2, r.number ∈ reactionNumbers := by
  simp only [beginReturn]
  split <;> simp [Report.number, reactionNumbers]

theorem park_numbers (s : State) : ∀ r ∈ (park s).2, r.number ∈ reactionNumbers := by
  have ready : ∀ r ∈ (enterWalkReady (holdWalk s)).2, r.number ∈ reactionNumbers := by
    simp [enterWalkReady, shoesFall, Report.number, reactionNumbers]
  simp only [park]
  split
  · intro r mem
    rcases List.mem_append.1 mem with m | m
    · exact ready r m
    · exact beginReturn_numbers _ r m
  · exact ready

theorem takeCam_numbers (c : Int) (ch : ChanState) (s : State) : ∀ r ∈ (takeCam c ch s).2, r.number ∈ reactionNumbers := by
  simp only [takeCam]
  split
  · exact park_numbers _
  · simp

theorem takeCam_alu (c : Int) (ch : ChanState) (s : State) : (takeCam c ch s).1.alu = s.alu := by
  simp only [takeCam]
  split
  · exact park_alu _
  · rfl

theorem condKept_updateCam (h : n ∉ positionNumbers) (k : CondKept n s u) : CondKept n s (updateCam u) :=
  condKept_report _ (not_reaction h) (fun r mem e => not_reaction h (e ▸ takeCam_numbers _ _ _ r mem))
    (k.trans (condKept_of_alu (takeCam_alu _ _ _)))

/-- A channel's hand-off keeps every condition but those of the position (R35, R37, R42, R120). -/
theorem condKept_handOff (a : Axis) (recovered : Bool) (h : n ∉ positionNumbers) (k : CondKept n s u) :
    CondKept n s (handOff a recovered u) := by
  have handed (p : Pos) : CondKept n s (u.withPos p) := k.trans (condKept_of_alu rfl)
  unfold handOff updateAxis
  cases a
  case hoist => exact condKept_updateDrum .hoist h (handed _)
  case drag => exact condKept_updateDrum .drag h (handed _)
  case swing => exact condKept_updateHouse .movement h (handed _)
  case walk => exact condKept_updateCam h (handed _)

end

theorem cTrackFault_not_position (a : Axis) : cTrackFault a ∉ positionNumbers := by cases a <;> decide
theorem cOverspeed_not_position (a : Axis) : cOverspeed a ∉ positionNumbers := by cases a <;> decide

/-! ### A SAMPLE frame that its channel takes -/

/-- The device after a channel's work on a frame or marker, its reports and its hand-off (R30). -/
def channelServed (a : Axis) (c : Channel) (rs : List Report) (recovered : Bool) (s : State) : State :=
  handOff a recovered (report rs (s.setChan a c))

section
variable (a : Axis) (c : Channel) (rs : List Report) (recovered : Bool) (s : State)

theorem handsOff_channelServed : HandsOff (s.setChan a c) (channelServed a c rs recovered s) :=
  (handsOff_report _ _).trans (handsOff_handOff a recovered _)

theorem channelServed_chan : (channelServed a c rs recovered s).chan a = c := by
  rw [(handsOff_channelServed a c rs recovered s).configKept.chan]
  exact State.setChan_same s a c

theorem channelServed_other {b : Axis} (h : b ≠ a) : (channelServed a c rs recovered s).chan b = s.chan b := by
  rw [(handsOff_channelServed a c rs recovered s).configKept.chan]
  exact State.setChan_other s c h

theorem channelServed_handed : (channelServed a c rs recovered s).pos.handed = s.pos.handed.set a ⟨c.state, c.phase, c.turns⟩ := by
  obtain ⟨b, pos⟩ := report_pos rs (s.setChan a c)
  have chan : (report rs (s.setChan a c)).chan a = c := by
    rw [(reacts_report _ _).configKept.chan]; exact State.setChan_same s a c
  rw [channelServed, handOff_handed, chan, pos]
  rfl

theorem channelServed_dgu : (channelServed a c rs recovered s).dgu = s.dgu :=
  (handOff_dgu a recovered _).trans (report_dgu rs _)

/-- A level condition that the channel reports once, and that is none of the position's, stands as reported. -/
theorem channelServed_level {n : Nat} {b : Bool} {d : Option Nat} (h : n ∉ positionNumbers) (hn : n < s.alu.conds.length)
    (mem : .level n b d ∈ rs) (once : (rs.map Report.number).Nodup) :
    (channelServed a c rs recovered s).alu.raised n = b
      ∧ (b = true → ((channelServed a c rs recovered s).alu.cond n).detail = d) := by
  have kept := condKept_handOff (s := report rs (s.setChan a c)) a recovered h (condKept_of_alu rfl)
  obtain ⟨raised, detail⟩ := report_level rs (s.setChan a c) n b d (not_reaction h) hn mem once
  exact ⟨kept.raised.trans raised, fun x => kept.detail.trans (detail x)⟩

end

end Sys2Proof.Machine
end

section
/-! SAMPLE frames as commands: what a frame leaves of the device, from the run of its channel's stages, and O22. -/

namespace Sys2Proof.Machine

/-! ### The frame and its channel -/

theorem sampleTarget_eq {src : Byte} {d : SampleData} {a : Axis} {s : State} (ch : d.channel.toNat = a.code) :
    sampleTarget src d s = if (s.items.channels.get a).sampleSource = src.toNat then some a else none := by
  simp [sampleTarget, ch]

/-- A frame whose channel field names no channel, or one of another digitiser, reaches no block (R1, R3). -/
theorem sampleTarget_none {src : Byte} {d : SampleData} {s : State}
    (h : ∀ a, d.channel.toNat = a.code → (s.items.channels.get a).sampleSource ≠ src.toNat) : sampleTarget src d s = none := by
  unfold sampleTarget
  split
  · rename_i a e
    exact if_neg (h a (Axis.ofCode_eq_some.1 e))
  · rfl

/-- What a taken SAMPLE frame leaves before it is forwarded (R4, R30). -/
def sampleServed (d : SampleData) (a : Axis) (s : State) : State :=
  let r := takeSample (s.chanCtx a) d (s.chan a)
  channelServed a r.run.chan r.run.reports r.recovered s

theorem takeSampleFrame_taken {src : Byte} {d : SampleData} {a : Axis} {s : State} (ch : d.channel.toNat = a.code)
    (source : (s.items.channels.get a).sampleSource = src.toNat)
    (fresh : (takeSample (s.chanCtx a) d (s.chan a)).duplicate = false) : takeSampleFrame src d s = sampleServed d a s := by
  simp only [takeSampleFrame, sampleTarget_eq ch, if_pos source, fresh]
  rfl

theorem takeSampleFrame_duplicate {src : Byte} {d : SampleData} {a : Axis} {s : State} (ch : d.channel.toNat = a.code)
    (dup : (takeSample (s.chanCtx a) d (s.chan a)).duplicate = true) : takeSampleFrame src d s = s := by
  simp only [takeSampleFrame, sampleTarget_eq ch]
  by_cases source : (s.items.channels.get a).sampleSource = src.toNat
  · simp [source, dup]
  · simp [source]

/-- A frame is a duplicate where it carries the last sequence number (R5). -/
theorem takeSample_duplicate (ctx : ChanCtx) (d : SampleData) (c : Channel) :
    (takeSample ctx d c).duplicate = decide (seqGap c d.sequence.toNat = some 0) := by
  simp only [takeSample]
  split
  · simp [*]
  · rename_i gap
    simp only [gap, decide_false]
    split
    · rfl
    · rfl
    all_goals split <;> rfl

section
variable {l : Link} {d : SampleData} {a : Axis} {s : State}

/-- A SAMPLE frame in the loop: taken by its channel and forwarded. -/
theorem exec_sample_in (h : s.lpu.bypass = .off) (f : fits l 8 = true) : exec (.sample l d) s
    = .next (offerForwarded (received kindSample l (sampleWords d)) (takeSampleFrame l.src d (goodFrameSeen s))) :=
  congrArg Host.Outcome.next (delivered_in _ l (sampleWords d) _ s h f)

theorem sampleServed_lpu (d : SampleData) (a : Axis) (s : State) : (sampleServed d a s).lpu = s.lpu :=
  (handsOff_channelServed a _ _ _ s).lpu

/-- The taken frame as a command: what its channel's work leaves, but for the port. -/
theorem exec_sample_taken (h : s.lpu.bypass = .off) (f : fits l 8 = true) (ch : d.channel.toNat = a.code)
    (source : (s.items.channels.get a).sampleSource = l.src.toNat)
    (fresh : (takeSample (s.chanCtx a) d (s.chan a)).duplicate = false) :
    ∃ p, exec (.sample l d) s = .next ((sampleServed d a (goodFrameSeen s)).withLpu p)
      ∧ Delivered (received kindSample l (sampleWords d)) s ((sampleServed d a (goodFrameSeen s)).withLpu p) := by
  have taken := takeSampleFrame_taken (s := goodFrameSeen s) ch source fresh
  refine ⟨_, (exec_sample_in h f).trans (by rw [taken, offerForwarded_lpu]), ?_⟩
  rw [← offerForwarded_lpu]
  exact delivered_offerForwarded _ (sampleServed_lpu d a _)

/-- What a channel's work leaves of the device, from the run of its stages: the channel, its hand-off, and the level conditions that it
reports once. -/
structure Served (a : Axis) (run : Run) (s t : State) : Prop where
  chan : t.chan a = run.chan
  handed : t.pos.handed.get a = ⟨run.chan.state, run.chan.phase, run.chan.turns⟩
  config : SameConfig s t
  level : ∀ n b d, n ∉ positionNumbers → n < s.alu.conds.length → .level n b d ∈ run.reports →
    (run.reports.map Report.number).Nodup → t.alu.raised n = b ∧ (b = true → (t.alu.cond n).detail = d)

/-- The taken frame as a command, from the run of its stages. -/
theorem exec_sample_run {run : Run} (h : s.lpu.bypass = .off) (f : fits l 8 = true) (ch : d.channel.toNat = a.code)
    (source : (s.items.channels.get a).sampleSource = l.src.toNat) (gap : seqGap (s.chan a) d.sequence.toNat ≠ some 0)
    (staged : (takeSample (s.chanCtx a) d (s.chan a)).run = run) : ∃ t, exec (.sample l d) s = .next t ∧ Served a run s t := by
  subst staged
  obtain ⟨p, e, -⟩ := exec_sample_taken h f ch source (by simp [takeSample_duplicate, gap])
  have kept := handsOff_channelServed a (takeSample (s.chanCtx a) d (s.chan a)).run.chan
    (takeSample (s.chanCtx a) d (s.chan a)).run.reports (takeSample (s.chanCtx a) d (s.chan a)).recovered (goodFrameSeen s)
  refine ⟨_, e, channelServed_chan a _ _ _ _, ?_, ⟨kept.items, kept.tables⟩, fun n b x other within mem once =>
    channelServed_level a _ _ _ (goodFrameSeen s) other within mem once⟩
  rw [State.withLpu_pos, sampleServed, channelServed_handed, PerAxis.get_set]
  rfl

/-- A frame that its channel leaves alone is only forwarded. -/
theorem exec_sample_ignored (h : s.lpu.bypass = .off) (f : fits l 8 = true)
    (same : takeSampleFrame l.src d (goodFrameSeen s) = goodFrameSeen s) :
    ∃ t, exec (.sample l d) s = .next t ∧ NothingElse s t ∧ Delivered (received kindSample l (sampleWords d)) s t :=
  ⟨_, exec_sample_in h f, by rw [same]; exact nothingElse_offerForwarded _ s, by rw [same]; exact delivered_offerForwarded _ rfl⟩

end

/-! ### A frame one number on -/

/-- A sequence number one on has gap 1, and so has the first frame of a channel (R5; assumption 8). -/
theorem seqGap_next {c : Channel} {n : Byte}
    (h : c.lastSeq = none ∨ ∃ q, c.lastSeq = some q ∧ q < 256 ∧ (q + 1) % 256 = n.toNat) :
    seqGap c n.toNat ≠ some 0 ∧ (seqGap c n.toNat).getD 1 = 1 := by
  rcases h with e | ⟨q, e, small, next⟩
  · simp [seqGap, e]
  · have : (n.toNat + 256 - q) % 256 = 1 := by omega
    simp [seqGap, e, this]

/-- Only the last number itself has gap 0. -/
theorem seqGap_fresh {c : Channel} {n : Byte} (other : c.lastSeq ≠ some n.toNat) (small : ∀ q, c.lastSeq = some q → q < 256) :
    seqGap c n.toNat ≠ some 0 := by
  unfold seqGap
  cases e : c.lastSeq with
  | none => simp
  | some q =>
    have := small q e
    have := n.isLt
    have : q ≠ n.toNat := fun x => other (x ▸ e)
    simp only [Option.map_some, ne_eq, Option.some.injEq]
    omega

/-! ### O22 -/

/-- A frame that takes a channel from FAULT to ACQUIRE is a recovery (R27). -/
theorem takeSample_recovered {ctx : ChanCtx} {d : SampleData} {c : Channel} (old : c.state = .fault)
    (gap : seqGap c d.sequence.toNat ≠ some 0) (new : (takeSample ctx d c).run.chan.state = .acquire) :
    (takeSample ctx d c).recovered = true := by
  simp only [takeSample, if_neg gap, old] at new ⊢
  simp [new]

theorem sampleServed_doubtful {d : SampleData} {e : Drive} {s : State}
    (h : (takeSample (s.chanCtx e.axis) d (s.chan e.axis)).recovered = true) :
    (sampleServed d e.axis s).pos.doubtful.get e = true := by
  simp only [sampleServed, channelServed, h]
  exact handOff_doubtful e _

/-- Settles O22: the frame reaches its channel alone (`channelServed_chan`, `channelServed_other`, `tracks_takeSample`), or nothing. -/
theorem sampleFrame : Obligations.SampleFrame := by
  intro l d s h f
  refine ⟨fun a ch source other small => ?_, fun a ch same => ?_, fun source => ?_⟩
  · have gap := seqGap_fresh other small
    have fresh : (takeSample (s.chanCtx a) d (s.chan a)).duplicate = false := by simp [takeSample_duplicate, gap]
    obtain ⟨p, e, delivered⟩ := exec_sample_taken h f ch source fresh
    have kept := handsOff_channelServed a (takeSample (s.chanCtx a) d (s.chan a)).run.chan
      (takeSample (s.chanCtx a) d (s.chan a)).run.reports (takeSample (s.chanCtx a) d (s.chan a)).recovered (goodFrameSeen s)
    have chan : ((sampleServed d a (goodFrameSeen s)).withLpu p).chan a = (takeSample (s.chanCtx a) d (s.chan a)).run.chan :=
      channelServed_chan a _ _ _ _
    have tracks := tracks_takeSample (s.chanCtx a) d (s.chan a) gap
    have doubt : (takeSample (s.chanCtx a) d (s.chan a)).recovered = true → ∀ e : Drive, e.axis = a →
        ((sampleServed d a (goodFrameSeen s)).withLpu p).pos.doubtful.get e = true := by
      rintro recovered e rfl
      exact sampleServed_doubtful (s := goodFrameSeen s) recovered
    refine ⟨_, e, chan, ?_, ?_, ?_, fun b x => channelServed_other a _ _ _ _ x, ?_, fun old new => doubt ?_, doubt, delivered,
      ⟨kept.items, kept.tables⟩, channelServed_dgu a _ _ _ _, kept.pending⟩
    · rw [chan]; exact tracks.lastSeq
    · rw [chan]; exact tracks.note
    · rw [chan]; exact tracks.stale
    · rw [chan]; exact channelServed_handed a _ _ _ _
    · exact takeSample_recovered old gap (chan ▸ new)
  · exact exec_sample_ignored h f (takeSampleFrame_duplicate ch (by simp [takeSample_duplicate, seqGap, same]))
  · refine exec_sample_ignored h f ?_
    simp only [takeSampleFrame, sampleTarget_none (s := goodFrameSeen s) source]

end Sys2Proof.Machine
end

section
/-! Faults of a channel (R26), and the front tests that bring them: O50. -/

namespace Sys2Proof.Machine

/-! ### Entry into FAULT -/

/-- Entry into FAULT records the cause and ends learning; all else of the channel but the accumulators is held (R16, R26). -/
theorem enterFault_chan (ctx : ChanCtx) (cause : Cause) (r : Run) : ∃ acc, (enterFault ctx cause r).chan
    = { r.chan with state := .fault, cause := some cause, learn := .idle, acc := acc } := by
  simp only [enterFault, faultLearning, Run.say]
  split
  · rename_i idle
    exact ⟨r.chan.acc, by rw [← idle]⟩
  · exact ⟨none, rfl⟩

/-- Entry into FAULT reports TRACK_FAULT_x with the cause once, behind what was reported before (R26). -/
theorem enterFault_reports (ctx : ChanCtx) (cause : Cause) {r : Run} (none : r.reports = []) :
    .level (cTrackFault ctx.axis) true (some cause.code) ∈ (enterFault ctx cause r).reports
      ∧ ((enterFault ctx cause r).reports.map Report.number).Nodup := by
  have distinct : cTrackFault ctx.axis ≠ cLearnFail := by cases ctx.axis <;> decide
  simp only [enterFault, faultLearning, Run.say, none]
  split
  · simp
  · simp [Report.number, distinct]

theorem cTrackFault_lt {s : State} (ok : AlarmsOk s) (a : Axis) : cTrackFault a < s.alu.conds.length := by
  rw [ok.1]; cases a <;> decide

/-- A channel whose run enters FAULT: the condition stands with the cause, and the POS has the state (R26, R30). -/
theorem Served.fault {a : Axis} {ctx : ChanCtx} {cause : Cause} {r : Run} {s t : State} (served : Served a (enterFault ctx cause r) s t)
    (ax : ctx.axis = a) (ok : AlarmsOk s) (none : r.reports = []) :
    t.alu.raised (cTrackFault a) = true ∧ (t.alu.cond (cTrackFault a)).detail = some cause.code
      ∧ (t.pos.handed.get a).state = .fault := by
  subst ax
  obtain ⟨mem, once⟩ := enterFault_reports ctx cause none
  obtain ⟨acc, chan⟩ := enterFault_chan ctx cause r
  obtain ⟨raised, detail⟩ := served.level _ _ _ (cTrackFault_not_position _) (cTrackFault_lt ok _) mem once
  exact ⟨raised, detail rfl, by rw [served.handed, chan]⟩

/-! ### The front tests -/

theorem truthy_of_ne {w : Word} (h : w ≠ 0#16) : truthy w = true := by simp [truthy, h]

theorem clipped_iff (v : Int) : clipped v = true ↔ v ≤ -2048 ∨ 2047 ≤ v := by simp [clipped]

/-- Excitation bad is a loss, whatever the pair (R6). -/
theorem frontFault_loss {d : SampleData} (h : d.excitation = 0#16) : frontFault d = some .loss := by
  simp [frontFault, truthy, h]

/-- A raw value at or outside the ends of its range is clipped (R6). -/
theorem frontFault_clip {d : SampleData} (h : d.excitation ≠ 0#16)
    (out : clipped d.sine.toInt = true ∨ clipped d.cosine.toInt = true) : frontFault d = some .clip := by
  rcases out with x | x <;> simp [frontFault, truthy_of_ne h, signed, x]

/-- Good excitation and a pair inside its range pass (R6). -/
theorem frontFault_none {d : SampleData} (h : d.excitation ≠ 0#16) (sine : clipped d.sine.toInt = false)
    (cosine : clipped d.cosine.toInt = false) : frontFault d = none := by
  simp [frontFault, truthy_of_ne h, signed, sine, cosine]

/-- A frame one number on that fails a front test puts its channel in FAULT, whatever state it was in (R6, R24, R27). -/
theorem takeSample_frontFault {ctx : ChanCtx} {d : SampleData} {c : Channel} {cause : Cause}
    (gap : seqGap c d.sequence.toNat ≠ some 0 ∧ (seqGap c d.sequence.toNat).getD 1 = 1) (front : frontFault d = some cause) :
    (takeSample ctx d c).run = enterFault ctx cause ⟨arrive d.sequence.toNat c, []⟩ := by
  simp only [takeSample, if_neg gap.1, gap.2]
  split
  · simp [tryAcquire, front]
  · simp [tryRecover, recoveryFault, front]
  all_goals simp [trackPair, coast, front]

/-- A pair too weak to acquire an UNLOCKED channel is a loss (R17, R24). -/
theorem takeSample_tooWeak {ctx : ChanCtx} {d : SampleData} {c : Channel} (gap : seqGap c d.sequence.toNat ≠ some 0)
    (front : frontFault d = none) (unlocked : c.state = .unlocked) (weak : tooWeak ctx.items (correct c.used (pairOf d)) = true) :
    (takeSample ctx d c).run = enterFault ctx .loss ⟨arrive d.sequence.toNat c, []⟩ := by
  simp [takeSample, if_neg gap, unlocked, tryAcquire, front, arrive, weak]

/-! ### O50 -/

/-- A taken frame whose run enters FAULT leaves the channel and TRACK_FAULT_x so, all else of the channel held. -/
theorem exec_sample_fault {l : Link} {d : SampleData} {a : Axis} {s : State} {cause : Cause} (h : s.lpu.bypass = .off)
    (f : fits l 8 = true) (ok : AlarmsOk s) (ch : d.channel.toNat = a.code)
    (source : (s.items.channels.get a).sampleSource = l.src.toNat) (gap : seqGap (s.chan a) d.sequence.toNat ≠ some 0)
    (run : (takeSample (s.chanCtx a) d (s.chan a)).run = enterFault (s.chanCtx a) cause ⟨arrive d.sequence.toNat (s.chan a), []⟩) :
    ∃ t, exec (.sample l d) s = .next t ∧ (t.chan a).state = .fault ∧ (t.chan a).cause = some cause
      ∧ (t.chan a).phase = (s.chan a).phase ∧ (t.chan a).speed = (s.chan a).speed ∧ (t.chan a).turns = (s.chan a).turns
      ∧ (t.chan a).last = (s.chan a).last ∧ (t.chan a).learn = .idle ∧ t.alu.raised (cTrackFault a) = true
      ∧ (t.alu.cond (cTrackFault a)).detail = some cause.code ∧ (t.pos.handed.get a).state = .fault ∧ SameConfig s t := by
  obtain ⟨t, e, served⟩ := exec_sample_run h f ch source gap run
  obtain ⟨acc, chan⟩ := enterFault_chan (s.chanCtx a) cause ⟨arrive d.sequence.toNat (s.chan a), []⟩
  obtain ⟨raised, detail, handed⟩ := served.fault rfl ok rfl
  have left := served.chan.trans chan
  refine ⟨t, e, ?_, ?_, ?_, ?_, ?_, ?_, ?_, raised, detail, handed, served.config⟩
  all_goals simp only [left, arrive]

/-- Settles O50: each failing test leads `takeSample` to `enterFault` with its cause. -/
theorem sampleFaults : Obligations.SampleFaults := by
  intro l d a s h f ok ch source number
  have gap := seqGap_next number
  refine ⟨fun bad => ?_, fun good out => ?_, fun good sine cosine unlocked _ weak => ?_⟩
  · exact exec_sample_fault h f ok ch source gap.1 (takeSample_frontFault gap (frontFault_loss bad))
  · exact exec_sample_fault h f ok ch source gap.1
      (takeSample_frontFault gap (frontFault_clip good (out.imp (clipped_iff _).2 (clipped_iff _).2)))
  · have front := frontFault_none good (by simpa [clipped] using sine) (by simpa [clipped] using cosine)
    exact exec_sample_fault h f ok ch source gap.1 (takeSample_tooWeak gap.1 front unlocked (decide_eq_true weak))

end Sys2Proof.Machine
end

section
/-! SUPPORT. The stages of an accepted frame: the tests it passes, the loop update, the settling and the acquisition (R6 to R25). -/

namespace Sys2Proof.Machine

/-! ### From the front tests to the loop -/

section
variable {ctx : ChanCtx} {d : SampleData} {c : Channel} {r : Run} {p p0 : Pair}

/-- In ACQUIRE and TRACKING a frame one number on coasts no step (R4, R5). -/
theorem takeSample_next (gap : seqGap c d.sequence.toNat ≠ some 0 ∧ (seqGap c d.sequence.toNat).getD 1 = 1)
    (state : c.state = .tracking ∨ c.state = .acquire) :
    (takeSample ctx d c).run = trackPair ctx d ⟨arrive d.sequence.toNat c, []⟩ := by
  simp only [takeSample, if_neg gap.1, gap.2]
  rcases state with e | e <;> rw [e] <;> rfl

/-- A pair within the threshold of the last one is not rejected in NOISE_MODE ONE (R7). -/
theorem rejected_one {it : ChannelItems} (mode : it.noiseMode = .one) (last : c.last = some p0)
    (s : |p.s - p0.s| ≤ it.noiseThreshold) (k : |p.c - p0.c| ≤ it.noiseThreshold) : rejected it c p = false := by
  simp [rejected, mode, last, noisy, mag_eq_abs, not_lt.2 s, not_lt.2 k]

/-- A pair that passes the front and noise tests is accepted (R6 to R8). -/
theorem trackPair_accept (front : frontFault d = none) (rejects : r.chan.rejects < 3)
    (kept : rejected ctx.items r.chan (pairOf d) = false) : trackPair ctx d r = acceptPair ctx (pairOf d) r := by
  simp [trackPair, front, kept, not_le.2 rejects]

/-- A channel as an accepted pair leaves its history (R9). -/
def withPair (n : Nat) (p : Pair) (c : Channel) : Channel :=
  { c with stuckCount := n, last := some p, second := c.last, rejects := 0 }

/-- The sixteenth equal pair under motion is STUCK (R9). -/
theorem acceptPair_stuck (last : r.chan.last = some p) (speed : 4 ≤ |r.chan.speed|) (count : r.chan.stuckCount = 15) :
    acceptPair ctx p r = enterFault ctx .stuck { r with chan := withPair 16 p r.chan } := by
  have next : stuckNext r.chan p = 16 := by simp [stuckNext, last, mag_eq_abs, speed, count]
  simp [acceptPair, next, withPair]

/-- A pair other than the last one, and not too weak, reaches the loop (R9, R10, R17). -/
theorem acceptPair_loop (last : r.chan.last = some p0) (other : p0 ≠ p)
    (strong : tooWeak ctx.items (correct r.chan.used p) = false) :
    acceptPair ctx p r = loopUpdate ctx p (angleOf (correct r.chan.used p)) { r with chan := withPair 0 p r.chan } := by
  have next : stuckNext r.chan p = 0 := by simp [stuckNext, last, other]
  simp [acceptPair, next, strong, withPair]

end

/-! ### The loop update -/

/-- The phase carry writes the phase and the turn count (R20). -/
theorem carryPhase_eq (ctx : ChanCtx) (raw : Int) (c : Channel) : carryPhase ctx raw c
    = { c with
        phase := if 65536 ≤ raw then raw - 65536 else if raw < 0 then raw + 65536 else raw
        turns := if 65536 ≤ raw then turnAfter ctx .forward c.turns else if raw < 0 then turnAfter ctx .reverse c.turns
          else c.turns } := by
  unfold carryPhase wrapOf
  by_cases up : 65536 ≤ raw
  · simp [up]
  · by_cases down : raw < 0 <;> simp [up, down]

/-- Gain scheduling writes the gain level and the boost, in SCHEDULED mode by the bands (R22). -/
theorem schedule_eq (it : ChannelItems) (e : Int) (c : Channel) : ∃ g b, schedule it e c = { c with gain := g, boost := b }
    ∧ (it.gainMode = .scheduled → g = if it.bandUp ≤ |e| then min it.gainHigh (c.gain + 1)
        else if |e| < it.bandDown then max it.gainLow (c.gain - 1) else c.gain) := by
  simp only [schedule, mag_eq_abs]
  split
  · split
    · exact ⟨_, c.boost, rfl, fun _ => rfl⟩
    · split
      · exact ⟨_, c.boost, rfl, fun _ => rfl⟩
      · exact ⟨c.gain, c.boost, rfl, fun _ => rfl⟩
  · rename_i fixed
    split
    · exact ⟨_, _, rfl, by simp [fixed]⟩
    · exact ⟨c.gain, c.boost, rfl, by simp [fixed]⟩

/-- The channel an update leaves before learning takes part: moved, rescheduled and settled (R19 to R22, R25). -/
def moved (ctx : ChanCtx) (theta : Int) (c : Channel) : Channel :=
  let e := loopError theta c.phase
  settleStage ctx.items e
    (schedule ctx.items e { carryPhase ctx (rawSum ctx.items e c) c with speed := speedNext ctx.items e c })

/-- An index event writes learning, its accumulators and the values in use alone (R13 to R15). -/
theorem indexEvent_chan (ctx : ChanCtx) (w : Wrap) (p : Option Pair) (r : Run) :
    ∃ k acc u, (indexEvent ctx w p r).chan = { r.chan with learn := k, acc := acc, used := u } := by
  unfold indexEvent
  split
  · exact ⟨_, _, _, rfl⟩
  · exact ⟨_, _, _, rfl⟩
  · exact ⟨_, _, _, rfl⟩
  · simp only [completeLearning]
    split
    · split
      · split <;> exact ⟨_, _, _, rfl⟩
      · split <;> exact ⟨_, _, _, rfl⟩
    · split <;> exact ⟨_, _, _, rfl⟩
  · exact ⟨_, _, _, rfl⟩

/-- An index event finds idle learning idle (R13). -/
theorem indexEvent_idle (ctx : ChanCtx) (w : Wrap) (p : Option Pair) {r : Run} (idle : r.chan.learn = .idle) :
    indexEvent ctx w p r = r := by
  unfold indexEvent
  split <;> simp_all

/-- The learning stage of an update: the pair folded in, and the index event of its wrap (R4, R13). -/
def learnStage (ctx : ChanCtx) (p : Pair) (w : Option Wrap) (r : Run) : Run :=
  let r := if r.chan.learn = .gathering then { r with chan := { r.chan with acc := foldPair p r.chan.acc } } else r
  match w with
  | some x => indexEvent ctx x (some p) r
  | none => r

/-- An update is the move, the OVERSPEED_x report and the learning stage (R4, R19, R21). -/
theorem loopUpdate_eq (ctx : ChanCtx) (p : Pair) (theta : Int) (r : Run) : loopUpdate ctx p theta r
    = learnStage ctx p (wrapOf (rawSum ctx.items (loopError theta r.chan.phase) r.chan)) ⟨moved ctx theta r.chan,
        r.reports ++ [.level (cOverspeed ctx.axis)
          (mag (speedNext ctx.items (loopError theta r.chan.phase) r.chan) == ctx.items.speedLimit) none]⟩ := rfl

theorem learnStage_chan (ctx : ChanCtx) (p : Pair) (w : Option Wrap) (r : Run) :
    ∃ k acc u, (learnStage ctx p w r).chan = { r.chan with learn := k, acc := acc, used := u } := by
  have folded : ∃ acc, (if r.chan.learn = .gathering then { r with chan := { r.chan with acc := foldPair p r.chan.acc } }
      else r).chan = { r.chan with acc := acc } := by
    split
    · exact ⟨_, rfl⟩
    · exact ⟨r.chan.acc, rfl⟩
  obtain ⟨acc, e⟩ := folded
  simp only [learnStage]
  split
  · obtain ⟨k, acc', u, index⟩ := indexEvent_chan ctx _ (some p) _
    exact ⟨k, acc', u, index.trans (by rw [e])⟩
  · exact ⟨_, _, _, e⟩

theorem learnStage_idle (ctx : ChanCtx) (p : Pair) (w : Option Wrap) {r : Run} (idle : r.chan.learn = .idle) :
    learnStage ctx p w r = r := by
  simp only [learnStage, idle, reduceCtorEq, if_false]
  split
  · exact indexEvent_idle ctx _ _ idle
  · rfl

/-- The settle stage concerns ACQUIRE alone (R25). -/
theorem settleStage_other {it : ChannelItems} {e : Int} {c : Channel} (h : c.state ≠ .acquire) : settleStage it e c = c := by
  unfold settleStage
  split
  · exact absurd ‹_› h
  · rfl

/-- In TRACKING an update moves ω, φ and the turn count, and reschedules the gain (R19 to R22). -/
theorem moved_tracking (ctx : ChanCtx) (theta : Int) (c : Channel) (tracking : c.state = .tracking) :
    ∃ g b, moved ctx theta c = { carryPhase ctx (rawSum ctx.items (loopError theta c.phase) c) c with
        speed := speedNext ctx.items (loopError theta c.phase) c, gain := g, boost := b }
      ∧ (ctx.items.gainMode = .scheduled → g = if ctx.items.bandUp ≤ |loopError theta c.phase| then min ctx.items.gainHigh (c.gain + 1)
        else if |loopError theta c.phase| < ctx.items.bandDown then max ctx.items.gainLow (c.gain - 1) else c.gain) := by
  obtain ⟨g, b, scheduled, level⟩ := schedule_eq ctx.items (loopError theta c.phase)
    { carryPhase ctx (rawSum ctx.items (loopError theta c.phase) c) c with
      speed := speedNext ctx.items (loopError theta c.phase) c }
  refine ⟨g, b, ?_, ?_⟩
  · simp only [moved]
    rw [scheduled, settleStage_other (by rw [carryPhase_eq]; simp [tracking])]
  · simpa only [carryPhase_eq] using level

/-- With learning idle in TRACKING an update is the move and the OVERSPEED_x report (R19, R21). -/
theorem loopUpdate_idle (ctx : ChanCtx) (p : Pair) (theta : Int) (r : Run) (idle : r.chan.learn = .idle)
    (tracking : r.chan.state = .tracking) : loopUpdate ctx p theta r
      = ⟨moved ctx theta r.chan, r.reports ++ [.level (cOverspeed ctx.axis)
          (mag (speedNext ctx.items (loopError theta r.chan.phase) r.chan) == ctx.items.speedLimit) none]⟩ := by
  rw [loopUpdate_eq]
  refine learnStage_idle ctx p _ ?_
  obtain ⟨g, b, e, -⟩ := moved_tracking ctx theta r.chan tracking
  simp only [e, carryPhase_eq, idle]

/-- The eighth small error in ACQUIRE takes a channel to TRACKING with the count 0 (R25). -/
theorem settleStage_settles {it : ChannelItems} {e : Int} {c : Channel} (acquire : c.state = .acquire) (count : c.settle = 7)
    (small : |e| < it.bandUp) : (settleStage it e c).state = .tracking ∧ (settleStage it e c).settle = 0
      ∧ (settleStage it e c).last = c.last := by
  have settled : settles it e c = true := by simp [settles, acquire, count, mag_eq_abs, small]
  simp only [settleStage, acquire, settled, if_true]
  split <;> exact ⟨rfl, rfl, rfl⟩

/-- The update that brings the settle count to 8 settles the channel (R25). -/
theorem moved_settles (ctx : ChanCtx) (theta : Int) (c : Channel) (acquire : c.state = .acquire) (count : c.settle = 7)
    (small : |loopError theta c.phase| < ctx.items.bandUp) :
    (moved ctx theta c).state = .tracking ∧ (moved ctx theta c).settle = 0 ∧ (moved ctx theta c).last = c.last := by
  obtain ⟨g, b, scheduled, -⟩ := schedule_eq ctx.items (loopError theta c.phase)
    { carryPhase ctx (rawSum ctx.items (loopError theta c.phase) c) c with
      speed := speedNext ctx.items (loopError theta c.phase) c }
  simp only [moved]
  rw [scheduled, carryPhase_eq]
  exact settleStage_settles acquire count small

/-! ### Acquisition -/

/-- A good pair takes an UNLOCKED channel to ACQUIRE at its angle, at rest and at the highest gain (R24). -/
theorem takeSample_acquire {ctx : ChanCtx} {d : SampleData} {c : Channel} (gap : seqGap c d.sequence.toNat ≠ some 0)
    (front : frontFault d = none) (unlocked : c.state = .unlocked)
    (strong : tooWeak ctx.items (correct c.used (pairOf d)) = false) : (takeSample ctx d c).run
      = ⟨{ arrive d.sequence.toNat c with
            phase := angleOf (correct c.used (pairOf d)), speed := 0, last := some (pairOf d), second := none, rejects := 0
            stuckCount := 0, settle := 0, state := .acquire, cause := none, learn := .idle, acc := none
            gain := ctx.items.gainHigh, boost := true },
          [.level (cTrackFault ctx.axis) false none, .level (cOverspeed ctx.axis) false none]⟩ := by
  simp [takeSample, if_neg gap, unlocked, tryAcquire, front, arrive, strong, acquire, Run.say]

end Sys2Proof.Machine
end

section
/-! The statements about acquisition, the loop, STUCK and SETTLED: O51 and O49. -/

namespace Sys2Proof.Machine

theorem not_clipped {v : Int} (lo : -2048 < v) (hi : v < 2047) : clipped v = false := by
  simp [clipped, not_le.2 lo, not_le.2 hi]

/-! ### The run of a frame -/

/-- A frame that the sequence, front and noise tests pass on: one number on, good, and in NOISE_MODE ONE within the threshold of the last
pair. -/
structure Passes (it : ChannelItems) (d : SampleData) (p0 : Pair) (c : Channel) : Prop where
  gap : seqGap c d.sequence.toNat ≠ some 0 ∧ (seqGap c d.sequence.toNat).getD 1 = 1
  front : frontFault d = none
  mode : it.noiseMode = .one
  rejects : c.rejects < 3
  last : c.last = some p0
  sine : |(pairOf d).s - p0.s| ≤ it.noiseThreshold
  cosine : |(pairOf d).c - p0.c| ≤ it.noiseThreshold

section
variable {ctx : ChanCtx} {d : SampleData} {c : Channel} {p0 : Pair}

theorem takeSample_accept (pass : Passes ctx.items d p0 c) (state : c.state = .tracking ∨ c.state = .acquire) :
    (takeSample ctx d c).run = acceptPair ctx (pairOf d) ⟨arrive d.sequence.toNat c, []⟩ :=
  (takeSample_next pass.gap state).trans (trackPair_accept (r := ⟨arrive d.sequence.toNat c, []⟩) pass.front pass.rejects
    (rejected_one pass.mode pass.last pass.sine pass.cosine))

/-- The sixteenth equal pair under motion puts the channel in FAULT (R9). -/
theorem takeSample_stuck (pass : Passes ctx.items d (pairOf d) c) (state : c.state = .tracking ∨ c.state = .acquire)
    (speed : 4 ≤ |c.speed|) (count : c.stuckCount = 15) : (takeSample ctx d c).run
      = enterFault ctx .stuck ⟨withPair 16 (pairOf d) (arrive d.sequence.toNat c), []⟩ :=
  (takeSample_accept pass state).trans (acceptPair_stuck (r := ⟨arrive d.sequence.toNat c, []⟩) pass.last speed count)

/-- A new pair that is not too weak updates the loop (R19). -/
theorem takeSample_loop (pass : Passes ctx.items d p0 c) (state : c.state = .tracking ∨ c.state = .acquire)
    (other : p0 ≠ pairOf d) (strong : tooWeak ctx.items (correct c.used (pairOf d)) = false) : (takeSample ctx d c).run
      = loopUpdate ctx (pairOf d) (angleOf (correct c.used (pairOf d)))
          ⟨withPair 0 (pairOf d) (arrive d.sequence.toNat c), []⟩ :=
  (takeSample_accept pass state).trans (acceptPair_loop (r := ⟨arrive d.sequence.toNat c, []⟩) pass.last other strong)

/-- In TRACKING with learning idle the run is the move and the OVERSPEED_x report (R19, R21). -/
theorem takeSample_tracking (pass : Passes ctx.items d p0 c) (state : c.state = .tracking) (idle : c.learn = .idle)
    (other : p0 ≠ pairOf d) (strong : tooWeak ctx.items (correct c.used (pairOf d)) = false) : (takeSample ctx d c).run
      = ⟨moved ctx (angleOf (correct c.used (pairOf d))) (withPair 0 (pairOf d) (arrive d.sequence.toNat c)),
          [.level (cOverspeed ctx.axis) (mag (speedNext ctx.items (loopError (angleOf (correct c.used (pairOf d))) c.phase) c)
            == ctx.items.speedLimit) none]⟩ :=
  (takeSample_loop pass (.inl state) other strong).trans (loopUpdate_idle _ _ _ _ idle state)

/-- The update that settles the channel (R25). -/
theorem takeSample_settles (pass : Passes ctx.items d p0 c) (state : c.state = .acquire) (count : c.settle = 7)
    (other : p0 ≠ pairOf d) (strong : tooWeak ctx.items (correct c.used (pairOf d)) = false)
    (small : |loopError (angleOf (correct c.used (pairOf d))) c.phase| < ctx.items.bandUp) :
    (takeSample ctx d c).run.chan.state = .tracking ∧ (takeSample ctx d c).run.chan.settle = 0
      ∧ (takeSample ctx d c).run.chan.last = some (pairOf d) := by
  rw [takeSample_loop pass (.inr state) other strong, loopUpdate_eq]
  obtain ⟨k, acc, u, e⟩ := learnStage_chan ctx (pairOf d) _ _
  rw [e]
  exact moved_settles ctx _ (withPair 0 (pairOf d) (arrive d.sequence.toNat c)) state count small

end

/-! ### O51 -/

/-- A good pair acquires an UNLOCKED channel (R24), as the whole frame. -/
theorem exec_sample_acquire {l : Link} {d : SampleData} {a : Axis} {s : State} (h : s.lpu.bypass = .off) (f : fits l 8 = true)
    (ok : AlarmsOk s) (ch : d.channel.toNat = a.code) (source : (s.items.channels.get a).sampleSource = l.src.toNat)
    (front : frontFault d = none) (strong : tooWeak (s.items.channels.get a) (correct (s.chan a).used (pairOf d)) = false)
    (unlocked : (s.chan a).state = .unlocked) (first : (s.chan a).lastSeq = none) :
    ∃ t, exec (.sample l d) s = .next t ∧ t.chan a = { arrive d.sequence.toNat (s.chan a) with
          phase := angleOf (correct (s.chan a).used (pairOf d)), speed := 0, last := some (pairOf d), second := none, rejects := 0
          stuckCount := 0, settle := 0, state := .acquire, cause := none, learn := .idle, acc := none
          gain := (s.items.channels.get a).gainHigh, boost := true }
      ∧ t.alu.raised (cTrackFault a) = false ∧ t.alu.raised (cOverspeed a) = false ∧ SameConfig s t := by
  have gap := (seqGap_next (n := d.sequence) (.inl first)).1
  obtain ⟨t, e, served⟩ := exec_sample_run h f ch source gap (takeSample_acquire gap front unlocked strong)
  have once : cTrackFault (s.chanCtx a).axis ≠ cOverspeed (s.chanCtx a).axis := by
    show cTrackFault a ≠ cOverspeed a
    cases a <;> decide
  refine ⟨t, e, served.chan, ?_, ?_, served.config⟩
  · exact (served.level _ false none (cTrackFault_not_position a) (cTrackFault_lt ok a) (List.mem_cons_self ..)
      (by simpa [Report.number] using once)).1
  · exact (served.level _ false none (cOverspeed_not_position a) (cOverspeed_lt ok a)
      (List.mem_cons_of_mem _ (List.mem_cons_self ..)) (by simpa [Report.number] using once)).1

/-- Settles O51: the run of the frame is `takeSample_acquire`, or the move of `moved_tracking`. -/
theorem acquisitionAndTracking : Obligations.AcquisitionAndTracking := by
  intro l d a p s h f ok ch source good hp slo shi clo chi
  subst hp
  have front := frontFault_none good (not_clipped slo shi) (not_clipped clo chi)
  refine fun strong => ⟨fun unlocked first => ?_, fun q p0 tracking idle number small next mode rejects last other ds dc => ?_⟩
  · obtain ⟨t, e, chan, fault, overspeed, config⟩ := exec_sample_acquire h f ok ch source front strong unlocked first
    refine ⟨t, e, ?_, ?_, ?_, ?_, ?_, ?_, ?_, ?_, ?_, ?_, ?_, ?_, fault, overspeed, config⟩
    all_goals simp only [chan, arrive, pairOf, signed]
  · have pass : Passes (s.chanCtx a).items d p0 (s.chan a) :=
      ⟨seqGap_next (.inr ⟨q, number, small, next⟩), front, mode, rejects, last, ds, dc⟩
    obtain ⟨t, e, served⟩ := exec_sample_run h f ch source pass.gap.1 (takeSample_tracking pass tracking idle other strong)
    obtain ⟨g, b, moves, level⟩ := moved_tracking (s.chanCtx a) (angleOf (correct (s.chan a).used (pairOf d)))
      (withPair 0 (pairOf d) (arrive d.sequence.toNat (s.chan a))) tracking
    have chan := served.chan.trans moves
    rw [carryPhase_eq] at chan
    refine ⟨t, e, ?_, ?_, ?_, ?_, ?_, ?_, ?_, ?_, ?_, served.config⟩
    · rw [chan]; exact tracking
    · rw [chan]; rfl
    · rw [chan]; rfl
    · rw [chan]; cases a <;> rfl
    · rw [chan]; exact level
    · rw [← mag_eq_abs]
      exact (served.level _ _ none (cOverspeed_not_position a) (cOverspeed_lt ok a) (List.mem_singleton.2 rfl) (by simp)).1
    · rw [chan]; rfl
    · rw [chan]; exact last
    · rw [chan]; rfl

/-! ### O49 -/

theorem sampled_eq {src : Byte} {d : SampleData} {a : Axis} {s : State} (ch : d.channel.toNat = a.code)
    (source : (s.items.channels.get a).sampleSource = src.toNat) :
    sampled src d s = some (s.chan a, (takeSample (s.chanCtx a) d (s.chan a)).run.chan) := by
  simp only [sampled, sampleTarget_eq ch, if_pos source]

/-- A frame that brings the stuck count to 16 is the frame (assumption 1). -/
theorem exec_stuck {l : Link} {d : SampleData} {s : State} (due : stuckDue l.src d s = true) :
    exec (.stuck l d) s = exec (.sample l d) s := by
  show sampleEvent (stuckDue l.src d s) l d s = _
  rw [due]
  rfl

/-- A frame that brings the settle count to 8 is the frame (assumption 1). -/
theorem exec_settled {l : Link} {d : SampleData} {s : State} (due : settledDue l.src d s = true) :
    exec (.settled l d) s = exec (.sample l d) s := by
  show sampleEvent (settledDue l.src d s) l d s = _
  rw [due]
  rfl

/-- Settles O49: each event is the frame, whose run is `takeSample_stuck` or `takeSample_settles`. -/
theorem stuckAndSettled : Obligations.StuckAndSettled := by
  intro l d a p q s h f ok ch source number small next good hp slo shi clo chi mode rejects
  subst hp
  have front := frontFault_none good (not_clipped slo shi) (not_clipped clo chi)
  have gap := seqGap_next (n := d.sequence) (.inr ⟨q, number, small, next⟩)
  refine ⟨fun state last speed count threshold => ?_, fun p0 acquire count last other ds dc strong error => ?_⟩
  · have pass : Passes (s.chanCtx a).items d (pairOf d) (s.chan a) :=
      ⟨gap, front, mode, rejects, last, by rw [sub_self, abs_zero]; exact threshold,
        by rw [sub_self, abs_zero]; exact threshold⟩
    have run := takeSample_stuck pass state speed count
    obtain ⟨acc, chan⟩ := enterFault_chan (s.chanCtx a) .stuck
      ⟨withPair 16 (pairOf d) (arrive d.sequence.toNat (s.chan a)), []⟩
    have due : stuckDue l.src d s = true := by
      simp only [stuckDue, sampled_eq ch source, run, chan]
      rcases state with e | e <;> simp [e]
    obtain ⟨t, e, served⟩ := exec_sample_run h f ch source gap.1 run
    obtain ⟨raised, detail, handed⟩ := served.fault rfl ok rfl
    have left := served.chan.trans chan
    refine ⟨t, (exec_stuck due).trans e, ?_, ?_, ?_, ?_, ?_, raised, detail, handed, served.config⟩
    all_goals simp only [left, withPair, arrive]
  · have pass : Passes (s.chanCtx a).items d p0 (s.chan a) := ⟨gap, front, mode, rejects, last, ds, dc⟩
    obtain ⟨state, settle, pair⟩ := takeSample_settles pass acquire count other strong error
    have due : settledDue l.src d s = true := by
      simp [settledDue, sampled_eq ch source, acquire, state]
    obtain ⟨t, e, served⟩ := exec_sample_run h f ch source gap.1 rfl
    refine ⟨t, (exec_settled due).trans e, ?_, ?_, ?_, ?_, served.config⟩
    · rw [served.chan, state]
    · rw [served.chan, settle]
    · rw [served.chan, pair]; rfl
    · rw [served.handed, state]

end Sys2Proof.Machine
end

section
/-! A marker that finds a channel stale (R29): what every other part of a marker's work leaves of that channel, and O43. -/

namespace Sys2Proof.Machine

/-! ### What stands of a channel through a marker -/

/-- Channel `a`, its hand-off, its TRACK_FAULT condition, the configuration and the marker's number stand. -/
structure Stands (a : Axis) (s t : State) : Prop where
  items : t.items = s.items
  tables : t.tables = s.tables
  chan : t.chan a = s.chan a
  handed : t.pos.handed.get a = s.pos.handed.get a
  lastCycle : t.lpu.lastCycle = s.lpu.lastCycle
  length : t.alu.conds.length = s.alu.conds.length
  cond : CondKept (cTrackFault a) s t

theorem Stands.refl (a : Axis) (s : State) : Stands a s s := ⟨rfl, rfl, rfl, rfl, rfl, rfl, rfl, rfl⟩

theorem Stands.trans {a : Axis} {s t u : State} (h : Stands a s t) (k : Stands a t u) : Stands a s u :=
  ⟨k.items.trans h.items, k.tables.trans h.tables, k.chan.trans h.chan, k.handed.trans h.handed, k.lastCycle.trans h.lastCycle,
    k.length.trans h.length, h.cond.trans k.cond⟩

/-- What hands off without the hand-off or the condition of `a` leaves the rest of it too. -/
theorem HandsOff.stands {a : Axis} {s t : State} (h : HandsOff s t) (handed : t.pos.handed.get a = s.pos.handed.get a)
    (cond : CondKept (cTrackFault a) s t) : Stands a s t :=
  ⟨h.items, h.tables, h.configKept.chan a, handed, by rw [h.lpu], h.length, cond⟩

theorem Reacts.stands {s t : State} (a : Axis) (h : Reacts s t) (alu : t.alu = s.alu) : Stands a s t :=
  (handsOff_of_reacts h alu).stands (by rw [h.pos]) (condKept_of_alu alu)

theorem cTrackFault_not_reaction (a : Axis) : cTrackFault a ∉ reactionNumbers := not_reaction (cTrackFault_not_position a)

/-- A number outside 9 to 12 is no TRACK_FAULT. -/
theorem ne_cTrackFault {n : Nat} (a : Axis) (h : n < 9 ∨ 12 < n) : n ≠ cTrackFault a := by
  cases a <;> simp only [cTrackFault, Axis.code] <;> omega

section
variable {a : Axis} {s u : State}

/-! ### Reports and moves -/

theorem stands_report (rs : List Report) (other : ∀ r ∈ rs, r.number ≠ cTrackFault a) (k : Stands a s u) :
    Stands a s (report rs u) := by
  obtain ⟨b, pos⟩ := report_pos rs u
  exact k.trans ((handsOff_report rs u).stands (by rw [pos])
    (condKept_report rs (cTrackFault_not_reaction a) other (condKept_of_alu rfl)))

theorem stands_settleMove (m : Move) (other : ∀ r ∈ m.2, r.number ≠ cTrackFault a) (k : Stands a s m.1) :
    Stands a s (settleMove m) := stands_report m.2 other k

/-! ### The other channels -/

/-- A marker reports TRACK_FAULT_x and LEARN_FAIL of a channel (R29). -/
theorem markChannel_numbers (ctx : ChanCtx) (c : Channel) :
    ∀ r ∈ (markChannel ctx c).reports, r.number = cTrackFault ctx.axis ∨ r.number = cLearnFail := by
  simp only [markChannel]
  split
  · simp only [enterFault, faultLearning, Run.say]
    split <;> simp [Report.number]
  · simp

/-- The numbers another channel's marker reports are none of this channel's TRACK_FAULT. -/
theorem markChannel_other {b : Axis} (h : b ≠ a) (ctx : ChanCtx) (ax : ctx.axis = b) (c : Channel) :
    ∀ r ∈ (markChannel ctx c).reports, r.number ≠ cTrackFault a := by
  intro r mem
  rcases markChannel_numbers ctx c r mem with e | e <;> rw [e]
  · rw [ax]
    revert h
    cases a <;> cases b <;> decide
  · exact ne_cTrackFault a (.inr (by decide))

theorem stands_setChan {b : Axis} (h : b ≠ a) (c : Channel) (k : Stands a s u) : Stands a s (u.setChan b c) :=
  k.trans ⟨rfl, rfl, State.setChan_other u c h.symm, rfl, rfl, rfl, rfl, rfl⟩

theorem stands_handOff {b : Axis} (h : b ≠ a) (recovered : Bool) (k : Stands a s u) : Stands a s (handOff b recovered u) :=
  k.trans ((handsOff_handOff b recovered u).stands (by rw [handOff_handed, PerAxis.get_set_other _ _ h.symm])
    (condKept_handOff b recovered (cTrackFault_not_position a) (condKept_of_alu rfl)))

theorem stands_channelMarker {b : Axis} (h : b ≠ a) (k : Stands a s u) : Stands a s (channelMarker u b) := by
  have reported := stands_report _ (markChannel_other h (u.chanCtx b) rfl (u.chan b))
    (stands_setChan h (markChannel (u.chanCtx b) (u.chan b)).chan k)
  simp only [channelMarker]
  split
  · split
    · exact reported
    · exact stands_handOff h false reported
  · exact stands_setChan h _ k

theorem stands_channelMarkers {bs : List Axis} (h : a ∉ bs) (k : Stands a s u) : Stands a s (bs.foldl channelMarker u) := by
  induction bs generalizing u with
  | nil => exact k
  | cons b bs ih =>
    rw [List.mem_cons, not_or] at h
    exact ih h.2 (stands_channelMarker (Ne.symm h.1) k)

/-- Each channel stands once in the order of the marker's work (R171). -/
theorem axisAll_split (a : Axis) : ∃ pre post : List Axis, Axis.all = pre ++ a :: post ∧ a ∉ pre ∧ a ∉ post := by
  cases a
  case hoist => exact ⟨[], [.drag, .swing, .walk], rfl, by decide, by decide⟩
  case drag => exact ⟨[.hoist], [.swing, .walk], rfl, by decide, by decide⟩
  case swing => exact ⟨[.hoist, .drag], [.walk], rfl, by decide, by decide⟩
  case walk => exact ⟨[.hoist, .drag, .swing], [], rfl, by decide, by decide⟩

theorem stands_withSwu (x : Swu) (k : Stands a s u) : Stands a s (u.withSwu x) := k.trans ⟨rfl, rfl, rfl, rfl, rfl, rfl, rfl, rfl⟩

/-! ### The number, the drives and the shapers -/

/-- Beside its number a marker's arrival lowers LOOP_SILENT alone (R171, R175). -/
theorem stands_takeNumber (a : Axis) (n : Word) (s : State) :
    Stands a (s.withLpu { s.lpu with lastCycle := n.toNat }) (takeNumber n s) := by
  simp only [takeNumber]
  split
  · exact stands_report _ (List.forall_mem_singleton.2 (ne_cTrackFault a (.inl (by decide)))) (.refl a _)
  · exact .refl a _

/-- The DGU reports numbers from UNRESOLVED_x on (R58, R61, R63). -/
theorem driveReports_numbers (d : Dgu) : ∀ r ∈ driveReports d, 27 ≤ r.number := by
  have unresolved (g : Drive) : (unresolvedReport d g).number = cUnresolved g := by unfold unresolvedReport; split <;> rfl
  have lost (g : Drive) : (memberLostReport d g).number = cMemberLost g := by unfold memberLostReport; split <;> rfl
  have conflict : (conflictReport d).number = cContactorConflict := by unfold conflictReport; split <;> rfl
  simp only [driveReports, List.mem_append, List.mem_map, List.mem_singleton]
  rintro r (((⟨g, -, rfl⟩ | ⟨g, -, rfl⟩) | ⟨g, -, rfl⟩) | rfl)
  · rw [unresolved]; exact Nat.le_add_right ..
  · rw [lost]; simp only [cMemberLost]; omega
  · show 27 ≤ 33 + g.code; omega
  · rw [conflict]; decide

theorem reactToSummary_numbers (s : State) : ∀ r ∈ (reactToSummary s).2, r.number ∈ reactionNumbers := by
  unfold reactToSummary
  split
  · unfold settle
    split
    case h_2 => simp [enterWalkReady, shoesFall, Report.number, reactionNumbers]
    all_goals simp
  · split
    · exact enterClosingWalk_numbers s
    · simp
  · split
    · simp [readyFromClosing, enterWalkReady, shoesFall, Report.number, reactionNumbers]
    · simp
  · split <;> simp
  · split <;> simp
  all_goals simp

theorem stands_driveMarker (k : Stands a s u) : Stands a s (driveMarker u) := by
  have marked (d : Dgu) (x : Swu) : Stands a s ((u.withDgu d).withSwu x) :=
    stands_withSwu x (k.trans ((handsOff_withDgu u d).stands rfl (condKept_of_alu rfl)))
  have others (d : Dgu) (i : Image) : ∀ r ∈ [staleReport i] ++ driveReports d, r.number ≠ cTrackFault a := by
    intro r mem
    rcases List.mem_append.1 mem with m | m
    · obtain rfl := List.mem_singleton.1 m
      exact ne_cTrackFault (n := cDiscreteStale) a (.inl (by decide))
    · exact ne_cTrackFault a (.inr (lt_of_lt_of_le (by decide) (driveReports_numbers d r m)))
  simp only [driveMarker, handDrives]
  refine stands_report _ (others _ _) ?_
  split
  · exact marked _ _
  · refine stands_settleMove _ (fun r mem e => cTrackFault_not_reaction a (e ▸ reactToSummary_numbers _ r mem)) ?_
    exact (marked _ _).trans ((reacts_reactToSummary _).stands a (reactToSummary_alu _))

theorem stands_lossMarker (g : Axis) (k : Stands a s u) : Stands a s (lossMarker g u) := by
  have other : cCmdLost g ≠ cTrackFault a := ne_cTrackFault a (.inl (by cases g <;> decide))
  simp only [lossMarker]
  split
  · exact stands_report _ (List.forall_mem_singleton.2 other) (k.trans ⟨rfl, rfl, rfl, rfl, rfl, rfl, rfl, rfl⟩)
  · exact k.trans ⟨rfl, rfl, rfl, rfl, rfl, rfl, rfl, rfl⟩

theorem stands_lossMarkers (gs : List Axis) (k : Stands a s u) : Stands a s (gs.foldl (fun s g => lossMarker g s) u) := by
  induction gs generalizing u with
  | nil => exact k
  | cons g gs ih => exact ih (stands_lossMarker g k)

/-! ### The sequencer and the queue -/

theorem transferMarker_alu (s : State) : (transferMarker s).1.alu = s.alu := by
  simp only [transferMarker]
  split
  · split
    · split
      · simp [startClosingDrag, enterClosingDrag_alu]
      · simp [enterOpeningWalk_alu]
      · simp [force_alu]
    · rfl
  · rfl

theorem transferMarker_numbers (s : State) : ∀ r ∈ (transferMarker s).2, r.number = cTransferTimeout := by
  simp only [transferMarker]
  split
  · split
    · split <;> simp [Report.number]
    · simp
  · simp

theorem shoeMarker_alu (s : State) : (shoeMarker s).1.alu = s.alu := by
  simp only [shoeMarker]
  split <;> rfl

theorem shoeMarker_numbers (s : State) : ∀ r ∈ (shoeMarker s).2, r.number = cShoeMismatch ∨ r.number = cShoeDisagree := by
  have either {p q : Prop} [Decidable p] [Decidable q] {n : Nat} {d : Option Nat} :
      ∀ r ∈ (if p then [Report.level n true d] else if q then [.level n false none] else []), r.number = n := by
    split
    · simp [Report.number]
    · split <;> simp [Report.number]
  simp only [shoeMarker]
  split
  · intro r mem
    rcases List.mem_append.1 mem with m | m
    · exact .inl (either r m)
    · exact .inr (either r m)
  · simp

theorem stands_seqMarker (k : Stands a s u) : Stands a s (seqMarker u) := by
  have moved := (k.trans ((reacts_transferMarker u).stands a (transferMarker_alu u))).trans
    ((reacts_shoeMarker _).stands a (shoeMarker_alu _))
  refine stands_settleMove _ (fun r mem => ne_cTrackFault a (.inr ?_)) moved
  rcases List.mem_append.1 mem with m | m
  · rw [transferMarker_numbers _ r m]; decide
  · rcases shoeMarker_numbers _ r m with e | e <;> rw [e] <;> decide

theorem stands_offerForwarded (bs : Bytes) (k : Stands a s u) : Stands a s (offerForwarded bs u) := by
  have last : (offerForwarded bs u).lpu.lastCycle = u.lpu.lastCycle := by
    simp only [offerForwarded]; split <;> rfl
  rw [offerForwarded_lpu]
  exact k.trans ⟨rfl, rfl, rfl, rfl, last, rfl, rfl, rfl⟩

theorem stands_offerState (k : Stands a s u) : Stands a s (offerState u) := by
  have last : (offerInserted (stateFrame u) u).lpu.lastCycle = u.lpu.lastCycle := by
    simp only [offerInserted]; split <;> rfl
  have offered : Stands a s (offerInserted (stateFrame u) u) := by
    rw [offerInserted_lpu]
    exact k.trans ⟨rfl, rfl, rfl, rfl, last, rfl, rfl, rfl⟩
  simp only [offerState]
  split
  · exact stands_withSwu _ offered
  · exact offered

end

/-- The whole marker is the marker work of channel `a` between work that leaves the channel (R171). -/
theorem takeCycle_stands (l : Link) (n : Word) (a : Axis) (s : State) :
    ∃ u, Stands a (s.withLpu { s.lpu with lastCycle := n.toNat }) u ∧ Stands a (channelMarker u a) (takeCycle l n s) := by
  obtain ⟨pre, post, order, before, behind⟩ := axisAll_split a
  have split : Axis.all.foldl channelMarker (takeNumber n s)
      = post.foldl channelMarker (channelMarker (pre.foldl channelMarker (takeNumber n s)) a) := by
    rw [order, List.foldl_append, List.foldl_cons]
  refine ⟨pre.foldl channelMarker (takeNumber n s), stands_channelMarkers before (stands_takeNumber a n s), ?_⟩
  simp only [takeCycle, markBeforeSeq, split]
  refine stands_offerState (stands_offerForwarded _ (stands_seqMarker ?_))
  exact stands_withSwu _ (stands_lossMarkers Axis.all (stands_driveMarker (stands_channelMarkers behind (.refl a _))))

/-! ### O43 -/

/-- The marker work of a stale channel: FAULT(STALE), reported, and handed off unless it was in FAULT (R26, R29, R30). -/
theorem channelMarker_stale {a : Axis} {u : State} (due : staleDue (u.items.channels.get a) (u.chan a) = true)
    (within : cTrackFault a < u.alu.conds.length) :
    HandsOff (u.setChan a (markChannel (u.chanCtx a) (u.chan a)).chan) (channelMarker u a)
      ∧ (∃ acc, (channelMarker u a).chan a = { u.chan a with
          stale := staleNext (u.chan a), note := false, state := .fault, cause := some .stale, learn := .idle, acc := acc })
      ∧ (channelMarker u a).alu.raised (cTrackFault a) = true ∧ ((channelMarker u a).alu.cond (cTrackFault a)).detail = some 4
      ∧ ((u.chan a).state ≠ .fault → (channelMarker u a).pos.handed.get a = ⟨.fault, (u.chan a).phase, (u.chan a).turns⟩) := by
  have marked : markChannel (u.chanCtx a) (u.chan a)
      = enterFault (u.chanCtx a) .stale ⟨{ u.chan a with stale := staleNext (u.chan a), note := false }, []⟩ := if_pos due
  obtain ⟨mem, once⟩ := enterFault_reports (u.chanCtx a) .stale
    (r := ⟨{ u.chan a with stale := staleNext (u.chan a), note := false }, []⟩) rfl
  obtain ⟨acc, chan⟩ := enterFault_chan (u.chanCtx a) .stale
    ⟨{ u.chan a with stale := staleNext (u.chan a), note := false }, []⟩
  rw [← marked] at mem once chan
  simp only [channelMarker, due, if_true]
  split
  · rename_i already
    obtain ⟨raised, detail⟩ := report_level (markChannel (u.chanCtx a) (u.chan a)).reports
      (u.setChan a (markChannel (u.chanCtx a) (u.chan a)).chan) _ _ _ (cTrackFault_not_reaction a) within mem once
    refine ⟨handsOff_report _ _, ⟨acc, ?_⟩, raised, detail rfl, fun other => absurd already other⟩
    rw [(reacts_report _ _).configKept.chan, State.setChan_same, chan]
  · obtain ⟨raised, detail⟩ := channelServed_level a (markChannel (u.chanCtx a) (u.chan a)).chan
      (markChannel (u.chanCtx a) (u.chan a)).reports false u (cTrackFault_not_position a) within mem once
    refine ⟨handsOff_channelServed a _ _ false u, ⟨acc, (channelServed_chan a _ _ false u).trans chan⟩, raised, detail rfl,
      fun _ => ?_⟩
    rw [show (handOff a false _).pos.handed = _ from channelServed_handed a _ _ false u, PerAxis.get_set, chan]

/-- Settles O43: `takeCycle_stands` reduces the marker to the channel's own work, `channelMarker_stale`. -/
theorem channelStale : Obligations.ChannelStale := by
  intro l n a s h f ok limit small fresh
  have due : staleDue (s.items.channels.get a) (s.chan a) = true := by
    have next : staleNext (s.chan a) = if (s.chan a).note then (s.chan a).stale else min 15 ((s.chan a).stale + 1) := by
      simp only [staleNext, satInc_eq_min]
    have other : ((s.chan a).state == .fault && (s.chan a).cause == some .stale) = false :=
      Bool.eq_false_iff.2 (by simpa using fresh)
    simp [staleDue, next, limit, other]
  have run : exec (.channelStale l n a) s = .next (takeCycle l n (goodFrameSeen s)) := by
    show cycleEvent (staleDue (s.items.channels.get a) (s.chan a)) l n s = _
    rw [due, cycleEvent, if_pos rfl, arrival_in l 2 _ s h f]
  obtain ⟨u, before, behind⟩ := takeCycle_stands l n a (goodFrameSeen s)
  have chan : u.chan a = s.chan a := before.chan
  have items : u.items = s.items := before.items
  have within : cTrackFault a < u.alu.conds.length := before.length ▸ cTrackFault_lt ok a
  obtain ⟨kept, ⟨acc, marked⟩, raised, detail, handed⟩ := channelMarker_stale (a := a) (u := u) (by rw [chan, items, due]) within
  have left := behind.chan.trans marked
  rw [chan] at left handed
  refine ⟨_, run, ?_, ?_, ?_, ?_, ?_, ?_, ?_, behind.cond.raised.trans raised, behind.cond.detail.trans detail, ?_, ?_, ?_⟩
  iterate 7 rw [left]
  · rw [behind.lastCycle, kept.lpu]; exact before.lastCycle
  · exact ⟨behind.items.trans (kept.items.trans items), behind.tables.trans (kept.tables.trans before.tables)⟩
  · intro other
    rw [behind.handed, handed other]

end Sys2Proof.Machine
end

section
/-! SUPPORT. The item store: which operations leave it as it was, and what one command can do to it (R43, R186, R190, R191). -/

namespace Sys2Proof.Machine

/-- What one command can do to the item store: leave it, put every item at its default, store one item, or move CAM_ZERO by a ZERO
of the WALK channel. -/
inductive ItemsStep (a : Items) : Items → Prop
  | kept : ItemsStep a a
  | defaults : ItemsStep a .reset
  | written (sc : Scope) (n index : Nat) (w : Word) (u : State) (h : u.items = a) :
      ItemsStep a (writeItem sc n index w u).1.items
  | zeroed (z : Int) : ItemsStep a { a with camZero := z }

theorem ItemsStep.of_eq {a b : Items} (h : b = a) : ItemsStep a b := h ▸ .kept

/-! ### Tables -/

section
variable (s : State)

@[simp] theorem report_items (rs : List Report) : (report rs s).items = s.items := (reacts_report rs s).items

@[simp] theorem windowsChanged_items : (windowsChanged s).items = s.items := by simp [windowsChanged]

@[simp] theorem camTableChanged_items : (camTableChanged s).items = s.items := by
  simp only [camTableChanged]
  split <;> rfl

@[simp] theorem severitiesChanged_items (old : Table) : (severitiesChanged old s).items = s.items := by simp [severitiesChanged]

@[simp] theorem handDrives_items (rs : List Report) : (handDrives rs s).items = s.items := (handsOff_handDrives rs s).items

@[simp] theorem leftLive_items (i : TableId) (old : Table) : (leftLive i old s).items = s.items := by
  cases i <;> simp [leftLive, envelopeDropped, marksChanged]

@[simp] theorem enteredLive_items (i : TableId) (old : Table) : (enteredLive i old s).items = s.items := by
  cases i <;> simp [enteredLive, envelopeLive, marksChanged, copyT9]

@[simp] theorem dropTable_items (i : TableId) (new : Table) : (dropTable i new s).items = s.items := by
  simp only [dropTable]
  split <;> simp

@[simp] theorem dropT0With_items (i : TableId) : (dropT0With i s).items = s.items := by
  unfold dropT0With
  split <;> simp

@[simp] theorem abandonMembers_items (i : TableId) : (abandonMembers i s).items = s.items := by
  cases i <;> simp [abandonMembers, emptyT9]

/-! ### Requests -/

theorem serveRead_items (item index : Word) (count : Byte) : (serveRead item index count s).state.items = s.items := by
  simp only [serveRead]
  split
  · rfl
  · split
    · rfl
    · simp only
      split <;> rfl

theorem serveOpen_items (table : Word) : (serveOpen table s).state.items = s.items := by
  unfold serveOpen
  split
  · rfl
  · split
    · rfl
    · split <;> simp

theorem serveLoad_items (table first : Word) (mode : Byte) (words : List Word) :
    (serveLoad table first mode words s).state.items = s.items := by
  unfold serveLoad
  split
  · rfl
  · split
    · rfl
    · split
      · rfl
      · split
        · rfl
        · simp only
          split <;> rfl

theorem serveClose_items (table : Word) : (serveClose table s).state.items = s.items := by
  unfold serveClose
  split
  · rfl
  · split
    · rfl
    · split
      · rfl
      · split <;> simp

theorem serveAbandon_items (table : Word) : (serveAbandon table s).state.items = s.items := by
  unfold serveAbandon
  split
  · rfl
  · split
    · rfl
    · simp

theorem serveReadTable_items (table first : Word) (count : Byte) : (serveReadTable table first count s).state.items = s.items := by
  unfold serveReadTable
  split
  · rfl
  · simp only
    split <;> rfl

theorem serveStart_items : (serveStart s).state.items = s.items := by
  unfold serveStart
  split
  · rfl
  · rfl
  · split <;> rfl

theorem serveStop_items : (serveStop s).state.items = s.items := by
  unfold serveStop
  split
  · exact (reacts_stopGroups Axis.all _).items
  · rfl
  · rfl

theorem serveLearn_items (channel : Word) : (serveLearn channel s).state.items = s.items := by
  unfold serveLearn
  split
  · rfl
  · split <;> rfl

theorem serveForce_items (condition : Word) : (serveForce condition s).state.items = s.items := by
  simp only [serveForce]
  split
  · rfl
  · split
    · rfl
    · rfl
    · split
      · rfl
      · simp only [forceCondition, settleMove, report_items]
        exact ((reacts_aluAct _ _).trans (reacts_reactToGroups _)).items

theorem acknowledged_items (ns : List Nat) : (acknowledged ns s).items = s.items := (configKept_acknowledged ns s).items

theorem serveAck_items (target : Word) : (serveAck target s).state.items = s.items := by
  simp only [serveAck]
  split
  · exact acknowledged_items s _
  · split
    · exact acknowledged_items s _
    · rfl

theorem serveReadAlarms_items (position : Word) (count : Byte) : (serveReadAlarms position count s).state.items = s.items := by
  simp only [serveReadAlarms]
  split
  · rfl
  · simp only
    split
    · rfl
    · exact acknowledged_items s _

/-- A WRITE request stores one item or none (R186). -/
theorem serveWrite_items (item index : Word) (values : List Word) :
    ItemsStep s.items (serveWrite item index values s).state.items := by
  unfold serveWrite
  split
  · exact .kept
  · split
    · exact .kept
    · split
      · split
        · exact .kept
        · exact .written _ _ _ _ s rfl
      · exact .kept

/-- A ZERO moves no item but CAM_ZERO (R44, R45). -/
theorem zeroAxis_items (a : Axis) (v : Int) : ItemsStep s.items (zeroAxis a v s).items := by
  cases a
  case hoist => exact .of_eq (handsOff_zeroAxis .hoist v s).items
  case drag => exact .of_eq (handsOff_zeroAxis .drag v s).items
  case swing => exact .of_eq (handsOff_zeroAxis .swing v s).items
  case walk =>
    rw [zeroAxis, (handsOff_updateCam _).items]
    exact .zeroed _

theorem serveZero_items (channel : Word) (values : List Word) : ItemsStep s.items (serveZero channel values s).state.items := by
  unfold serveZero
  split
  · exact .kept
  · split
    · exact .kept
    · split
      · exact .kept
      · split
        · exact .kept
        · exact zeroAxis_items s _ _

/-! ### Frames and resets -/

theorem takeSampleFrame_items (src : Byte) (d : SampleData) : (takeSampleFrame src d s).items = s.items := by
  simp only [takeSampleFrame]
  split
  · rfl
  · split
    · rfl
    · rw [(handsOff_handOff _ _ _).items, report_items]
      rfl

theorem channelMarker_items (a : Axis) : (channelMarker s a).items = s.items := by
  simp only [channelMarker]
  split
  · split
    · rw [report_items]; rfl
    · rw [(handsOff_handOff _ _ _).items, report_items]; rfl
  · rfl

theorem takeCycle_items (l : Link) (number : Word) : (takeCycle l number s).items = s.items := by
  obtain ⟨u, before, behind⟩ := takeCycle_stands l number .hoist s
  calc (takeCycle l number s).items = (channelMarker u .hoist).items := behind.items
    _ = u.items := channelMarker_items u .hoist
    _ = s.items := before.items

theorem arrival_items {body : State → State} (h : ∀ u, (body u).items = u.items) (l : Link) (size : Nat) :
    (arrival l size body s).items = s.items := by
  unfold arrival
  split
  · exact h _
  · rfl

theorem delivered_items {body : State → State} (h : ∀ u, (body u).items = u.items) (kind : Byte) (l : Link) (ws : List Word) :
    (delivered kind l ws body s).items = s.items :=
  arrival_items s (fun u => (configKept_offerForwarded _ (.refl _)).items.trans (h u)) l _

theorem completeReset_items (straps : BitVec 5) : (completeReset straps s).items = s.items := by
  simp only [completeReset]
  split <;> rfl

end

/-! ### Every command -/

section
variable {s t : State}

theorem itemsStep_next {u : State} (e : (.next u : Result) = .next t) (k : u.items = s.items) : ItemsStep s.items t.items :=
  Host.Outcome.next.inj e ▸ .of_eq k

/-- A request does to the items what its serving does to them (R172). -/
theorem itemsStep_serve {r : Req} {code : Nat} {body : State → Reply} (e : serve r code body s = .next t)
    (h : ∀ u, ItemsStep u.items (body u).state.items) : ItemsStep s.items t.items := by
  unfold serve at e
  split at e <;> cases e
  · rw [(configKept_respond r code (.refl _)).items]
    exact h (goodFrameSeen s)
  · exact .kept

theorem itemsStep_served {r : Req} {code : Nat} {body : State → Reply} (e : serve r code body s = .next t)
    (h : ∀ u, (body u).state.items = u.items) : ItemsStep s.items t.items :=
  itemsStep_serve e (fun u => .of_eq (h u))

theorem itemsStep_cycleEvent {due : Bool} {l : Link} {number : Word} (e : cycleEvent due l number s = .next t) :
    ItemsStep s.items t.items := by
  unfold cycleEvent at e
  split at e
  · exact itemsStep_next e (arrival_items s (takeCycle_items · l number) l 2)
  · exact itemsStep_next e rfl

theorem itemsStep_sampleEvent {due : Bool} {l : Link} {d : SampleData} (e : sampleEvent due l d s = .next t) :
    ItemsStep s.items t.items := by
  unfold sampleEvent at e
  split at e
  · exact itemsStep_next e (delivered_items s (takeSampleFrame_items · l.src d) _ l _)
  · exact itemsStep_next e rfl

/-- A power-on or pin reset puts every item at its default (R191). -/
theorem itemsStep_freshPart (e : (.next (freshPart s) : Result) = .next t) : ItemsStep s.items t.items := by
  have fresh : (freshPart s).items = Items.reset := (configKept_ownersReport _).items
  rw [← Host.Outcome.next.inj e, fresh]
  exact .defaults

/-- One command leaves the item store, puts it at its defaults, stores one item or moves CAM_ZERO. -/
theorem itemsStep_exec {c : Instr} (e : exec c s = .next t) : ItemsStep s.items t.items := by
  cases c
  case powerOnReset | pinReset => exact itemsStep_freshPart e
  case resetComplete straps =>
    simp only [exec, execResetComplete] at e
    split at e
    · exact itemsStep_next e (completeReset_items s straps)
    all_goals exact itemsStep_next e rfl
  case bypassStart =>
    simp only [exec, execBypassStart] at e
    split at e <;> exact itemsStep_next e rfl
  case softReset =>
    simp only [exec, execSoftReset] at e
    split at e
    · exact itemsStep_next e (configKept_ownersReport (softBlocks s)).items
    all_goals exact itemsStep_next e rfl
  case cycle l number => exact itemsStep_next e (arrival_items s (takeCycle_items · l number) l 2)
  case cab l selector pushes =>
    exact itemsStep_next e (delivered_items s (fun u => (configKept_takeCab selector pushes u).items) _ l _)
  case command l group lever =>
    exact itemsStep_next e (arrival_items s (fun u => (configKept_takeCommand l group lever u).items) l 4)
  case sample l d => exact itemsStep_next e (delivered_items s (takeSampleFrame_items · l.src d) _ l _)
  case discrete l low high =>
    exact itemsStep_next e (delivered_items s (fun u => (configKept_takeDiscreteFrame l.src low high u).items) _ l _)
  case driveStatus l d =>
    exact itemsStep_next e (delivered_items s (fun u => (configKept_takeDriveStatus l.src.toNat d u).items) _ l _)
  case forwardedFrame bytes =>
    simp only [exec, execForwardedFrame] at e
    split at e
    · exact itemsStep_next e (configKept_offerForwarded bytes (.refl (goodFrameSeen s))).items
    · exact itemsStep_next e rfl
  case ownFrameRemoval bytes =>
    simp only [exec, execOwnFrameRemoval] at e
    split at e <;> exact itemsStep_next e rfl
  case badFrame bytes =>
    simp only [exec, execBadFrame] at e
    split at e
    · split at e
      · exact itemsStep_next e (configKept_takeBad _ bytes s).items
      · exact itemsStep_next e rfl
    · exact itemsStep_next e rfl
  case frameTransmitted => exact itemsStep_next e rfl
  case loopSilent =>
    simp only [exec, execLoopSilent] at e
    split at e
    · exact itemsStep_next e (configKept_expireTimer s).items
    · exact itemsStep_next e rfl
  case read | discardCountRead => exact itemsStep_served e (serveRead_items · _ _ _)
  case openTable => exact itemsStep_served e (serveOpen_items · _)
  case loadTable => exact itemsStep_served e (serveLoad_items · _ _ _ _)
  case closeTable => exact itemsStep_served e (serveClose_items · _)
  case abandonTable => exact itemsStep_served e (serveAbandon_items · _)
  case readTable => exact itemsStep_served e (serveReadTable_items · _ _ _)
  case start => exact itemsStep_served e serveStart_items
  case stop => exact itemsStep_served e serveStop_items
  case learn => exact itemsStep_served e (serveLearn_items · _)
  case zero => exact itemsStep_serve e (serveZero_items · _ _)
  case force => exact itemsStep_served e (serveForce_items · _)
  case ack => exact itemsStep_served e (serveAck_items · _)
  case readAlarms => exact itemsStep_served e (serveReadAlarms_items · _ _)
  case reset => exact itemsStep_served e (fun _ => rfl)
  case unknownCode r code =>
    simp only [exec, execUnknownCode] at e
    split at e
    · exact itemsStep_next e rfl
    · exact itemsStep_served e (fun _ => rfl)
  case write | crossingFlags | pitHeading | correctionMode | speedLimit | offsetLimit | gainLimit | gainMode | gainLow
      | gainHigh | swingGear | hoistRopeK | dragRopeK | camZero | fixedItems =>
    exact itemsStep_serve e (serveWrite_items · _ _ _)
  case channelStale | memberAbsent | discreteStale | cmdLost | transferTimeout | shoeMismatch | shoeDisagree =>
    simp only [exec, execChannelStale, execMemberAbsent, execDiscreteStale, execCmdLost, execTransferTimeout,
      execShoeMismatch, execShoeDisagree] at e
    exact itemsStep_cycleEvent e
  case brakeDelayExpiry l group lever =>
    simp only [exec, execBrakeDelayExpiry] at e
    split at e
    · exact itemsStep_next e (arrival_items s (fun u => (configKept_takeCommand l _ lever u).items) l 4)
    · exact itemsStep_next e rfl
  case stuck | settled =>
    simp only [exec, execStuck, execSettled] at e
    exact itemsStep_sampleEvent e

theorem itemsStep_step (e : step s = .next t) : ItemsStep s.items t.items := by
  unfold step at e
  split at e
  · exact itemsStep_next e rfl
  · rename_i rest _
    exact itemsStep_exec (s := s.withPending rest) e

end

end Sys2Proof.Machine
end

section
/-! The cap and gain items stay in their ranges through whatever a command does to the item store: O12. -/

namespace Sys2Proof.Machine

/-- The cap and gain items of an item store in their ranges (R33, R87, R130). -/
def CapsWithin (it : Items) : Prop :=
  (0 ≤ it.limitCreep ∧ it.limitCreep ≤ 1000) ∧ (0 ≤ it.noDumpCap ∧ it.noDumpCap ≤ 1000)
    ∧ (0 ≤ it.doubtCreep ∧ it.doubtCreep ≤ 1000) ∧ (0 ≤ it.headingCreep ∧ it.headingCreep ≤ 1000)
    ∧ (0 ≤ it.pullbackGain ∧ it.pullbackGain ≤ 1000) ∧ (1 ≤ it.finishSpeed ∧ it.finishSpeed ≤ 1000)

theorem capItemsOk_iff (s : State) : CapItemsOk s ↔ CapsWithin s.items := Iff.rfl

theorem capsWithin_reset : CapsWithin .reset := by unfold CapsWithin; decide

/-! ### Writes -/

/-- A write of a channel item stores nothing but channel items (R186). -/
theorem writeChannel_items (n : Nat) (a : Axis) (w : Word) (s : State) :
    ∃ ch, (writeChannel n a w s).1.items = { s.items with channels := ch } := by
  have fixed (it : ChannelItems) : ∃ ch, (applyFixed a it s).items = { s.items with channels := ch } := by
    rw [applyFixed_eq]
    exact ⟨_, rfl⟩
  simp only [writeChannel]
  split
  case h_5 | h_6 | h_7 => exact fixed _
  case h_11 => exact ⟨_, report_items _ _⟩
  case h_12 =>
    rw [applyGainMode_eq]
    exact ⟨_, rfl⟩
  all_goals exact ⟨_, rfl⟩

theorem writeGroup_items (n : Nat) (g : Axis) (w : Word) (s : State) :
    ∃ gs, (writeGroup n g w s).1.items = { s.items with groups := gs } := by
  simp only [writeGroup]
  split <;> exact ⟨_, rfl⟩

theorem setSwingGear_items (v : Int) (s : State) : (setSwingGear v s).items = { s.items with swingGear := v } := by
  by_cases h : s.items.swingGear = v
  · rw [setSwingGear_held h, ← h]
  · exact (setSwingGear_spec h).1

theorem setRopeK_items (d : Drum) (v : Int) (s : State) :
    (setRopeK d v s).items = { s.items with ropeK := s.items.ropeK.set d v } := by
  by_cases h : s.items.ropeK.get d = v
  · rw [setRopeK_held d h, ← h]
    cases d <;> rfl
  · exact (setRopeK_spec d h).1

theorem setCamZero_items (v : Int) (s : State) : (setCamZero v s).items = { s.items with camZero := v } :=
  (handsOff_updateCam _).items

theorem setPitHeading_items (v : Int) (s : State) : (setPitHeading v s).items = { s.items with pitHeading := v } :=
  (handsOff_updateHouse _ _).items.trans (report_items _ _)

/-- A write of an item of the part clamps each cap and gain item into its range, and leaves the others (R186). -/
theorem capsWithin_writePart (n : Nat) (w : Word) {s : State} (ok : CapsWithin s.items) : CapsWithin (writePart n w s).1.items := by
  have cap (v : Int) := clamp_mem (lo := 0) (hi := 1000) (by decide) v
  have speed (v : Int) := clamp_mem (lo := 1) (hi := 1000) (by decide) v
  have ⟨limit, dump, doubt, heading, gain, finish⟩ := ok
  unfold writePart
  split
  case h_4 => rw [setSwingGear_items]; exact ok
  case h_5 | h_6 => rw [setRopeK_items]; exact ok
  case h_10 => rw [setCamZero_items]; exact ok
  case h_11 => rw [setPitHeading_items]; exact ok
  case h_12 => exact ⟨limit, dump, cap _, heading, gain, finish⟩
  case h_13 => exact ⟨limit, dump, doubt, cap _, gain, finish⟩
  case h_19 => exact ⟨cap _, dump, doubt, heading, gain, finish⟩
  case h_20 => exact ⟨limit, cap _, doubt, heading, gain, finish⟩
  case h_22 => exact ⟨limit, dump, doubt, heading, cap _, finish⟩
  case h_29 => exact ⟨limit, dump, doubt, heading, gain, speed _⟩
  all_goals exact ok

theorem capsWithin_writeItem (sc : Scope) (n index : Nat) (w : Word) {s : State} (ok : CapsWithin s.items) :
    CapsWithin (writeItem sc n index w s).1.items := by
  unfold writeItem
  split
  · exact capsWithin_writePart n w ok
  · split
    · obtain ⟨ch, e⟩ := writeChannel_items n _ w s
      rw [e]; exact ok
    · exact ok
  · split
    · obtain ⟨gs, e⟩ := writeGroup_items n _ w s
      rw [e]; exact ok
    · exact ok
  all_goals exact ok

/-! ### O12 -/

/-- Nothing a command can do to the item store takes a cap or gain item out of its range. -/
theorem ItemsStep.capsWithin {a b : Items} (h : ItemsStep a b) (ok : CapsWithin a) : CapsWithin b := by
  cases h with
  | kept => exact ok
  | defaults => exact capsWithin_reset
  | written sc n index w u h => exact capsWithin_writeItem sc n index w (h ▸ ok)
  | zeroed z => exact ok

/-- Settles O12: `itemsStep_step` says what a step does to the items, and `ItemsStep.capsWithin` that this keeps the ranges. -/
theorem stepKeepsCapItems : Obligations.StepKeepsCapItems := fun _ _ ok e => (itemsStep_step e).capsWithin ok

end Sys2Proof.Machine
end

section
/-! ZERO requests (R43 to R45): what a zero leaves of the POS, and O34. -/

namespace Sys2Proof.Machine

/-! ### What a zero leaves -/

/-- The drum's zero moved and its doubt cleared: the state before the payout's recompute (R44). -/
def drumZeroed (d : Drum) (v : Int) (s : State) : State :=
  s.withPos ({ s.pos with payoutZero := s.pos.payoutZero.set d (v - payoutTerm s.pos s.items d) }.setDoubt d.axis false)

/-- The house's zero moved and its doubt cleared: the state before the recompute of the angles (R44). -/
def houseZeroed (v : Int) (s : State) : State :=
  s.withPos ({ s.pos with houseZero := (v - houseTerm s.pos s.items) % Config.circle }.setDoubt .swing false)

/-- CAM_ZERO moved: the state before the cam angle's recompute (R45). -/
def camZeroed (v : Int) (s : State) : State := s.withItems { s.items with camZero := (v - camTerm s.pos) % 360 }

theorem zeroAxis_drum_eq (d : Drum) (v : Int) (s : State) : zeroAxis d.axis v s = updateDrum d (drumZeroed d v s) := by
  cases d <;> rfl

theorem zeroAxis_swing_eq (v : Int) (s : State) : zeroAxis .swing v s = updateHouse .datum (houseZeroed v s) := rfl

theorem zeroAxis_walk_eq (v : Int) (s : State) : zeroAxis .walk v s = updateCam (camZeroed v s) := rfl

/-- A zero of a drum makes the payout the value, out of doubt (R44). -/
theorem zeroAxis_drum (d : Drum) {v : Int} (range : 0 ≤ v ∧ v ≤ 65000) (s : State) :
    (zeroAxis d.axis v s).pos.payout.get d = v ∧ (zeroAxis d.axis v s).pos.doubtful.get d.drive = false := by
  have unclamped : unclampedPayout (drumZeroed d v s).pos (drumZeroed d v s).items d
      = (v - payoutTerm s.pos s.items d) + payoutTerm s.pos s.items d := by cases d <;> rfl
  have doubt : (drumZeroed d v s).pos.doubtful.get d.drive = false := by cases d <;> rfl
  obtain ⟨b, pos⟩ := updateDrum_pos d (drumZeroed d v s)
  rw [zeroAxis_drum_eq, pos]
  refine ⟨?_, doubt⟩
  rw [PerDrum.get_set, unclamped]
  simp only [clamp]; omega

/-- A zero of the house makes the house angle the value, out of doubt, and crosses no mark (R44, R122). -/
theorem zeroAxis_house {v : Int} (range : 0 ≤ v ∧ v ≤ 35999) (s : State) :
    (zeroAxis .swing v s).pos.house = v ∧ (zeroAxis .swing v s).pos.doubtful.swing = false
      ∧ (zeroAxis .swing v s).swu.marks = s.swu.marks := by
  have house : houseAngle (houseZeroed v s).pos (houseZeroed v s).items
      = ((v - houseTerm s.pos s.items) % 36000 + houseTerm s.pos s.items) % 36000 := rfl
  obtain ⟨b, pos⟩ := updateHouse_pos .datum (houseZeroed v s)
  obtain ⟨-, -, marks⟩ := updateHouse_swu .datum (houseZeroed v s)
  rw [zeroAxis_swing_eq]
  refine ⟨?_, ?_, marks rfl⟩ <;> rw [pos]
  · exact house.trans (by omega)
  · rfl

/-- A zero of the cam moves CAM_ZERO so that the cam angle is the value; the cam has no doubt flag (R45). -/
theorem zeroAxis_cam {v : Int} (range : 0 ≤ v ∧ v ≤ 359) (s : State) :
    (zeroAxis .walk v s).pos.cam = v ∧ (zeroAxis .walk v s).pos.doubtful = s.pos.doubtful
      ∧ (zeroAxis .walk v s).items = { s.items with camZero := (zeroAxis .walk v s).items.camZero } := by
  have cam : ((camZeroed v s).items.camZero + camTerm (camZeroed v s).pos) % 360
      = ((v - camTerm s.pos) % 360 + camTerm s.pos) % 360 := rfl
  have items : (updateCam (camZeroed v s)).items = (camZeroed v s).items := (handsOff_updateCam _).items
  obtain ⟨⟨b, pos⟩, -⟩ := updateCam_pos (camZeroed v s)
  rw [zeroAxis_walk_eq]
  refine ⟨?_, ?_, by rw [items]; rfl⟩ <;> rw [pos]
  · exact cam.trans (by omega)
  · rfl

/-- A zero leaves the channels, the tables, the DGU and the port alone. -/
theorem zeroAxis_kept (a : Axis) (v : Int) (s : State) :
    (zeroAxis a v s).tru = s.tru ∧ (zeroAxis a v s).tables = s.tables ∧ (zeroAxis a v s).dgu = s.dgu
      ∧ (zeroAxis a v s).lpu = s.lpu := by
  have drive (d : Drive) : (zeroAxis d.axis v s).tru = s.tru ∧ (zeroAxis d.axis v s).tables = s.tables
      ∧ (zeroAxis d.axis v s).dgu = s.dgu ∧ (zeroAxis d.axis v s).lpu = s.lpu :=
    have kept := handsOff_zeroAxis d v s
    ⟨kept.tru, kept.tables, zeroAxis_dgu _ v s, kept.lpu⟩
  cases a
  case hoist => exact drive .hoist
  case drag => exact drive .drag
  case swing => exact drive .swing
  case walk =>
    have kept := handsOff_updateCam (camZeroed v s)
    exact ⟨kept.tru, kept.tables, zeroAxis_dgu _ v s, kept.lpu⟩

/-! ### The request -/

theorem zeroTop_nonneg (a : Axis) : 0 ≤ zeroTop a := by cases a <;> decide

/-- Outside RUN, or with the group HELD, a channel that can be zeroed is zeroed to the clamped value (R43). -/
theorem serveZero_accepted {a : Axis} {w : Word} {s : State} (allowed : s.mgu.mode ≠ .run ∨ (s.group a).state = .held)
    (ready : zeroable s.pos a = true) : serveZero (natWord a.code) [w] s
      = ⟨zeroAxis a (min (zeroTop a) (w.toNat : Int)) s, okIf (min (zeroTop a) (w.toNat : Int) != (w.toNat : Int)), []⟩ := by
  have admitted : ¬ (s.mgu.mode = .run ∧ (s.group a).state ≠ .held) :=
    fun refused => allowed.elim (· refused.1) refused.2
  rw [← clamp_unsigned (zeroTop a) w (zeroTop_nonneg a)]
  simp [serveZero, axisOfCode_natWord, admitted, ready, clampTo, unsigned]

theorem zero_exact (top : Int) (w : Word) :
    (okIf (min top (w.toNat : Int) != (w.toNat : Int))).code = if (w.toNat : Int) ≤ top then 0 else 1 := by
  rw [okIf_code, notExact]
  by_cases h : (w.toNat : Int) ≤ top <;> simp [h]

/-- Settles O34: an accepted ZERO comes to `zeroAxis`, whose three lemmas say what it leaves; the others are refused. -/
theorem zeroRequests : Obligations.ZeroRequests := by
  intro r w s h
  refine ⟨fun a allowed ready => ?_, fun a run moving => ?_, fun ch large => ?_⟩
  · have zeroable : zeroable (goodFrameSeen s).pos a = true := by
      rcases ready with x | x <;> simp [zeroable, goodFrameSeen_eq, x]
    obtain ⟨tru, tables, dgu, lpu⟩ := zeroAxis_kept a (min (zeroTop a) (w.toNat : Int)) (goodFrameSeen s)
    obtain ⟨t, e, rest, answer⟩ := serve_answered (r := r) (code := 11) h
      (serveZero_accepted (s := goodFrameSeen s) allowed zeroable) lpu (Nat.zero_le _)
    rw [zero_exact] at answer
    refine ⟨t, e, ?_, by rw [rest]; exact tru, by rw [rest]; exact dgu, by rw [rest]; exact tables, answer⟩
    have range : 0 ≤ min (zeroTop a) (w.toNat : Int) ∧ min (zeroTop a) (w.toNat : Int) ≤ zeroTop a := by
      have := zeroTop_nonneg a
      omega
    rw [rest]
    cases a
    case hoist =>
      obtain ⟨payout, doubt⟩ := zeroAxis_drum .hoist range (goodFrameSeen s)
      exact ⟨payout, doubt, (handsOff_zeroAxis .hoist _ _).items⟩
    case drag =>
      obtain ⟨payout, doubt⟩ := zeroAxis_drum .drag range (goodFrameSeen s)
      exact ⟨payout, doubt, (handsOff_zeroAxis .drag _ _).items⟩
    case swing =>
      obtain ⟨house, doubt, marks⟩ := zeroAxis_house range (goodFrameSeen s)
      exact ⟨house, doubt, (handsOff_zeroAxis .swing _ _).items, marks⟩
    case walk => exact zeroAxis_cam range (goodFrameSeen s)
  · exact serve_nothingElse (x := .refusedMode) h (by
      simp [serveZero, axisOfCode_natWord, refuse, goodFrameSeen_eq, run, moving])
  · exact serve_nothingElse (x := .outOfRange) h (by simp [serveZero, Axis.ofCode_large large, refuse])

end Sys2Proof.Machine
end

section
/-! Writes of PIT_HEADING (R48): what a report leaves of the heading while the sequencer does not walk, and O39. -/

namespace Sys2Proof.Machine

/-! ### A report while the sequencer does not walk -/

/-- POS and SWU stand, the heading included, and the sequencer does not walk. -/
structure Still (s t : State) : Prop where
  pos : t.pos = s.pos
  swu : t.swu = s.swu
  rest : walking t.wsq.state = false

theorem Still.trans {a b c : State} (h : Still a b) (k : Still b c) : Still a c :=
  ⟨k.pos.trans h.pos, k.swu.trans h.swu, k.rest⟩

theorem still_aluTake (rs : List Report) {s : State} (h : walking s.wsq.state = false) : Still s (aluTake rs s) := by
  obtain ⟨x, m, p, e⟩ := aluTake_eq rs s
  rw [e]
  exact ⟨rfl, rfl, h⟩

/-- Entering a state that forces the digging groups leaves POS and SWU, and the sequencer in that state (R146). -/
theorem still_force (s : State) (w : Wsq) (h : walking w.state = false) : Still s (force (s.withWsq w)) := by
  obtain ⟨p, e⟩ := stopGroups_eq [.hoist, .drag, .swing] (s.withWsq w)
  rw [force, e]
  exact ⟨rfl, rfl, h⟩

theorem still_enterWalkReady (s : State) : Still s (enterWalkReady s).1 := still_force s _ rfl

theorem still_enterClosingWalk (s : State) : Still s (enterClosingWalk s).1 := by
  have entered := still_force s { s.wsq with state := .closingWalk, command := .walk } rfl
  simp only [enterClosingWalk]
  split
  · have ready := entered.trans (still_enterWalkReady _)
    exact ⟨ready.pos, ready.swu, ready.rest⟩
  · exact entered

/-- Only a walk that ends moves the heading (R50): without one the sequencer's reaction leaves POS and SWU. -/
theorem still_reactToGroups {s : State} (h : walking s.wsq.state = false) : Still s (reactToGroups s).1 := by
  have same : Still s s := ⟨rfl, rfl, h⟩
  unfold reactToGroups
  split
  · split
    · have opened : Still s (s.withWsq { s.wsq with command := .none }) := ⟨rfl, rfl, h⟩
      simp only [openDrag]
      split
      · exact opened.trans (still_enterClosingWalk _)
      · exact opened
    · exact same
  case h_2 e | h_3 e => simp [walking, e] at h
  · exact same

theorem still_report (rs : List Report) {s : State} (h : walking s.wsq.state = false) : Still s (report rs s) := by
  have taken := still_aluTake rs h
  have reacted := taken.trans (still_reactToGroups taken.rest)
  simp only [report]
  split
  · exact reacted
  · exact reacted.trans (still_aluTake _ reacted.rest)

/-- A recompute of the house hands the heading confirmed flag on as it stands (R35). -/
theorem updateHouse_heading (c : HrCause) {s : State} (h : walking s.wsq.state = false) :
    (updateHouse c s).pos.headingConfirmed = s.pos.headingConfirmed
      ∧ (updateHouse c s).swu.heldHeading = s.pos.headingConfirmed := by
  let p := { s.pos with
    house := houseAngle s.pos s.items, relative := (houseAngle s.pos s.items - s.items.pitHeading) % Config.circle }
  let m := takeHr p.relative c p.doubtful.swing p.headingConfirmed (s.withPos p)
  have doubtTaken : Still m.1 (report [doubtReport p .swing] m.1) := still_report _ h
  have both : Still m.1 (updateHouse c s) := doubtTaken.trans (still_report m.2 doubtTaken.rest)
  rw [both.pos, both.swu]
  exact ⟨rfl, rfl⟩

theorem updateHouse_env (c : HrCause) (s : State) : (updateHouse c s).env = s.env :=
  (reacts_report _ _).env.trans (reacts_report _ _).env

/-! ### The write -/

/-- The heading stored and confirmed, its condition fallen: the state before the recompute of the angles (R48). -/
def headingStored (v : Int) (s : State) : State :=
  report [.level cHeadingUnconfirmed false none]
    ((s.withItems { s.items with pitHeading := v }).withPos { s.pos with headingConfirmed := true })

theorem setPitHeading_eq (v : Int) (s : State) : setPitHeading v s = updateHouse .datum (headingStored v s) := rfl

theorem headingStored_items (v : Int) (s : State) : (headingStored v s).items = { s.items with pitHeading := v } := report_items _ _

/-- An accepted write stores the heading, recomputes Hr as a datum change and confirms the heading (R48). -/
theorem setPitHeading_spec (v : Int) {s : State} (h : walking s.wsq.state = false) :
    (setPitHeading v s).pos.headingConfirmed = true ∧ (setPitHeading v s).swu.heldHeading = true
      ∧ (setPitHeading v s).pos.relative = ((setPitHeading v s).pos.house - v) % 36000
      ∧ (setPitHeading v s).swu.heldHr = (setPitHeading v s).pos.relative
      ∧ (setPitHeading v s).swu.marks = s.swu.marks ∧ (setPitHeading v s).pos.houseZero = s.pos.houseZero := by
  have still : Still ((s.withItems { s.items with pitHeading := v }).withPos { s.pos with headingConfirmed := true })
      (headingStored v s) := still_report _ h
  have confirmed : (headingStored v s).pos.headingConfirmed = true := by rw [still.pos]; rfl
  obtain ⟨pos, heading⟩ := updateHouse_heading .datum still.rest
  obtain ⟨hr, -, marks⟩ := updateHouse_swu .datum (headingStored v s)
  obtain ⟨b, angles⟩ := updateHouse_pos .datum (headingStored v s)
  rw [setPitHeading_eq]
  refine ⟨pos.trans confirmed, heading.trans confirmed, ?_, hr, ?_, ?_⟩
  · rw [angles, headingStored_items]
    rfl
  · rw [marks rfl, still.swu]
    rfl
  · rw [angles, still.pos]
    rfl

/-- A write of PIT_HEADING leaves the tables, what the other blocks measure and the port alone. -/
theorem setPitHeading_kept (v : Int) (s : State) :
    (setPitHeading v s).tables = s.tables ∧ SameMeasured s (setPitHeading v s) ∧ (setPitHeading v s).lpu = s.lpu := by
  have fall : Reacts ((s.withItems { s.items with pitHeading := v }).withPos { s.pos with headingConfirmed := true })
      (headingStored v s) := reacts_report _ _
  have house := handsOff_updateHouse .datum (headingStored v s)
  exact ⟨house.tables.trans fall.tables,
    ⟨house.tru.trans fall.tru, (updateHouse_dgu _ _).trans fall.dgu, (updateHouse_env _ _).trans fall.env⟩,
    house.lpu.trans fall.lpu⟩

theorem pitHeading_named : namedItem (46 : Word).toNat (0 : Word).toNat = some ⟨46, 48, .part, .run⟩ := rfl

/-- A write of PIT_HEADING is refused in RUN with SWING not HELD, and accepted otherwise (R48, R185). -/
theorem serveWrite_pitHeading (w : Word) (s : State) : serveWrite 46 0 [w] s
    = if s.mgu.mode = .run ∧ (s.group .swing).state ≠ .held then refuse s .refusedMode
      else ⟨setPitHeading (clamp 0 35999 (unsigned w)) s, okIf (clamp 0 35999 (unsigned w) != unsigned w), []⟩ := by
  have test : writeRefused 46 .run s = true ↔ s.mgu.mode = .run ∧ (s.group .swing).state ≠ .held := by simp [writeRefused]
  simp only [serveWrite, pitHeading_named]
  rw [if_neg (by decide)]
  exact if_congr test rfl rfl

/-- Settles O39: an accepted write comes to `setPitHeading` (`setPitHeading_spec`, `setPitHeading_kept`). -/
theorem pitHeadingWrite : Obligations.PitHeadingWrite := by
  intro r w s h
  refine ⟨fun allowed rest => ?_, fun mode moving => ?_⟩
  · obtain ⟨confirmed, held, relative, hr, marks, zero⟩ :=
      setPitHeading_spec (clamp 0 35999 (unsigned w)) (s := goodFrameSeen s) rest
    obtain ⟨tables, measured, lpu⟩ := setPitHeading_kept (clamp 0 35999 (unsigned w)) (goodFrameSeen s)
    have accepted := (serveWrite_pitHeading w (goodFrameSeen s)).trans
      (if_neg fun refused => allowed.elim (· refused.1) refused.2)
    obtain ⟨t, e, left, answer⟩ := serve_answered (r := r) (code := 2) h accepted lpu (Nat.zero_le _)
    rw [okIf_code, clamp_exact (top := 35999) (n := 35999) rfl] at answer
    rw [← clamp_unsigned 35999 w (by decide)]
    refine ⟨t, e, ?_, ?_, ?_, ?_, ?_, ?_, ?_, ?_, ?_, answer⟩ <;> rw [left]
    · exact setPitHeading_items _ _
    · exact confirmed
    · exact held
    · exact relative
    · exact hr
    · exact marks
    · exact zero
    · exact tables
    · exact measured
  · exact serve_nothingElse (r := r) (code := 2) (x := .refusedMode) h
      ((serveWrite_pitHeading w (goodFrameSeen s)).trans (if_pos ⟨mode, moving⟩))

end Sys2Proof.Machine
end

section
/-! The resolved form (R57, R59, R60): O60. -/

namespace Sys2Proof.Machine

theorem canFull_iff (m : Member) : canFull m = true ↔ ∃ x, m.ability = some x ∧ x.full = true := by
  cases h : m.ability <;> simp [canFull, h]

theorem canPlain_iff (m : Member) : canPlain m = true ↔ ∃ x, m.ability = some x ∧ x.plain = true := by
  cases h : m.ability <;> simp [canPlain, h]

theorem permitsFull_iff (want : Desired) : want.permitsFull = true ↔ want ≠ .plainOnly := by cases want <;> decide

theorem permitsPlain_iff (want : Desired) : want.permitsPlain = true ↔ want ≠ .fullOnly := by cases want <;> decide

/-- Every member that takes part has an ability exactly when every member that is not ABSENT has it (R57). -/
theorem taking_all_iff (can : Member → Bool) (ms : List Member) :
    (taking ms).all can = true ↔ ∀ m ∈ ms, m.presence ≠ .absent → can m = true := by
  simp [taking, or_iff_not_imp_left]

theorem taking_eq_nil {ms : List Member} (h : ∀ m ∈ ms, m.presence = .absent) : taking ms = [] :=
  List.filter_eq_nil_iff.2 (by simpa using h)

/-- A READY member takes part, so without a member that does none is READY. -/
theorem readyMembers_eq_nil {ms : List Member} (h : ∀ m ∈ ms, m.presence = .absent) : readyMembers ms = [] :=
  List.filter_eq_nil_iff.2 fun m mem => by rw [h m mem]; decide

section
variable (ms : List Member) (want : Desired)

/-- FULL needs a member that takes part, the desired forms' leave and every such member's ability (R57). -/
theorem resolveForm_full_iff : resolveForm ms want = .full
    ↔ taking ms ≠ [] ∧ want.permitsFull = true ∧ (taking ms).all canFull = true := by
  rcases h : taking ms with _ | ⟨m, ts⟩
  · simp [resolveForm, h]
  · simp only [resolveForm, h, List.isEmpty_cons]
    split_ifs <;> simp_all

/-- PLAIN needs the same of the PLAIN form, once FULL is out (R57). -/
theorem resolveForm_plain_iff : resolveForm ms want = .plain
    ↔ resolveForm ms want ≠ .full ∧ taking ms ≠ [] ∧ want.permitsPlain = true ∧ (taking ms).all canPlain = true := by
  rcases h : taking ms with _ | ⟨m, ts⟩
  · simp [resolveForm, h]
  · simp only [resolveForm, h, List.isEmpty_cons]
    split_ifs <;> simp_all

end

/-- Settles O60, by the test each form makes of the members that take part. -/
theorem formResolution : Obligations.FormResolution := by
  intro ms want
  refine ⟨?_, ?_, fun absent => ⟨?_, ?_, ?_⟩⟩
  · simp only [resolveForm_full_iff, permitsFull_iff, taking_all_iff, canFull_iff]
  · simp only [resolveForm_plain_iff ms want, permitsPlain_iff, taking_all_iff, canPlain_iff]
  · simp [resolveForm, taking_eq_nil absent]
  · simp [groupValues, readyMembers_eq_nil absent]
  · simp [groupValues, readyMembers_eq_nil absent, sumOf, trunc]

end Sys2Proof.Machine
end

section
/-! DRIVE_STATUS frames (R54, R55): what a hand-off of the DGU leaves of the blocks it recomputes nothing of, and O24. -/

namespace Sys2Proof.Machine

/-! ### The member records -/

theorem takeStatus_address (d : DriveData) (m : Member) : (m.takeStatus d).address = m.address := rfl

/-- The records after a frame: the member whose address is the source takes it, the others stand (R54). -/
def statusRecords (src : Nat) (d : DriveData) (ms : List Member) : List Member :=
  ms.map fun m => if m.address = src then m.takeStatus d else m

section
variable (src : Nat) (d : DriveData) (ms : List Member)

theorem mem_statusRecords {m : Member} (h : m ∈ statusRecords src d ms) (k : m.address = src) :
    ∃ m' : Member, m = m'.takeStatus d := by
  obtain ⟨m', -, rfl⟩ := List.mem_map.1 h
  by_cases e : m'.address = src
  · exact ⟨m', if_pos e⟩
  · rw [if_neg e] at k
    exact absurd k e

theorem statusRecords_addresses : (statusRecords src d ms).map Member.address = ms.map Member.address := by
  rw [statusRecords, List.map_map]
  refine List.map_congr_left fun m _ => ?_
  simp only [Function.comp]
  split <;> rfl

/-- A frame leaves the records of the other members (R54). -/
theorem statusRecords_others : (statusRecords src d ms).filter (fun m => m.address != src)
    = ms.filter (fun m => m.address != src) := by
  induction ms with
  | nil => rfl
  | cons m ms ih =>
    have rest : statusRecords src d (m :: ms)
        = (if m.address = src then m.takeStatus d else m) :: statusRecords src d ms := rfl
    rw [rest]
    by_cases e : m.address = src
    · simp [e, takeStatus_address, ih]
    · simp [e, ih]

end

/-- What a frame gives its member follows from the frame alone (R54, R55). -/
theorem takeStatus_fields (d : DriveData) (m : Member) :
    (m.takeStatus d).presence = (if d.fault ≠ 0#16 then .faulted else if d.ready ≠ 0#16 then .ready else .present)
      ∧ (m.takeStatus d).torque = some (max (-2000) (min 2000 d.torque.toInt))
      ∧ (m.takeStatus d).speed = some (max (-2000) (min 2000 d.speed.toInt)) := by
  refine ⟨?_, rfl, rfl⟩
  have fault : d.fault.toNat ≠ 0 ↔ d.fault ≠ 0#16 := not_congr (BitVec.toNat_eq (y := 0#16)).symm
  have ready : truthy d.ready = true ↔ d.ready ≠ 0#16 := bne_iff_ne
  exact if_congr fault rfl (if_congr ready rfl rfl)

/-! ### The port -/

section
variable (bs : Bytes) (s : State)

/-- What the port has no part in stands through an offer (R173). -/
theorem offerForwarded_block {α : Type} (view : State → α) (apart : ∀ x, view (s.withLpu x) = view s) :
    view (offerForwarded bs s) = view s := by
  rw [offerForwarded_lpu]
  exact apart _

@[simp] theorem offerForwarded_dgu : (offerForwarded bs s).dgu = s.dgu :=
  offerForwarded_block bs s State.dgu fun _ => rfl
@[simp] theorem offerForwarded_swu : (offerForwarded bs s).swu = s.swu :=
  offerForwarded_block bs s State.swu fun _ => rfl
@[simp] theorem offerForwarded_wsq : (offerForwarded bs s).wsq = s.wsq :=
  offerForwarded_block bs s State.wsq fun _ => rfl
@[simp] theorem offerForwarded_pos : (offerForwarded bs s).pos = s.pos :=
  offerForwarded_block bs s State.pos fun _ => rfl
@[simp] theorem offerForwarded_alu : (offerForwarded bs s).alu = s.alu :=
  offerForwarded_block bs s State.alu fun _ => rfl
@[simp] theorem offerForwarded_tru : (offerForwarded bs s).tru = s.tru :=
  offerForwarded_block bs s State.tru fun _ => rfl
@[simp] theorem offerForwarded_env : (offerForwarded bs s).env = s.env :=
  offerForwarded_block bs s State.env fun _ => rfl
@[simp] theorem offerForwarded_pending : (offerForwarded bs s).pending = s.pending :=
  offerForwarded_block bs s State.pending fun _ => rfl

end

/-! ### The hand-off -/

theorem recompute_values (d : Dgu) (g : Drive) : d.recompute.values.get g = groupValues (d.members.get g) (d.desired.get g) := by
  cases g <;> rfl

/-- A hand-off of the DGU leaves the ENV (R65). -/
theorem handDrives_env (extra : List Report) (s : State) : (handDrives extra s).env = s.env := by
  simp only [handDrives]
  rw [(reacts_report _ _).env]
  split
  · rfl
  · exact (reacts_settleMove _ _ (reacts_reactToSummary _)).env

/-- The device once the frame stands in its member's record, before the hand-off (R54). -/
def statusTaken (src : Nat) (d : DriveData) (s : State) : State :=
  s.withDgu { s.dgu with members := s.dgu.members.map (statusRecords src d) }

theorem statusTaken_members (src : Nat) (d : DriveData) (s : State) (g : Drive) :
    (statusTaken src d s).dgu.members.get g = statusRecords src d (s.dgu.members.get g) := PerDrive.get_map _ _ g

/-- A frame from a member is taken by that member's record and handed on (R54, R65). -/
theorem takeDriveStatus_member {src : Nat} {s : State} (h : ∃ g, ∃ m ∈ s.dgu.members.get g, m.address = src) (d : DriveData) :
    takeDriveStatus src d s = handDrives [] (statusTaken src d s) := by
  obtain ⟨g, m, mem, e⟩ := h
  have hit : Drive.all.any (fun g => (s.dgu.members.get g).any (fun m => m.address == src)) = true :=
    List.any_eq_true.2 ⟨g, Drive.mem_all g, List.any_eq_true.2 ⟨m, mem, beq_iff_eq.2 e⟩⟩
  exact if_pos hit

theorem takeDriveStatus_other {src : Nat} {s : State} (h : ∀ g, ∀ m ∈ s.dgu.members.get g, m.address ≠ src) (d : DriveData) :
    takeDriveStatus src d s = s := by
  refine if_neg fun hit => ?_
  obtain ⟨g, -, hit⟩ := List.any_eq_true.1 hit
  obtain ⟨m, mem, e⟩ := List.any_eq_true.1 hit
  exact h g m mem (beq_iff_eq.1 e)

/-- In the loop a DRIVE_STATUS frame is taken and forwarded behind it. -/
theorem driveStatus_in {l : Link} {s : State} (h : s.lpu.bypass = .off) (f : fits l 12 = true) (d : DriveData) :
    exec (.driveStatus l d) s = .next (offerForwarded (received kindDriveStatus l (driveWords d))
      (takeDriveStatus l.src.toNat d (goodFrameSeen s))) :=
  congrArg Host.Outcome.next (delivered_in kindDriveStatus l (driveWords d) _ s h f)

/-- Settles O24: the records of `statusRecords`, handed on by `handDrives`. -/
theorem driveStatusFrame : Obligations.DriveStatusFrame := by
  intro l d s h f
  refine ⟨fun member => ⟨_, driveStatus_in h f d, ?_⟩, fun other => ⟨_, driveStatus_in h f d, ?_⟩⟩
  · rw [takeDriveStatus_member (s := goodFrameSeen s) member d]
    have hands := handsOff_handDrives [] (statusTaken l.src.toNat d (goodFrameSeen s))
    simp only [offerForwarded_dgu, offerForwarded_swu, offerForwarded_tru, offerForwarded_env, offerForwarded_pending,
      handDrives_dgu, handDrives_torque, handDrives_env, recompute_members, recompute_values, statusTaken_members]
    refine ⟨fun g m mem e => ?_, fun g => ⟨statusRecords_addresses .., statusRecords_others ..⟩, fun g => ⟨rfl, rfl, rfl⟩,
      trivial, rfl, rfl, delivered_offerForwarded _ hands.lpu, ?_, hands.tru, rfl, hands.pending⟩
    · obtain ⟨m', rfl⟩ := mem_statusRecords _ _ _ mem e
      obtain ⟨presence, torque, speed⟩ := takeStatus_fields d m'
      exact ⟨presence, torque, speed, rfl, rfl⟩
    · exact (configKept_offerForwarded _ hands.configKept).same
  · rw [takeDriveStatus_other (s := goodFrameSeen s) other d]
    exact ⟨nothingElse_offerForwarded _ s, delivered_offerForwarded _ rfl⟩

end Sys2Proof.Machine
end

section
/-! DISCRETE frames (R66 to R69): what the inputs of a load and its reference marks leave, the conditions of a load, and O23. -/

namespace Sys2Proof.Machine

/-! ### The reference marks (R46, R47) -/

/-- What the sequencer holds of the brake and shoe inputs stands. -/
structure SeatsKept (s t : State) : Prop where
  brake : t.wsq.brake = s.wsq.brake
  left : t.wsq.left = s.wsq.left
  right : t.wsq.right = s.wsq.right

theorem SeatsKept.trans {a b c : State} (h : SeatsKept a b) (k : SeatsKept b c) : SeatsKept a c :=
  ⟨k.brake.trans h.brake, k.left.trans h.left, k.right.trans h.right⟩

theorem seatsKept_of_wsq {s t : State} (h : t.wsq = s.wsq) : SeatsKept s t := by
  constructor <;> rw [h]

theorem seatsKept_report (rs : List Report) (s : State) : SeatsKept s (report rs s) :=
  have h := reacts_report rs s
  ⟨h.brake, h.left, h.right⟩

theorem seatsKept_updateDrum (d : Drum) (s : State) : SeatsKept s (updateDrum d s) :=
  ((seatsKept_of_wsq (State.withPos_wsq s _)).trans (seatsKept_of_wsq (State.withEnv_wsq _ _))).trans (seatsKept_report _ _)

theorem seatsKept_updateHouse (c : HrCause) (s : State) : SeatsKept s (updateHouse c s) :=
  (((seatsKept_of_wsq (State.withPos_wsq s _)).trans (seatsKept_of_wsq (State.withSwu_wsq _ _))).trans
    (seatsKept_report _ _)).trans (seatsKept_report _ _)

/-- The zero that a mark takes leaves the brake and the shoes (R47). -/
theorem seatsKept_zeroAxis (d : Drive) (v : Int) (s : State) : SeatsKept s (zeroAxis d.axis v s) := by
  cases d
  · exact (seatsKept_of_wsq (State.withPos_wsq s _)).trans (seatsKept_updateDrum .hoist _)
  · exact (seatsKept_of_wsq (State.withPos_wsq s _)).trans (seatsKept_updateDrum .drag _)
  · exact (seatsKept_of_wsq (State.withPos_wsq s _)).trans (seatsKept_updateHouse .datum _)

theorem updateDrum_marks (d : Drum) (s : State) : (updateDrum d s).pos.marks = s.pos.marks := by
  obtain ⟨b, pos⟩ := updateDrum_pos d s
  rw [pos]

theorem updateHouse_marks (c : HrCause) (s : State) : (updateHouse c s).pos.marks = s.pos.marks := by
  obtain ⟨b, pos⟩ := updateHouse_pos c s
  rw [pos]

/-- The zero that a mark takes leaves the held state of every mark (R47). -/
theorem zeroAxis_marks (d : Drive) (v : Int) (s : State) : (zeroAxis d.axis v s).pos.marks = s.pos.marks := by
  cases d
  · exact updateDrum_marks .hoist (drumZeroed .hoist v s)
  · exact updateDrum_marks .drag (drumZeroed .drag v s)
  · exact updateHouse_marks .datum (houseZeroed v s)

theorem seatsKept_takeMark (i : BitVec 32) (s : State) (d : Drive) : SeatsKept s (takeMark i s d) := by
  simp only [takeMark]
  split
  · exact (seatsKept_of_wsq (State.withPos_wsq s _)).trans (seatsKept_zeroAxis d _ _)
  · exact seatsKept_of_wsq (State.withPos_wsq s _)

/-- A mark input's state is held (R46). -/
theorem takeMark_marks (i : BitVec 32) (s : State) (d : Drive) :
    (takeMark i s d).pos.marks = s.pos.marks.set d (some (i.getLsbD (2 + d.code))) := by
  simp only [takeMark]
  split
  · rw [zeroAxis_marks]; rfl
  · rfl

theorem seatsKept_takeMarks (i : BitVec 32) (s : State) : SeatsKept s (takeMarks i s) :=
  ((seatsKept_takeMark i s .hoist).trans (seatsKept_takeMark i _ .drag)).trans (seatsKept_takeMark i _ .swing)

/-- The three mark inputs are held (R46). -/
theorem takeMarks_marks (i : BitVec 32) (s : State) (e : Drive) :
    (takeMarks i s).pos.marks.get e = some (i.getLsbD (2 + e.code)) := by
  simp only [takeMarks, Drive.all, List.foldl_cons, List.foldl_nil, takeMark_marks]
  cases e <;> rfl

/-! ### The machine inputs (R145, R146) -/

/-- The sequencer with the brake and shoe inputs of a load (R145). -/
def withInputs (i : BitVec 32) (w : Wsq) : Wsq :=
  { w with
    brake := i.getLsbD 5
    left := shoeOf (i.getLsbD 12) (i.getLsbD 13)
    right := shoeOf (i.getLsbD 14) (i.getLsbD 15) }

/-- The inputs are held; with the brake not set a walk is stopped (R146). -/
theorem takeInputs_fst (i : BitVec 32) (s : State) : (takeInputs i s).1 = s.withWsq (withInputs i s.wsq)
    ∨ (takeInputs i s).1 = (s.withWsq (withInputs i s.wsq)).stopGroup .walk := by
  simp only [takeInputs]
  split
  · exact .inl rfl
  · split
    · exact .inr rfl
    · exact .inl rfl

theorem handsOff_takeInputs (i : BitVec 32) (s : State) : HandsOff s (takeInputs i s).1 := by
  have held : HandsOff s (s.withWsq (withInputs i s.wsq)) := handsOff_withWsq s _ rfl
  rcases takeInputs_fst i s with e | e <;> rw [e]
  · exact held
  · exact held.trans (handsOff_of_reacts (reacts_stopGroup _ .walk) rfl)

theorem takeInputs_held (i : BitVec 32) (s : State) :
    (takeInputs i s).1.wsq = withInputs i s.wsq ∧ (takeInputs i s).1.dgu = s.dgu := by
  rcases takeInputs_fst i s with e | e <;> rw [e] <;> exact ⟨rfl, rfl⟩

/-! ### The load (R66 to R69) -/

/-- The DGU with the image and the brakes of a load (R66, R69). -/
def loadedDgu (low high : Word) (d : Dgu) : Dgu :=
  { d with image := loadImage low high, brakes := decodeBrakes (high ++ low) }

/-- A load handed to the sequencer and the POS, before its own conditions are reported (R65). -/
def loadTaken (i : BitVec 32) (d : Dgu) (s : State) : State := takeMarks i (settleMove (takeInputs i (s.withDgu d)))

/-- The load of the inputs `i`, which leaves the DGU `d`, with its conditions reported (R65). -/
def loadReported (i : BitVec 32) (d : Dgu) (s : State) : State := report (loadReports d) (loadTaken i d s)

section
variable (i : BitVec 32) (d : Dgu) (s : State)

theorem handsOff_loadTaken : HandsOff s (loadTaken i d s) :=
  (((handsOff_withDgu s d).trans (handsOff_takeInputs i _)).trans (handsOff_report _ _)).trans (handsOff_takeMarks i _)

theorem handsOff_loadReported : HandsOff s (loadReported i d s) := (handsOff_loadTaken i d s).trans (handsOff_report _ _)

theorem loadReported_dgu : (loadReported i d s).dgu = d := by
  rw [loadReported, report_dgu, loadTaken, takeMarks_dgu, settleMove, report_dgu, (takeInputs_held _ _).2]
  rfl

/-- The mark inputs of a load stay with the POS (R46). -/
theorem loadReported_marks (e : Drive) : (loadReported i d s).pos.marks.get e = some (i.getLsbD (2 + e.code)) := by
  obtain ⟨b, pos⟩ := report_pos (loadReports d) (loadTaken i d s)
  rw [loadReported, pos]
  exact takeMarks_marks i _ e

/-- The brake and shoe inputs of a load stay with the sequencer (R145). -/
theorem loadReported_wsq : (loadReported i d s).wsq.brake = i.getLsbD 5
    ∧ (loadReported i d s).wsq.left = shoeOf (i.getLsbD 12) (i.getLsbD 13)
    ∧ (loadReported i d s).wsq.right = shoeOf (i.getLsbD 14) (i.getLsbD 15) := by
  have held := (takeInputs_held i (s.withDgu d)).1
  have taken : SeatsKept (takeInputs i (s.withDgu d)).1 (loadTaken i d s) :=
    (seatsKept_report _ _).trans (seatsKept_takeMarks i _)
  have kept : SeatsKept (takeInputs i (s.withDgu d)).1 (loadReported i d s) := taken.trans (seatsKept_report _ _)
  refine ⟨kept.brake.trans ?_, kept.left.trans ?_, kept.right.trans ?_⟩ <;> rw [held] <;> rfl

end

/-! ### The conditions of a load (R67 to R69) -/

/-- DISCRETE_STALE, ESTOP, BOOM_LIMIT, the brakes', the two limit switches' and the EXTERNAL_k conditions (R166). -/
def loadNumbers : List Nat := [6, 7, 8, 36, 37, 38, 39, 40, 41, 43, 44, 54, 55, 56, 57, 58, 59]

theorem loadReports_numbers (d : Dgu) : (loadReports d).map Report.number = loadNumbers := rfl

/-- A condition of a load stands as its input gives it. -/
theorem loadReported_raised {i : BitVec 32} {d : Dgu} {s : State} (ok : AlarmsOk s) {n : Nat} {b : Bool}
    (mem : .level n b none ∈ loadReports d) : (loadReported i d s).alu.raised n = b := by
  have number : n ∈ loadNumbers := loadReports_numbers d ▸ List.mem_map_of_mem (f := Report.number) mem
  have apart : ∀ n ∈ loadNumbers, n ∉ reactionNumbers ∧ n < 60 := by decide
  have length : (loadTaken i d s).alu.conds.length = 60 := (handsOff_loadTaken i d s).length.trans ok.1
  exact (report_level _ _ n b none (apart n number).1 (length ▸ (apart n number).2) mem
    (by rw [loadReports_numbers]; decide)).1

section
variable (d : Dgu)

theorem staleReport_mem : staleReport d.image ∈ loadReports d := by simp [loadReports]

theorem estop_mem : .level cEstop (d.image.inputs.getLsbD 17) none ∈ loadReports d := by simp [loadReports]

theorem boomLimit_mem : .level cBoomLimit (d.image.inputs.getLsbD 16) none ∈ loadReports d := by simp [loadReports]

theorem brakeWorn_mem (e : Drive) : .level (cBrakeWorn e) (d.brakes.get e == .worn) none ∈ loadReports d := by
  have := List.mem_map_of_mem (f := fun g => Report.level (cBrakeWorn g) (d.brakes.get g == .worn) none) (Drive.mem_all e)
  simp only [loadReports, List.mem_append, this, true_or, or_true]

theorem brakeFailed_mem (e : Drive) : .level (cBrakeFailed e) (d.brakes.get e == .failed) none ∈ loadReports d := by
  have := List.mem_map_of_mem (f := fun g => Report.level (cBrakeFailed g) (d.brakes.get g == .failed) none) (Drive.mem_all e)
  simp only [loadReports, List.mem_append, this, true_or, or_true]

theorem hoistTopLimit_mem : .level cHoistTopLimit (d.image.inputs.getLsbD 0) none ∈ loadReports d := by simp [loadReports]

theorem dragInLimit_mem : .level cDragInLimit (d.image.inputs.getLsbD 1) none ∈ loadReports d := by simp [loadReports]

theorem inputAlarm_mem {k : Nat} (h : k < 6) : .level (cExternal k) (d.image.inputs.getLsbD (18 + k)) none ∈ loadReports d := by
  have := List.mem_map_of_mem (f := fun k => Report.level (cExternal k) (d.image.inputs.getLsbD (18 + k)) none)
    (List.mem_range.2 h)
  simp only [loadReports, List.mem_append, this, or_true]

end

/-! ### O23 -/

theorem append_getLsbD_low (high low : Word) {i : Nat} (h : i < 16) : (high ++ low).getLsbD i = low.getLsbD i := by
  rw [BitVec.getLsbD_append, if_pos h]

theorem append_getLsbD_high (high low : Word) (i : Nat) : (high ++ low).getLsbD (16 + i) = high.getLsbD i := by
  rw [BitVec.getLsbD_append, if_neg (by omega), Nat.add_sub_cancel_left]

theorem drive_code_lt (e : Drive) : e.code < 3 := by cases e <;> decide

/-- In the loop a DISCRETE frame is taken and forwarded behind it. -/
theorem discrete_in {l : Link} {s : State} (h : s.lpu.bypass = .off) (f : fits l 4 = true) (low high : Word) :
    exec (.discrete l low high) s = .next (offerForwarded (received kindDiscrete l [low, high])
      (takeDiscreteFrame l.src low high (goodFrameSeen s))) :=
  congrArg Host.Outcome.next (delivered_in kindDiscrete l [low, high] _ s h f)

theorem takeDiscreteFrame_node {src : Byte} {s : State} (h : s.items.inputNode = src.toNat) (low high : Word) :
    takeDiscreteFrame src low high (goodFrameSeen s)
      = loadReported (high ++ low) (loadedDgu low high s.dgu) (goodFrameSeen s) := if_pos h

/-- The brake inputs of a load lie in its low word (R68, R69). -/
theorem decodeBrakes_get (high low : Word) (e : Drive) : (decodeBrakes (high ++ low)).get e
    = brakeOf (low.getLsbD (6 + 2 * e.code)) (low.getLsbD (7 + 2 * e.code)) := by
  have get : (decodeBrakes (high ++ low)).get e
      = brakeOf ((high ++ low).getLsbD (6 + 2 * e.code)) ((high ++ low).getLsbD (7 + 2 * e.code)) := by cases e <;> rfl
  have lt := drive_code_lt e
  rw [get, append_getLsbD_low _ _ (by omega), append_getLsbD_low _ _ (by omega)]

/-- Settles O23: the load of `loadReported`, its inputs read from the two words. -/
theorem discreteFrame : Obligations.DiscreteFrame := by
  intro l low high s h f ok
  refine ⟨fun node => ⟨_, discrete_in h f low high, ?_⟩, fun other => ⟨_, discrete_in h f low high, ?_⟩⟩
  · rw [takeDiscreteFrame_node node]
    have hands := handsOff_loadReported (high ++ low) (loadedDgu low high s.dgu) (goodFrameSeen s)
    obtain ⟨brake, left, right⟩ := loadReported_wsq (high ++ low) (loadedDgu low high s.dgu) (goodFrameSeen s)
    have raised {n : Nat} {b : Bool} (mem : Report.level n b none ∈ loadReports (loadedDgu low high s.dgu)) :=
      loadReported_raised (i := high ++ low) (s := goodFrameSeen s) ok mem
    have inputs : (loadedDgu low high s.dgu).image.inputs = high ++ low := rfl
    have lowInput {i : Nat} (k : i < 16) := append_getLsbD_low high low k
    have highInput (i : Nat) := append_getLsbD_high high low i
    simp only [offerForwarded_dgu, offerForwarded_wsq, offerForwarded_pos, offerForwarded_alu, offerForwarded_tru,
      offerForwarded_pending, loadReported_dgu]
    refine ⟨rfl, decodeBrakes_get high low, ?_, fun e => ?_, ?_, ?_, ?_, ?_, ?_, ?_, raised (staleReport_mem _),
      fun e => ⟨raised (brakeWorn_mem _ e), raised (brakeFailed_mem _ e)⟩, fun k lt => ?_, rfl, rfl,
      hands.tru, delivered_offerForwarded _ hands.lpu, (configKept_offerForwarded _ hands.configKept).same, hands.pending⟩
    · rw [brake, lowInput (by decide)]
    · have lt := drive_code_lt e
      rw [loadReported_marks, lowInput (by omega)]
    · rw [left, lowInput (by decide), lowInput (by decide)]; rfl
    · rw [right, lowInput (by decide), lowInput (by decide)]; rfl
    · rw [raised (estop_mem _), inputs]; exact highInput 1
    · rw [raised (boomLimit_mem _), inputs]; exact highInput 0
    · rw [raised (hoistTopLimit_mem _), inputs, lowInput (by decide)]
    · rw [raised (dragInLimit_mem _), inputs, lowInput (by decide)]
    · rw [raised (inputAlarm_mem _ lt), inputs, ← highInput, ← Nat.add_assoc]
  · rw [show takeDiscreteFrame l.src low high (goodFrameSeen s) = goodFrameSeen s from if_neg other]
    exact ⟨nothingElse_offerForwarded _ s, delivered_offerForwarded _ rfl⟩

end Sys2Proof.Machine
end

section
/-! What CLOSE accepts of each table (R51, R72, R73, R96, R113, R121, R132, R152): the checks pass exactly when the table's chapter holds
of it. -/

namespace Sys2Proof.Machine

/-! ### Runs of checks -/

/-- Every check of a run passes. -/
def Pass (cs : List Check) : Prop := ∀ c ∈ cs, c.2 = true

theorem pass_nil : Pass [] ↔ True := by simp [Pass]

theorem pass_cons (c : Check) (cs : List Check) : Pass (c :: cs) ↔ c.2 = true ∧ Pass cs := List.forall_mem_cons

theorem pass_append (cs ds : List Check) : Pass (cs ++ ds) ↔ Pass cs ∧ Pass ds := List.forall_mem_append

theorem pass_map_range (n : Nat) (f : Nat → Check) : Pass ((List.range n).map f) ↔ ∀ k < n, (f k).2 = true := by
  simp [Pass]

theorem pass_flatMap_range (n : Nat) (f : Nat → List Check) : Pass ((List.range n).flatMap f) ↔ ∀ k < n, Pass (f k) := by
  simp only [Pass, List.mem_flatMap, List.mem_range]
  exact ⟨fun h k lt c mem => h c ⟨k, lt, mem⟩, fun h c ⟨k, lt, mem⟩ => h k lt c mem⟩

theorem inRange_pass (t : Table) (i lo hi : Nat) : (inRange t i lo hi).2 = true ↔ lo ≤ t.num i ∧ t.num i ≤ hi := by
  simp [inRange]

/-! ### T7, T6 and the curves -/

theorem checkT7_pass (t : Table) : Pass (checkT7 t) ↔ ValidT7 t := by
  simp only [checkT7, ValidT7, pass_cons, pass_flatMap_range, pass_nil, inRange_pass, Nat.zero_le, true_and, and_true]

theorem checkT6_pass (t : Table) : Pass (checkT6 t) ↔ ValidT6 t := by
  simp only [checkT6, ValidT6, pass_cons, pass_flatMap_range, pass_nil, inRange_pass, Nat.zero_le, true_and, and_true,
    Bool.and_eq_true, Bool.or_eq_true, decide_eq_true_eq, bne_iff_ne, beq_iff_eq, Nat.add_zero, and_assoc]

theorem curveX_eq (t : Table) (k : Nat) : curveX t k = ((if k = 0 then 0 else t.num (2 * k - 1) : Nat) : Int) := by
  unfold curveX
  split <;> rfl

theorem curveY_eq (t : Table) (k : Nat) : curveY t k = ((if k = 0 then 0 else t.num (2 * k) : Nat) : Int) := by
  unfold curveY
  split <;> rfl

theorem checkCurve_pass (t : Table) : Pass (checkCurve t) ↔ ValidCurve t := by
  have next (k : Nat) : 2 * (k + 1) - 1 = 2 * k + 1 := rfl
  simp only [checkCurve, ValidCurve, pass_cons, pass_flatMap_range, pass_nil, inRange_pass, and_true, Bool.and_eq_true,
    decide_eq_true_eq, and_assoc, curveX_eq, curveY_eq, Nat.cast_lt, Nat.cast_le, Nat.add_eq_zero_iff, one_ne_zero, and_false,
    if_false, next]
  exact and_congr_right fun _ => and_congr_right fun _ => forall₂_congr fun k _ => by
    rw [Nat.mul_add]
    exact and_congr_right fun _ => and_left_comm

/-! ### T1 and T10 -/

theorem pass_mapIdx (t : Table) (b : Nat) (tops : List Nat) :
    Pass (tops.mapIdx fun f top => inRange t (b + f) 0 top) ↔ ∀ f (h : f < tops.length), t.num (b + f) ≤ tops[f] := by
  rw [Pass, List.forall_mem_iff_forall_getElem]
  simp [inRange_pass]

theorem checkT1_pass (t : Table) : Pass (checkT1 t) ↔ ValidT1 t := by
  simp only [checkT1, ValidT1, pass_cons, pass_flatMap_range, inRange_pass, pass_mapIdx, and_assoc]
  refine and_congr_right fun _ => and_congr_right fun _ => forall₂_congr fun r _ => forall₂_congr fun f lt => ?_
  have within : f < 13 := lt
  interval_cases f <;> rfl

theorem severity_code_ofCode (n : Nat) : (Severity.ofCode n).code = min 4 n := by
  match n with
  | 0 | 1 | 2 | 3 => rfl
  | n + 4 => simp [Severity.ofCode, Severity.code]

theorem severity_code_le (s : Severity) : s.code ≤ 4 := by cases s <;> decide

theorem checkT10_pass (t : Table) : Pass (checkT10 t) ↔ ValidT10 t := by
  simp only [checkT10, ValidT10, pass_map_range]
  refine forall₂_congr fun n _ => ?_
  have floor := severity_code_le (condSpec n).floor
  have severity : (condSpec n).floor.code ≤ (wordSeverity (t.words.getD n 0)).code ↔ (condSpec n).floor.code ≤ t.num n % 8 := by
    rw [wordSeverity, severity_code_ofCode]
    exact ⟨fun h => h.trans (min_le_right _ _), fun h => le_min floor h⟩
  have hard : floorHard n = true ↔ 3 ≤ (condSpec n).floor.code := decide_eq_true_iff
  simp only [t10Passes, Bool.and_eq_true, decide_eq_true_eq, severity, Bool.not_eq_true', Bool.and_eq_false_iff, ← hard, wordMask]
  cases floorHard n <;> simp

/-! ### T0 -/

theorem checkBreaks_pass (t : Table) (base : Nat) : Pass (checkBreaks t base) ↔ ValidBreaks t base := by
  simp only [checkBreaks, ValidBreaks, pass_cons, pass_map_range, inRange_pass, Bool.and_eq_true, Bool.or_eq_true,
    decide_eq_true_eq, beq_iff_eq, and_assoc, or_iff_not_imp_left, ne_eq]

theorem checkCells_pass (t t1 : Table) : Pass (checkCells t t1)
    ↔ ∀ c < 256, c / 16 ≤ t.num 0 ∧ c % 16 ≤ t.num 16 → t.num (32 + c) < t1.num 0 := by
  simp only [Pass, checkCells, List.mem_filterMap, List.mem_range]
  constructor
  · intro h c lt used
    exact decide_eq_true_iff.1 (h _ ⟨c, lt, if_pos used⟩)
  · rintro h x ⟨c, lt, e⟩
    split at e
    · rename_i used
      obtain rfl := Option.some.inj e
      exact decide_eq_true_iff.2 (h c lt used)
    · exact absurd e (by simp)

/-- The used cells by their two bands: cell 16 × hoist + drag (R70, R73). -/
theorem cells_iff {h d : Nat} (hoist : h ≤ 15) (drag : d ≤ 15) (p : Nat → Prop) :
    (∀ c < 256, c / 16 ≤ h ∧ c % 16 ≤ d → p (32 + c)) ↔ ∀ hb ≤ h, ∀ db ≤ d, p (32 + 16 * hb + db) := by
  constructor
  · intro all hb hle db dle
    rw [Nat.add_assoc]
    exact all (16 * hb + db) (by omega) (by omega)
  · intro all c _ used
    have := all (c / 16) used.1 (c % 16) used.2
    rwa [Nat.add_assoc, Nat.div_add_mod] at this

theorem checkT0_pass (t t1 : Table) : Pass (checkT0 t t1) ↔ ValidT0 t t1 := by
  have live : t1.isLive = true ↔ t1.state = .live := beq_iff_eq
  simp only [checkT0, ValidT0, List.cons_append, pass_cons, pass_append, pass_nil, checkBreaks_pass, checkCells_pass, live,
    decide_eq_true_eq, and_true, and_assoc]
  refine and_congr_right fun _ => and_congr_right fun hoist => and_congr_right fun drag => ?_
  rw [cells_iff hoist.2.1 drag.2.1 (fun i => t.num i < t1.num 0), and_comm]

/-! ### T8 -/

/-- A list without repetition has one element exactly when one of its elements is all of them. -/
theorem singleton_iff_of_nodup {l : List Nat} (h : l.Nodup) : (∃ a, l = [a]) ↔ ∃ a ∈ l, ∀ b ∈ l, b = a := by
  match l with
  | [] => simp
  | [a] => simp
  | a :: b :: l =>
    have distinct : a ≠ b := fun e => by simp [e] at h
    refine ⟨fun ⟨x, e⟩ => absurd e (by simp), fun ⟨x, _, all⟩ => ?_⟩
    exact absurd ((all a (by simp)).trans (all b (by simp)).symm) distinct

/-- The park test passes with one park sector and no more (R132). -/
theorem parkFailure_none (t : Table) : parkFailure t = none
    ↔ ∃ k < t.num 0, t.num (4 + 4 * k) = 1 ∧ ∀ j < t.num 0, t.num (4 + 4 * j) = 1 → j = k := by
  have words : (parkWords t).filter (fun i => t.num i == 1)
      = ((List.range (t.num 0)).filter (fun k => t.num (4 + 4 * k) == 1)).map (fun k => 4 + 4 * k) := List.filter_map
  have single := singleton_iff_of_nodup (List.nodup_range.filter (fun k => t.num (4 + 4 * k) == 1) (l := List.range (t.num 0)))
  simp only [List.mem_filter, List.mem_range, beq_iff_eq, and_imp, and_assoc] at single
  rw [← single, parkFailure, words]
  match (List.range (t.num 0)).filter (fun k => t.num (4 + 4 * k) == 1) with
  | [] => simp
  | [a] => simp
  | a :: b :: l => simp

/-- The sectors' starts rise from 0 (R132). -/
theorem sectorStarts_iff {n : Nat} (h : 2 ≤ n) (f : Nat → Nat) :
    (∀ k < n, (if k = 0 then f 0 = 0 else f (k - 1) < f k ∧ f k ≤ 359))
      ↔ f 0 = 0 ∧ ∀ k, k + 1 < n → f k < f (k + 1) ∧ f (k + 1) ≤ 359 := by
  constructor
  · intro all
    exact ⟨all 0 (by omega), fun k lt => all (k + 1) lt⟩
  · rintro ⟨zero, rise⟩ (_ | k) lt
    · exact zero
    · exact rise k lt

/-- The words of one sector pass (R132). -/
def SectorPass (t : Table) (k : Nat) : Prop :=
  (if k = 0 then t.num (1 + 4 * 0) = 0 else t.num (1 + 4 * (k - 1)) < t.num (1 + 4 * k) ∧ t.num (1 + 4 * k) ≤ 359)
    ∧ t.num (1 + 4 * k + 1) ≤ 1000 ∧ t.num (1 + 4 * k + 2) ≤ 2 ∧ t.num (1 + 4 * k + 3) ≤ 1

theorem checkT8_iff (t : Table) : Pass (checkT8 t)
    ↔ (2 ≤ t.num 0 ∧ t.num 0 ≤ 12) ∧ (∀ k < t.num 0, SectorPass t k) ∧ parkFailure t = none := by
  have start (k : Nat) : (if k = 0 then t.num (1 + 4 * k) == 0
        else decide (t.num (1 + 4 * k - 4) < t.num (1 + 4 * k)) && decide (t.num (1 + 4 * k) ≤ 359)) = true
      ↔ if k = 0 then t.num (1 + 4 * 0) = 0 else t.num (1 + 4 * (k - 1)) < t.num (1 + 4 * k) ∧ t.num (1 + 4 * k) ≤ 359 := by
    rcases k with _ | k
    · simp
    · simp [Nat.mul_add, ← Nat.add_assoc]
  rcases e : parkFailure t with _ | i <;>
    simp only [checkT8, e, SectorPass, pass_append, pass_cons, pass_flatMap_range, pass_nil, inRange_pass, start, Nat.zero_le,
      true_and, and_true, and_assoc, Bool.false_eq_true, and_false, reduceCtorEq]

theorem checkT8_pass (t : Table) : Pass (checkT8 t) ↔ ValidT8 t := by
  have word (k : Nat) : 1 + 4 * k + 3 = 4 + 4 * k := by omega
  simp only [checkT8_iff, parkFailure_none, SectorPass, forall₂_and, ValidT8, Nat.add_zero, and_assoc, word]
  refine and_congr_right fun two => and_congr_right fun _ => ?_
  rw [sectorStarts_iff two fun k => t.num (1 + 4 * k)]
  simp only [forall₂_and, and_assoc, Nat.mul_zero, Nat.add_zero]

/-! ### T9 -/

theorem pass_drives (f : Drive → List Check) : Pass (Drive.all.flatMap f) ↔ ∀ g, Pass (f g) := by
  simp only [Pass, List.mem_flatMap]
  exact ⟨fun h g c mem => h c ⟨g, Drive.mem_all g, mem⟩, fun h c ⟨g, _, mem⟩ => h g c mem⟩

/-- The three drive groups are the numbers below 3. -/
theorem forall_drive_code (p : Nat → Prop) : (∀ g : Drive, p g.code) ↔ ∀ n < 3, p n := by
  constructor
  · intro h n lt
    interval_cases n
    · exact h .hoist
    · exact h .drag
    · exact h .swing
  · exact fun h g => h g.code (drive_code_lt g)

theorem exists_drive_code (p : Nat → Prop) : (∃ g : Drive, p g.code) ↔ ∃ n < 3, p n := by
  simpa [not_imp_not] using not_congr (forall_drive_code fun n => ¬ p n)

/-- A used address word of T9 (R51). -/
def UsedT9 (t : Table) (i : Nat) : Prop := ∃ g < 3, ∃ k < t.num (6 * g), i = 6 * g + 1 + k

theorem mem_addressWords (t : Table) (i : Nat) : i ∈ addressWords t ↔ UsedT9 t i := by
  simp only [addressWords, List.mem_flatMap, List.mem_map, List.mem_range, Drive.mem_all, true_and, t9Count, UsedT9,
    eq_comm (a := i)]
  exact exists_drive_code fun n => ∃ k < t.num (6 * n), 6 * n + 1 + k = i

theorem addressPasses_iff (t : Table) (own i : Nat) : addressPasses t own i = true
    ↔ (t.num i ≤ 31 ∧ t.num i ≠ own) ∧ ∀ j, UsedT9 t j → j < i → t.num j ≠ t.num i := by
  simp [addressPasses, mem_addressWords]

/-- No address stands twice exactly when none stands before its word. -/
theorem distinct_iff (t : Table) : (∀ i, UsedT9 t i → ∀ j, UsedT9 t j → j < i → t.num j ≠ t.num i)
    ↔ ∀ i j, UsedT9 t i → UsedT9 t j → i ≠ j → t.num i ≠ t.num j := by
  constructor
  · intro h i j ui uj other
    rcases Nat.lt_or_gt_of_ne other with lt | lt
    · exact h j uj i ui lt
    · exact (h i ui j uj lt).symm
  · exact fun h i ui j uj lt => h j i uj ui (Nat.ne_of_lt lt)

theorem checkT9_iff (t : Table) (own : Nat) : Pass (checkT9 t own)
    ↔ ∀ g < 3, (1 ≤ t.num (6 * g) ∧ t.num (6 * g) ≤ 4)
        ∧ (∀ k < t.num (6 * g), addressPasses t own (6 * g + 1 + k) = true) ∧ t.num (6 * g + 5) ≤ 2 := by
  simp only [checkT9, pass_drives, List.cons_append, pass_append, pass_cons, pass_map_range, pass_nil, inRange_pass, t9Count,
    Nat.zero_le, true_and, and_true]
  exact forall_drive_code fun g => (1 ≤ t.num (6 * g) ∧ t.num (6 * g) ≤ 4)
        ∧ (∀ k < t.num (6 * g), addressPasses t own (6 * g + 1 + k) = true) ∧ t.num (6 * g + 5) ≤ 2

theorem forall_used_iff (t : Table) (p : Nat → Prop) :
    (∀ g < 3, ∀ k < t.num (6 * g), p (6 * g + 1 + k)) ↔ ∀ i, UsedT9 t i → p i :=
  ⟨fun h _ ⟨g, three, k, lt, e⟩ => e ▸ h g three k lt, fun h g three k lt => h _ ⟨g, three, k, lt, rfl⟩⟩

theorem checkT9_pass (t : Table) (own : Nat) : Pass (checkT9 t own) ↔ ValidT9 t own := by
  have valid : ValidT9 t own ↔ (∀ g < 3, 1 ≤ t.num (6 * g) ∧ t.num (6 * g) ≤ 4 ∧ t.num (6 * g + 5) ≤ 2)
      ∧ (∀ i, UsedT9 t i → t.num i ≤ 31 ∧ t.num i ≠ own) ∧ ∀ i j, UsedT9 t i → UsedT9 t j → i ≠ j → t.num i ≠ t.num j := .rfl
  rw [valid, checkT9_iff, ← distinct_iff, ← forall₂_and, ← forall₂_congr fun i _ => addressPasses_iff t own i,
    ← forall_used_iff]
  constructor
  · exact fun h => ⟨fun g three => ⟨(h g three).1.1, (h g three).1.2, (h g three).2.2⟩, fun g three => (h g three).2.1⟩
  · rintro ⟨counts, used⟩ g three
    obtain ⟨low, high, forms⟩ := counts g three
    exact ⟨⟨low, high⟩, used g three, forms⟩

/-- The words that pass are those each table's chapter accepts. -/
theorem checks_pass (i : TableId) (s : State) : Pass (checks i s) ↔ ValidTable i s := by
  cases i
  case t0 => exact checkT0_pass _ _
  case t1 => exact checkT1_pass _
  case t2 | t3 | t4 | t5 => exact checkCurve_pass _
  case t6 => exact checkT6_pass _
  case t7 => exact checkT7_pass _
  case t8 => exact checkT8_pass _
  case t9 => exact checkT9_pass _ _
  case t10 => exact checkT10_pass _

end Sys2Proof.Machine
end

section
/-! CLOSE (R189): the first failing word, what a table that becomes LIVE leaves in place, and O31. -/

namespace Sys2Proof.Machine

/-! ### The first failing word -/

theorem firstFailing_pass {cs : List Check} (h : Pass cs) : firstFailing cs = none := by
  simpa [firstFailing, Pass] using h

theorem firstFailing_append {pre : List Check} (h : Pass pre) (k : Nat) (post : List Check) :
    firstFailing (pre ++ (k, false) :: post) = some k := by
  have none : pre.find? (fun c => !c.2) = none := by simpa [Pass] using h
  simp [firstFailing, List.find?_append, none]

/-! ### A table that becomes LIVE -/

/-- A table that becomes LIVE brings its block's reaction and nothing more (R52, R76, R114, R121, R133, R153). -/
theorem handsOff_enteredLive (i : TableId) (old : Table) (s : State) : HandsOff s (enteredLive i old s) := by
  cases i
  case t0 => exact handsOff_withEnv s _
  case t6 => exact (handsOff_withSwu s _ (by rfl)).trans (handsOff_report _ _)
  case t7 => exact handsOff_withSwu s _ rfl
  case t8 =>
    simp only [enteredLive, camTableChanged]
    split
    · exact (handsOff_withWsq s _ rfl).trans (handsOff_withWsq _ _ rfl)
    · exact handsOff_withWsq s _ rfl
  case t9 =>
    simp only [enteredLive, copyT9]
    exact (handsOff_withDgu s _).trans (handsOff_handDrives [] _)
  case t10 =>
    have listing := listingOnly_retable old s.tables.t10 s.lpu.lastCycle s.alu
    have retabled : HandsOff s (s.withAlu (s.alu.retable old s.tables.t10 s.lpu.lastCycle)) :=
      ⟨rfl, rfl, rfl, rfl, rfl, rfl, rfl, rfl, rfl, .inl rfl, rfl, rfl, listing.length, fitting_retable _ _ _, listing.lastAck,
        fun _ => .refl _⟩
    exact retabled.trans (handsOff_report [] _)
  case t1 | t2 | t3 | t4 | t5 => exact .refl s

/-! ### The request -/

theorem tableOfCode_natWord (i : TableId) : TableId.ofCode (natWord i.code).toNat = some i := by cases i <;> rfl

section
variable {i : TableId} {s : State} (mode : s.mgu.mode ≠ .run)
include mode

/-- A table in EDIT whose words all pass becomes LIVE (R189). -/
theorem serveClose_live (edit : (s.table i).state = .edit) (pass : Pass (checks i s)) : serveClose (natWord i.code) s
    = ⟨enteredLive i (s.table i) (s.setTable i { s.table i with state := .live }), .ok, []⟩ := by
  simp [serveClose, tableOfCode_natWord, tableRefused, mode, edit, firstFailing_pass pass]

/-- A table in EDIT with a failing word stays, and the word's index is answered (R189). -/
theorem serveClose_invalid (edit : (s.table i).state = .edit) {k : Nat} (failing : firstFailing (checks i s) = some k) :
    serveClose (natWord i.code) s = ⟨s, .invalid, [natWord k]⟩ := by
  simp [serveClose, tableOfCode_natWord, tableRefused, mode, edit, failing]

theorem serveClose_notOpen (other : (s.table i).state ≠ .edit) : serveClose (natWord i.code) s = refuse s .notOpen := by
  simp [serveClose, tableOfCode_natWord, tableRefused, mode, other]

end

theorem checkT0_head {s : State} (h : (s.table .t1).state ≠ .live) : (checks .t0 s).head? = some (0, false) := by
  have dead : s.tables.t1.isLive = false := beq_eq_false_iff_ne.2 h
  simp [checks, checkT0, dead]

/-- Settles O31: CLOSE by the first failing word (`firstFailing_pass`, `firstFailing_append`), and `checks_pass` for what passes. -/
theorem closeRequests : Obligations.CloseRequests := by
  refine ⟨fun r i s h mode => ⟨fun edit pass => ?_, fun pre k post edit words pass => ?_, fun other => ?_⟩,
    fun s dead => checkT0_head dead, checks_pass⟩
  · have closed := serveClose_live (i := i) (s := goodFrameSeen s) mode edit pass
    have hands := handsOff_enteredLive i (s.table i) ((goodFrameSeen s).setTable i { s.table i with state := .live })
    have tables (j : TableId) := congrArg (Tables.get · j) hands.tables
    obtain ⟨t, e, rest, answer⟩ := serve_answered (r := r) (code := 5) h closed hands.lpu (Nat.zero_le _)
    refine ⟨t, e, ?_, fun j other => ?_, ?_, ?_, answer⟩ <;> rw [rest]
    · exact (tables i).trans (State.setTable_same (goodFrameSeen s) i _)
    · exact (tables j).trans (State.setTable_other (goodFrameSeen s) _ other)
    · exact hands.items
    · exact hands.tru
  · have failing : firstFailing (checks i (goodFrameSeen s)) = some k := by
      rw [checks_goodFrameSeen, words, firstFailing_append pass]
    have closed := serveClose_invalid (i := i) (s := goodFrameSeen s) mode edit failing
    obtain ⟨t, e, rest, answer⟩ := serve_answered (r := r) (code := 5) h closed rfl (by simp)
    have ⟨_, _, port, _⟩ := answer
    exact ⟨t, e, ⟨⟨t.lpu, rest⟩, port⟩, answer⟩
  · exact serve_nothingElse (x := .notOpen) h (serveClose_notOpen (s := goodFrameSeen s) mode other)

end Sys2Proof.Machine
end

section
/-! SUPPORT. A standing condition of severity STOP or more leaves no group it affects ACTIVE once a report has been acted on (R162). -/

namespace Sys2Proof.Machine

/-! ### The highest severity -/

theorem stops_iff (o : Option Severity) : stops o = true ↔ ∃ u, o = some u ∧ 3 ≤ u.code := by
  match o with
  | none => simp [stops]
  | some .note | some .warn | some .limit | some .stop | some .trip => simp [stops, Severity.code]

/-- Of a severity so far and another, the higher stops a group if either does. -/
theorem stops_higher (o : Option Severity) (v : Severity) (h : stops o = true ∨ 3 ≤ v.code) : stops (higher o v) = true := by
  rw [stops_iff] at *
  match o with
  | none => exact ⟨v, rfl, h.elim (fun ⟨_, e, _⟩ => nomatch e) id⟩
  | some u =>
    have either : 3 ≤ u.code ∨ 3 ≤ v.code := h.imp_left fun ⟨w, e, le⟩ => Option.some.inj e ▸ le
    simp only [higher]
    split
    · exact ⟨v, rfl, by omega⟩
    · exact ⟨u, rfl, by omega⟩

theorem stops_foldl (sev : Nat → Severity) (ns : List Nat) (o : Option Severity)
    (h : stops o = true ∨ ∃ n ∈ ns, 3 ≤ (sev n).code) : stops (ns.foldl (fun o n => higher o (sev n)) o) = true := by
  induction ns generalizing o with
  | nil => simpa using h
  | cons n ns ih =>
    refine ih _ ?_
    rcases h with h | ⟨m, mem, le⟩
    · exact .inl (stops_higher o _ (.inl h))
    · rcases List.mem_cons.1 mem with rfl | mem
      · exact .inl (stops_higher o _ (.inr le))
      · exact .inr ⟨m, mem, le⟩

/-! ### Conditions whose floor is STOP -/

/-- A level condition that stops the group `g` whatever T10 says: its default and its floor are STOP or TRIP (R151, R166). -/
def AlwaysStops (n : Nat) (g : Axis) : Prop :=
  n < 60 ∧ (condSpec n).event = false ∧ 3 ≤ (condSpec n).default.code ∧ 3 ≤ (condSpec n).floor.code ∧ g ∈ (condSpec n).affects

theorem effSeverity_stop {n : Nat} (t10 : Table) (default : 3 ≤ (condSpec n).default.code)
    (floor : 3 ≤ (condSpec n).floor.code) : 3 ≤ (effSeverity t10 n).code := by
  unfold effSeverity
  split
  · rw [severity_code_ofCode]; omega
  · exact default

/-- A condition that always stops the group is never masked (R151). -/
theorem effMask_hard {n : Nat} (t10 : Table) (floor : 3 ≤ (condSpec n).floor.code) : effMask t10 n = false := by
  have hard : floorHard n = true := decide_eq_true floor
  unfold effMask
  split
  · simp [hard]
  · rfl

theorem groupSeverity_stops {n : Nat} {g : Axis} (h : AlwaysStops n g) {a : Alu} (raised : a.raised n = true) (t10 : Table) :
    stops (a.groupSeverity t10 g) = true := by
  obtain ⟨number, kind, default, floor, affected⟩ := h
  refine stops_foldl _ _ _ (.inr ⟨n, ?_, effSeverity_stop t10 default floor⟩)
  have standing : a.standing t10 n = true := by
    rw [Alu.raised] at raised
    simp [Alu.standing, kind, raised, effMask_hard t10 floor]
  simp [standing, affected, Config.conditionCount, number]

/-! ### After a report -/

/-- After a report the severities handed to the shapers are those of the conditions (R162). -/
theorem report_severity (rs : List Report) (s : State) :
    (report rs s).alu.severity = (report rs s).alu.groupSeverities s.tables.t10 := by
  have taken (rs : List Report) (s : State) : (aluTake rs s).alu.severity = (aluTake rs s).alu.groupSeverities s.tables.t10 := by
    rw [aluTake, aluAct_alu]
    rfl
  simp only [report]
  split
  · rw [reactToGroups_alu]
    exact taken rs s
  · have tables : (reactToGroups (aluTake rs s)).1.tables = s.tables :=
      ((reacts_aluTake rs s).trans (reacts_reactToGroups _)).tables
    exact (taken _ _).trans (by rw [tables])

theorem groupSeverities_get (a : Alu) (t10 : Table) (g : Axis) : (a.groupSeverities t10).get g = a.groupSeverity t10 g := by
  cases g <;> rfl

/-- A standing condition that always stops a group leaves it not ACTIVE once a report has been acted on (R162). -/
theorem report_inactive {rs : List Report} {s : State} {n : Nat} {g : Axis} (h : AlwaysStops n g)
    (raised : (report rs s).alu.raised n = true) : ((report rs s).group g).state ≠ .active := by
  refine report_stops rs s g ?_
  rw [report_severity, groupSeverities_get]
  exact groupSeverity_stops h raised _

theorem discreteStale_alwaysStops (g : Axis) : AlwaysStops cDiscreteStale g :=
  ⟨by decide, by decide, by decide, by decide, Axis.mem_all g⟩

end Sys2Proof.Machine
end

section
/-! A marker's work on the member records and the input image (R56, R67): what every other block's marker work leaves of them, and
O44. -/

namespace Sys2Proof.Machine

/-! ### What the marker work of the other blocks leaves -/

/-- The configuration, the DGU, the marker's number and DISCRETE_STALE stand, and no group becomes ACTIVE. -/
structure DguStands (s t : State) : Prop where
  items : t.items = s.items
  tables : t.tables = s.tables
  dgu : t.dgu = s.dgu
  lastCycle : t.lpu.lastCycle = s.lpu.lastCycle
  length : t.alu.conds.length = s.alu.conds.length
  cond : CondKept cDiscreteStale s t
  active : ∀ g, (t.group g).state = .active → (s.group g).state = .active

theorem DguStands.refl (s : State) : DguStands s s := ⟨rfl, rfl, rfl, rfl, rfl, ⟨rfl, rfl⟩, fun _ => id⟩

theorem DguStands.trans {s t u : State} (h : DguStands s t) (k : DguStands t u) : DguStands s u :=
  ⟨k.items.trans h.items, k.tables.trans h.tables, k.dgu.trans h.dgu, k.lastCycle.trans h.lastCycle, k.length.trans h.length,
    h.cond.trans k.cond, fun g x => h.active g (k.active g x)⟩

/-- What hands off without the DGU and without DISCRETE_STALE leaves the rest of it too. -/
theorem HandsOff.dguStands {s t : State} (h : HandsOff s t) (dgu : t.dgu = s.dgu) (cond : CondKept cDiscreteStale s t) :
    DguStands s t :=
  ⟨h.items, h.tables, dgu, by rw [h.lpu], h.length, cond, fun g => (h.group g).active⟩

theorem Reacts.dguStands {s t : State} (h : Reacts s t) (alu : t.alu = s.alu) : DguStands s t :=
  (handsOff_of_reacts h alu).dguStands h.dgu (condKept_of_alu alu)

/-- A step that leaves the ALU, the groups, the DGU, the configuration and the number as they were. -/
theorem dguStands_of_eq {s t : State} (items : t.items = s.items) (tables : t.tables = s.tables) (dgu : t.dgu = s.dgu)
    (lastCycle : t.lpu.lastCycle = s.lpu.lastCycle) (alu : t.alu = s.alu) (groups : t.groups = s.groups) : DguStands s t :=
  ⟨items, tables, dgu, lastCycle, by rw [alu], condKept_of_alu alu, fun g => by simp only [State.group, groups]; exact id⟩

section
variable {s u : State}

theorem dguStands_report (rs : List Report) (other : ∀ r ∈ rs, r.number ≠ cDiscreteStale) (k : DguStands s u) :
    DguStands s (report rs u) :=
  k.trans ((handsOff_report rs u).dguStands (report_dgu rs u) (condKept_report rs (by decide) other (condKept_of_alu rfl)))

/-- Beside its number a marker's arrival lowers LOOP_SILENT alone (R171, R175). -/
theorem dguStands_takeNumber (n : Word) (s : State) :
    DguStands (s.withLpu { s.lpu with lastCycle := n.toNat }) (takeNumber n s) := by
  simp only [takeNumber]
  split
  · exact dguStands_report _ (by simp [Report.number, cLoopSilent, cDiscreteStale]) (.refl _)
  · exact .refl _

theorem dguStands_handOff (a : Axis) (recovered : Bool) (k : DguStands s u) : DguStands s (handOff a recovered u) :=
  k.trans ((handsOff_handOff a recovered u).dguStands (handOff_dgu a recovered u)
    (condKept_handOff a recovered (by decide) (condKept_of_alu rfl)))

theorem dguStands_channelMarker (a : Axis) (k : DguStands s u) : DguStands s (channelMarker u a) := by
  have set (c : Channel) : DguStands s (u.setChan a c) := k.trans (dguStands_of_eq rfl rfl rfl rfl rfl rfl)
  have reported := dguStands_report (markChannel (u.chanCtx a) (u.chan a)).reports (fun r mem e => by
    rcases markChannel_numbers _ _ r mem with x | x
    · exact ne_cTrackFault (n := cDiscreteStale) _ (.inl (by decide)) (e.symm.trans x)
    · exact absurd (e.symm.trans x) (by decide)) (set (markChannel (u.chanCtx a) (u.chan a)).chan)
  simp only [channelMarker]
  split
  · split
    · exact reported
    · exact dguStands_handOff a false reported
  · exact set _

theorem dguStands_channelMarkers (as : List Axis) (k : DguStands s u) : DguStands s (as.foldl channelMarker u) := by
  induction as generalizing u with
  | nil => exact k
  | cons a as ih => exact ih (dguStands_channelMarker a k)

/-- A group's record may change as long as the group does not become ACTIVE. -/
theorem dguStands_setGroup (g : Axis) (r : Group) (h : r.state = .active → (u.group g).state = .active) (k : DguStands s u) :
    DguStands s (u.setGroup g r) := by
  refine k.trans ⟨rfl, rfl, rfl, rfl, rfl, ⟨rfl, rfl⟩, fun x => ?_⟩
  by_cases e : x = g
  · subst e; rwa [State.setGroup_same]
  · rw [State.setGroup_other u r e]; exact id

theorem dguStands_lossMarker (g : Axis) (k : DguStands s u) : DguStands s (lossMarker g u) := by
  let v := u.setGroup g { u.group g with loss := lossNext (u.group g), note := false }
  have counted : DguStands s v := dguStands_setGroup g _ id k
  have lost : DguStands s (setLastLever g none v) :=
    (dguStands_setGroup g { v.group g with lastLever := none } id counted).trans (dguStands_of_eq rfl rfl rfl rfl rfl rfl)
  have stopped : DguStands s ((setLastLever g none v).stopGroup g) :=
    lost.trans ((reacts_stopGroup _ g).dguStands rfl)
  simp only [lossMarker]
  split
  · exact dguStands_report _ (by cases g <;> decide) stopped
  · exact counted

theorem dguStands_lossMarkers (gs : List Axis) (k : DguStands s u) :
    DguStands s (gs.foldl (fun s g => lossMarker g s) u) := by
  induction gs generalizing u with
  | nil => exact k
  | cons g gs ih => exact ih (dguStands_lossMarker g k)

theorem dguStands_withSwu (x : Swu) (k : DguStands s u) : DguStands s (u.withSwu x) :=
  k.trans (dguStands_of_eq rfl rfl rfl rfl rfl rfl)

theorem dguStands_seqMarker (k : DguStands s u) : DguStands s (seqMarker u) := by
  have moved := (k.trans ((reacts_transferMarker u).dguStands (transferMarker_alu u))).trans
    ((reacts_shoeMarker _).dguStands (shoeMarker_alu _))
  refine dguStands_report _ (fun r mem e => ?_) moved
  rcases List.mem_append.1 mem with m | m
  · exact absurd (e.symm.trans (transferMarker_numbers _ r m)) (by decide)
  · rcases shoeMarker_numbers _ r m with x | x <;> exact absurd (e.symm.trans x) (by decide)

theorem dguStands_withLpu (x : Lpu) (last : x.lastCycle = u.lpu.lastCycle) (k : DguStands s u) : DguStands s (u.withLpu x) :=
  k.trans (dguStands_of_eq rfl rfl rfl last rfl rfl)

theorem dguStands_offerForwarded (bs : Bytes) (k : DguStands s u) : DguStands s (offerForwarded bs u) := by
  rcases offerForwarded_spec bs u with ⟨-, e⟩ | ⟨-, e⟩ <;> rw [e] <;> exact dguStands_withLpu _ rfl k

theorem dguStands_offerState (k : DguStands s u) : DguStands s (offerState u) := by
  have offered : DguStands s (offerInserted (stateFrame u) u) := by
    rcases offerInserted_spec (stateFrame u) u with ⟨-, e⟩ | ⟨-, e⟩ <;> rw [e] <;> exact dguStands_withLpu _ rfl k
  simp only [offerState]
  split
  · exact dguStands_withSwu _ offered
  · exact offered

end

/-- The whole marker is the DGU's marker work between work that leaves the DGU (R171). -/
theorem takeCycle_dguStands (l : Link) (n : Word) (s : State) :
    ∃ u, DguStands (s.withLpu { s.lpu with lastCycle := n.toNat }) u ∧ DguStands (driveMarker u) (takeCycle l n s) := by
  refine ⟨Axis.all.foldl channelMarker (takeNumber n s), dguStands_channelMarkers _ (dguStands_takeNumber n s), ?_⟩
  exact dguStands_offerState (dguStands_offerForwarded _ (dguStands_seqMarker
    (dguStands_withSwu _ (dguStands_lossMarkers Axis.all (.refl _)))))

/-! ### The DGU's marker work (R56, R65, R67) -/

/-- A member's silence reaches the limit: it becomes ABSENT, its address kept (R56). -/
theorem mark_absent {limit : Nat} {m : Member} (present : m.presence ≠ .absent) (note : m.note = false) (lt : m.silence < 15)
    (due : limit ≤ m.silence + 1) :
    absentDue limit m = true ∧ m.mark limit = { Member.begin m.address with silence := m.silence + 1 } := by
  have silence : satInc 15 m.silence = m.silence + 1 := if_pos lt
  have reached : absentDue limit m = true := by simp [absentDue, present, note, silence, due]
  refine ⟨reached, ?_⟩
  simp [Member.mark, present, note, silence, reached, Member.goAbsent, Member.begin]

/-- The image's stale count reaches the limit: it becomes STALE, its inputs held (R67). -/
theorem mark_stale {limit : Nat} {i : Image} (fresh : i.state ≠ .stale) (note : i.note = false) (lt : i.stale < 15)
    (due : limit ≤ i.stale + 1) :
    imageDue limit i = true ∧ (i.mark limit).state = .stale ∧ (i.mark limit).inputs = i.inputs := by
  have stale : imageStaleNext i = i.stale + 1 := by simp [imageStaleNext, note, satInc, lt]
  have reached : imageDue limit i = true := by simp [imageDue, stale, due, fresh]
  simp [Image.mark, reached]

/-- The numbers of the DGU's conditions (R58, R61, R63). -/
theorem driveReports_map_number (d : Dgu) : (driveReports d).map Report.number = [27, 28, 29, 30, 31, 32, 33, 34, 35, 50] := by
  have unresolved (g : Drive) : (unresolvedReport d g).number = cUnresolved g := by unfold unresolvedReport; split <;> rfl
  have lost (g : Drive) : (memberLostReport d g).number = cMemberLost g := by unfold memberLostReport; split <;> rfl
  have conflict : (conflictReport d).number = cContactorConflict := by unfold conflictReport; split <;> rfl
  simp only [driveReports, Drive.all, List.map_cons, List.map_nil, List.map_append, unresolved, lost, conflict]
  rfl

/-- A hand-off of the DGU ends with its report (R65). -/
theorem handDrives_report (extra : List Report) (s : State) :
    ∃ v, HandsOff s v ∧ handDrives extra s = report (extra ++ driveReports s.dgu.recompute) v := by
  have handed := (handsOff_withDgu s s.dgu.recompute).trans
    (handsOff_withSwu _ { s.swu with heldTorque := s.dgu.recompute.values.hoist.torque } rfl)
  refine ⟨_, ?_, rfl⟩
  split
  · exact handed
  · exact handed.trans (handsOff_settleMove _ _ (reacts_reactToSummary _) (reactToSummary_alu _))

/-- The DGU with the records and the image marked, before its values are derived afresh (R56, R67). -/
def markedDgu (it : Items) (d : Dgu) : Dgu :=
  { d with
    members := d.members.map (List.map (Member.mark it.memberSilenceLimit))
    image := d.image.mark it.discreteStaleLimit }

theorem driveMarker_eq (s : State) : driveMarker s
    = handDrives [staleReport (markedDgu s.items s.dgu).image] (s.withDgu (markedDgu s.items s.dgu)) := rfl

theorem driveMarker_dgu (s : State) : (driveMarker s).dgu = (markedDgu s.items s.dgu).recompute := by
  rw [driveMarker_eq, handDrives_dgu]
  rfl

theorem markedDgu_members (it : Items) (d : Dgu) (g : Drive) :
    (markedDgu it d).members.get g = (d.members.get g).map (Member.mark it.memberSilenceLimit) := PerDrive.get_map _ _ g

/-- DISCRETE_STALE reported raised in front of the DGU's other conditions stands (R150). -/
theorem report_stale (d : Dgu) {v : State} (length : v.alu.conds.length = 60) :
    (report (.level cDiscreteStale true none :: driveReports d) v).alu.raised cDiscreteStale = true := by
  have once : ((Report.level cDiscreteStale true none :: driveReports d).map Report.number).Nodup := by
    rw [List.map_cons, driveReports_map_number]
    decide
  have within : cDiscreteStale < v.alu.conds.length := by
    rw [length]
    decide
  exact (report_level _ v cDiscreteStale true none (by decide) within List.mem_cons_self once).1

/-- A marker that makes the image STALE raises DISCRETE_STALE, and with it stops every group (R67, R162). -/
theorem driveMarker_stale {s : State} (length : s.alu.conds.length = 60)
    (stale : (s.dgu.image.mark s.items.discreteStaleLimit).state = .stale) :
    (driveMarker s).alu.raised cDiscreteStale = true ∧ ∀ g, ((driveMarker s).group g).state ≠ .active := by
  have level : staleReport (markedDgu s.items s.dgu).image = .level cDiscreteStale true none := by
    rw [staleReport, show (markedDgu s.items s.dgu).image.state = .stale from stale]
    rfl
  obtain ⟨v, hands, marked⟩ := handDrives_report [.level cDiscreteStale true none] (s.withDgu (markedDgu s.items s.dgu))
  rw [← level, ← driveMarker_eq, level, List.singleton_append] at marked
  have raised := report_stale (s.withDgu (markedDgu s.items s.dgu)).dgu.recompute (hands.length.trans length)
  rw [marked]
  exact ⟨raised, fun g => report_inactive (discreteStale_alwaysStops g) raised⟩

/-! ### O44 -/

/-- A marker row that is due is the whole marker (assumption 1). -/
theorem cycleEvent_in {due : Bool} {l : Link} {s : State} (h : s.lpu.bypass = .off) (f : fits l 2 = true) (n : Word)
    (comes : due = true) : cycleEvent due l n s = .next (takeCycle l n (goodFrameSeen s)) := by
  rw [comes, cycleEvent, if_pos rfl, arrival_in l 2 _ s h f]

/-- Settles O44: `takeCycle_dguStands` reduces the marker to the DGU's own work. -/
theorem silentNodes : Obligations.SilentNodes := by
  intro l n s h f ok
  obtain ⟨u, before, behind⟩ := takeCycle_dguStands l n (goodFrameSeen s)
  have dgu : u.dgu = s.dgu := before.dgu
  have items : u.items = s.items := before.items
  have hands : HandsOff u (driveMarker u) := handsOff_driveMarker u
  have last : (takeCycle l n (goodFrameSeen s)).lpu.lastCycle = n.toNat := by
    rw [behind.lastCycle, hands.lpu, before.lastCycle]
    rfl
  have config : SameConfig s (takeCycle l n (goodFrameSeen s)) :=
    ⟨behind.items.trans (hands.items.trans items), behind.tables.trans (hands.tables.trans before.tables)⟩
  refine ⟨fun d i m at_i present note lt due => ?_, fun fresh note lt due => ?_⟩
  · obtain ⟨reached, marked⟩ := mark_absent present note lt due
    have comes : memberDue d i s = true := by simp [memberDue, at_i, reached]
    refine ⟨_, cycleEvent_in h f n comes, ?_, last, config⟩
    rw [behind.dgu, driveMarker_dgu, recompute_members, markedDgu_members, dgu, items, List.getElem?_map, at_i]
    exact congrArg some marked
  · obtain ⟨comes, stale, inputs⟩ := mark_stale fresh note lt due
    rw [← items, ← dgu] at stale inputs
    obtain ⟨raised, inactive⟩ := driveMarker_stale (before.length.trans ok.1) stale
    refine ⟨_, cycleEvent_in h f n comes, ?_, ?_, ?_, behind.cond.raised.trans raised,
      fun g active => inactive g (behind.active g active), last, config⟩ <;> rw [behind.dgu, driveMarker_dgu]
    · exact stale
    · exact inputs.trans (by rw [dgu])
    · show u.dgu.brakes = s.dgu.brakes
      rw [dgu]

end Sys2Proof.Machine
end

section
/-! The envelope unit's bands, cell and profile (R70, R76, R77, R79, R80): what a payout makes of them, and O55. -/

namespace Sys2Proof.Machine

/-! ### The bands -/

section
variable (t0 : Table) (d : Drum) (h p : Int)

/-- No payout lies above more breakpoints than are used (R76). -/
theorem freshBand_le : freshBand t0 d p ≤ t0.num (breakBase d) := by
  have used : (breakpoints t0 d).length = t0.num (breakBase d) := by simp [breakpoints]
  exact used ▸ List.length_filter_le _ _

/-- A band goes up at once (R77). -/
theorem nextBand_up {held : Nat} (up : held ≤ freshBand t0 d p) : nextBand t0 d h p held = freshBand t0 d p := if_pos up

/-- A band goes down to the fresh one below the hysteresis, else to the one above it (R77). -/
theorem nextBand_down {held : Nat} (down : freshBand t0 d p < held) : nextBand t0 d h p held
    = if p < (breakpoints t0 d).getD (freshBand t0 d p) 0 - h then freshBand t0 d p else freshBand t0 d p + 1 :=
  if_neg (Nat.not_le.2 down)

theorem freshBand_le_nextBand (held : Nat) : freshBand t0 d p ≤ nextBand t0 d h p held := by
  rcases Nat.lt_or_ge (freshBand t0 d p) held with down | up
  · rw [nextBand_down t0 d h p down]
    split <;> omega
  · exact (nextBand_up t0 d h p up).ge

/-- A band within the used breakpoints stays within them. -/
theorem nextBand_le {held : Nat} (within : held ≤ t0.num (breakBase d)) : nextBand t0 d h p held ≤ t0.num (breakBase d) := by
  have fresh := freshBand_le t0 d p
  rcases Nat.lt_or_ge (freshBand t0 d p) held with down | up
  · rw [nextBand_down t0 d h p down]
    split <;> omega
  · rwa [nextBand_up t0 d h p up]

end

/-! ### The selection -/

section
variable (t0 : Table) {e : Env}

/-- The selection writes the cell and the profile alone. -/
theorem selectProfile_writes (e : Env) : ∃ cell how profile,
    selectProfile t0 e = { e with cellProfile := cell, selection := how, selected := profile } := by
  simp only [selectProfile]
  split
  · split <;> exact ⟨_, _, _, rfl⟩
  · exact ⟨_, _, _, rfl⟩

@[simp] theorem selectProfile_band : (selectProfile t0 e).band = e.band := by
  obtain ⟨_, _, _, written⟩ := selectProfile_writes t0 e
  rw [written]

@[simp] theorem selectProfile_lastPayout : (selectProfile t0 e).lastPayout = e.lastPayout := by
  obtain ⟨_, _, _, written⟩ := selectProfile_writes t0 e
  rw [written]

@[simp] theorem selectProfile_lastDoubt : (selectProfile t0 e).lastDoubt = e.lastDoubt := by
  obtain ⟨_, _, _, written⟩ := selectProfile_writes t0 e
  rw [written]

/-- With a band of each drum the cell is looked up whatever the doubt (R79). -/
theorem selectProfile_cell {hb db : Nat} (band : e.band = ⟨some hb, some db⟩) :
    (selectProfile t0 e).cellProfile = some (cellOf t0 hb db) := by
  simp only [selectProfile, band]
  split <;> rfl

/-- While either drum is in doubt the doubtful profile is selected (R80). -/
theorem selectProfile_doubtful {hb db : Nat} (band : e.band = ⟨some hb, some db⟩)
    (doubt : (e.lastDoubt.hoist || e.lastDoubt.drag) = true) :
    (selectProfile t0 e).selection = .doubtful ∧ (selectProfile t0 e).selected = some (t0.num 288) := by
  simp [selectProfile, band, doubt, doubtfulProfile]

/-- While neither drum is in doubt the cell's profile is selected (R79, R80). -/
theorem selectProfile_sure {hb db : Nat} (band : e.band = ⟨some hb, some db⟩)
    (sure : (e.lastDoubt.hoist || e.lastDoubt.drag) = false) :
    (selectProfile t0 e).selection = .cell ∧ (selectProfile t0 e).selected = (selectProfile t0 e).cellProfile := by
  simp [selectProfile, band, sure]

end

/-! ### A payout -/

/-- A payout and its drum's doubt flag recorded, and the drum's band moved (R77). -/
def payoutTaken (t0 : Table) (h : Int) (d : Drum) (p : Int) (doubt : Bool) (held : Nat) (e : Env) : Env :=
  { e with
    lastPayout := e.lastPayout.set d p
    lastDoubt := e.lastDoubt.set d doubt
    band := e.band.set d (some (nextBand t0 d h p held)) }

/-- While T0 is LIVE a payout of a drum that has a band moves it and selects the profile afresh (R77, R79, R80). -/
theorem takePayout_live {t0 : Table} (live : t0.state = .live) (h : Int) {d : Drum} (p : Int) (doubt : Bool) {e : Env}
    {held : Nat} (band : e.band.get d = some held) :
    takePayout t0 h d p doubt e = selectProfile t0 (payoutTaken t0 h d p doubt held e) := by
  simp [takePayout, Table.isLive, live, band, payoutTaken]

/-- While T0 is not LIVE a payout and its doubt flag are recorded alone (R84). -/
theorem takePayout_dead {t0 : Table} (dead : t0.state ≠ .live) (h : Int) (d : Drum) (p : Int) (doubt : Bool) (e : Env) :
    takePayout t0 h d p doubt e
      = { e with lastPayout := e.lastPayout.set d p, lastDoubt := e.lastDoubt.set d doubt } := by
  simp [takePayout, Table.isLive, dead]

/-! ### O55 -/

/-- Settles O55: a payout is `takePayout_live`, whose band is `nextBand` and whose profile is that of `selectProfile`. -/
theorem envelopeSelection : Obligations.EnvelopeSelection := by
  intro t0 h d p doubt e b c live held other
  obtain ⟨hb, db, bands⟩ : ∃ hb db, (payoutTaken t0 h d p doubt b e).band = ⟨some hb, some db⟩ := by
    cases d
    · exact ⟨_, c, congrArg (PerDrum.mk _) other⟩
    · exact ⟨c, _, congrArg (PerDrum.mk · _) other⟩
  rw [takePayout_live live h p doubt held]
  refine ⟨⟨nextBand t0 d h p b, ?_, nextBand_up t0 d h p, nextBand_down t0 d h p, freshBand_le_nextBand t0 d h p b⟩, ?_, ?_, ?_,
    fun either => ?_, fun hoist drag => ?_⟩
  · simp [payoutTaken]
  · rw [selectProfile_band, ← other]
    exact PerDrum.get_set_other _ _ (by cases d <;> decide)
  · simp [payoutTaken]
  · simp [payoutTaken]
  · rw [selectProfile_lastDoubt, ← Bool.or_eq_true] at either
    exact selectProfile_doubtful t0 bands either
  · rw [selectProfile_lastDoubt] at hoist drag
    obtain ⟨selection, selected⟩ := selectProfile_sure t0 bands (by rw [hoist, drag]; rfl)
    refine ⟨selection, selected, fun hb' db' hoistBand dragBand => ?_⟩
    rw [selectProfile_band, bands] at hoistBand dragBand
    cases hoistBand
    cases dragBand
    exact selectProfile_cell t0 bands

end Sys2Proof.Machine
end

section
/-! OPEN and ABANDON (R74, R187): a table that leaves LIVE, with T0 behind a T1 that is opened or abandoned, and O29. -/

namespace Sys2Proof.Machine

/-! ### A table that is not LIVE any more -/

section
variable (i : TableId) (s : State)

/-- A table that leaves LIVE brings its block's reaction and nothing more (R84, R114, R121, R133, R153), and T9 none (R52). -/
theorem handsOff_leftLive (old : Table) : HandsOff s (leftLive i old s) := by
  cases i
  case t0 => exact (handsOff_withEnv s _).trans (handsOff_withSwu _ _ rfl)
  case t9 => exact .refl s
  case t1 | t2 | t3 | t4 | t5 => exact .refl s
  case t6 => exact handsOff_enteredLive .t6 old s
  case t7 => exact handsOff_enteredLive .t7 old s
  case t8 => exact handsOff_enteredLive .t8 old s
  case t10 => exact handsOff_enteredLive .t10 old s

/-- A replaced table brings no more than the reaction of its block (R187). -/
theorem handsOff_dropTable (new : Table) : HandsOff (s.setTable i new) (dropTable i new s) := by
  simp only [dropTable]
  split
  · exact handsOff_leftLive i _ _
  · exact .refl _

theorem dropTable_table (new : Table) (j : TableId) : (dropTable i new s).table j = (s.setTable i new).table j :=
  congrArg (Tables.get · j) (handsOff_dropTable i s new).tables

/-- ABANDON of T9 empties the member set and brings the DGU's reaction (R52). -/
theorem handsOff_abandonMembers : HandsOff s (abandonMembers i s) := by
  cases i
  case t9 =>
    simp only [abandonMembers, emptyT9]
    exact (handsOff_withDgu s _).trans (handsOff_handDrives [] _)
  all_goals exact .refl s

/-- A LIVE T0 follows T1 to EDIT (R74). -/
theorem dropT0With_t1 (live : (s.table .t0).state = .live) :
    dropT0With .t1 s = dropTable .t0 { s.table .t0 with state := .edit } s :=
  if_pos ⟨rfl, beq_iff_eq.2 live⟩

/-- Neither a T0 that is not LIVE nor the opening of another table brings T0's drop. -/
theorem dropT0With_other {i : TableId} (h : i = .t1 → (s.table .t0).state ≠ .live) : dropT0With i s = s :=
  if_neg fun ⟨t1, live⟩ => h t1 (beq_iff_eq.1 live)

end

/-! ### What the requests leave -/

/-- OPEN or ABANDON has put the table `i` at `new`: a LIVE T0 has followed a T1 that was not in EDIT, the other tables stand, and
so do the port, the items and the channels (R74, R187). -/
structure TableDropped (i : TableId) (new : Table) (s t : State) : Prop where
  lpu : t.lpu = s.lpu
  items : t.items = s.items
  tru : t.tru = s.tru
  same : t.table i = new
  other : ∀ j, j ≠ i → (i = .t1 → j = .t0 → (s.table .t0).state ≠ .live) → t.table j = s.table j
  t0 : i = .t1 → (s.table .t1).state ≠ .edit → (s.table .t0).state = .live →
    t.table .t0 = { s.table .t0 with state := .edit }

/-- A table dropped while no LIVE T0 depends on it. -/
theorem tableDropped_dropTable {i : TableId} {s : State} (new : Table) (alone : i = .t1 → (s.table .t0).state ≠ .live) :
    TableDropped i new s (dropTable i new s) := by
  have hands := handsOff_dropTable i s new
  have table := dropTable_table i s new
  exact ⟨hands.lpu, hands.items, hands.tru, (table i).trans (State.setTable_same s i new),
    fun j n _ => (table j).trans (State.setTable_other s new n), fun t1 _ live => absurd live (alone t1)⟩

theorem tableDropped_behindT0 (i : TableId) (new : Table) (s : State) :
    TableDropped i new s (dropTable i new (dropT0With i s)) := by
  by_cases follows : i = .t1 ∧ (s.table .t0).state = .live
  · obtain ⟨rfl, live⟩ := follows
    have first : TableDropped .t0 { s.table .t0 with state := .edit } s (dropT0With .t1 s) :=
      dropT0With_t1 s live ▸ tableDropped_dropTable _ nofun
    have dead : ((dropT0With .t1 s).table .t0).state ≠ .live := by rw [first.same]; nofun
    have second := tableDropped_dropTable (i := .t1) new fun _ => dead
    exact
      { lpu := second.lpu.trans first.lpu
        items := second.items.trans first.items
        tru := second.tru.trans first.tru
        same := second.same
        other := fun j n stays =>
          (second.other j n fun _ _ => dead).trans (first.other j (fun e => stays rfl e live) nofun)
        t0 := fun _ _ _ => (second.other .t0 nofun fun _ _ => dead).trans first.same }
  · have alone : i = .t1 → (s.table .t0).state ≠ .live := fun t1 live => follows ⟨t1, live⟩
    rw [dropT0With_other s alone]
    exact tableDropped_dropTable new alone

theorem TableDropped.abandonMembers {i : TableId} {new : Table} {s t : State} (h : TableDropped i new s t) :
    TableDropped i new s (abandonMembers i t) := by
  have hands := handsOff_abandonMembers i t
  have table (j : TableId) : (Machine.abandonMembers i t).table j = t.table j := congrArg (Tables.get · j) hands.tables
  exact ⟨hands.lpu.trans h.lpu, hands.items.trans h.items, hands.tru.trans h.tru, (table i).trans h.same,
    fun j n stays => (table j).trans (h.other j n stays), fun t1 edit live => (table .t0).trans (h.t0 t1 edit live)⟩

section
variable {s : State} (i : TableId)

theorem serveOpen_run (mode : s.mgu.mode = .run) : serveOpen (natWord i.code) s = refuse s .refusedMode := by
  simp [serveOpen, tableOfCode_natWord, tableRefused, mode]

theorem serveAbandon_run (mode : s.mgu.mode = .run) : serveAbandon (natWord i.code) s = refuse s .refusedMode := by
  simp [serveAbandon, tableOfCode_natWord, tableRefused, mode]

/-- Outside RUN OPEN passes a table to EDIT, its content kept; one already there stays (R187). -/
theorem serveOpen_edit (mode : s.mgu.mode ≠ .run) :
    ∃ t, serveOpen (natWord i.code) s = ⟨t, .ok, []⟩ ∧ TableDropped i { s.table i with state := .edit } s t := by
  by_cases edit : (s.table i).state = .edit
  · refine ⟨s, by simp [serveOpen, tableOfCode_natWord, tableRefused, mode, edit], rfl, rfl, rfl, ?_, fun _ _ _ => rfl, ?_⟩
    · rw [← edit]
    · rintro rfl other
      exact absurd edit other
  · exact ⟨_, by simp [serveOpen, tableOfCode_natWord, tableRefused, mode, edit], tableDropped_behindT0 i _ s⟩

/-- Outside RUN ABANDON passes a table to EMPTY, every word 0 (R187). -/
theorem serveAbandon_empty (mode : s.mgu.mode ≠ .run) :
    ∃ t, serveAbandon (natWord i.code) s = ⟨t, .ok, []⟩ ∧ TableDropped i (emptyTable (s.table i).words.length) s t :=
  ⟨_, by simp [serveAbandon, tableOfCode_natWord, tableRefused, mode], (tableDropped_behindT0 i _ s).abandonMembers⟩

end

/-! ### O29 -/

/-- A request that drops a table is answered OK, and leaves what its serving left of tables, items and channels. -/
theorem dropping_answered {r : Req} {code : Nat} {body : State → Reply} {s v : State} {i : TableId} {new : Table}
    (h : s.lpu.bypass = .off) (served : body (goodFrameSeen s) = ⟨v, .ok, []⟩)
    (dropped : TableDropped i new (goodFrameSeen s) v) :
    ∃ t, serve r code body s = .next t ∧ (∀ j, t.table j = v.table j) ∧ t.items = s.items ∧ t.tru = s.tru
      ∧ Answered r code 0 [] s t := by
  obtain ⟨t, e, rest, answer⟩ := serve_answered (r := r) (code := code) h served dropped.lpu (Nat.zero_le _)
  exact ⟨t, e, fun j => by rw [rest]; rfl, by rw [rest]; exact dropped.items, by rw [rest]; exact dropped.tru, answer⟩

/-- Settles O29: `serveOpen_edit` and `serveAbandon_empty` outside RUN, the refusal in RUN. -/
theorem openAndAbandon : Obligations.OpenAndAbandon := by
  intro r i s h
  refine ⟨fun mode => ?_, fun mode => ?_⟩
  · obtain ⟨v, opened, edited⟩ := serveOpen_edit (s := goodFrameSeen s) i mode
    obtain ⟨w, abandoned, emptied⟩ := serveAbandon_empty (s := goodFrameSeen s) i mode
    obtain ⟨t, et, tableT, itemsT, truT, answerT⟩ := dropping_answered (r := r) (code := 3) h opened edited
    obtain ⟨u, eu, tableU, itemsU, truU, answerU⟩ := dropping_answered (r := r) (code := 6) h abandoned emptied
    have opens : t.table i = { s.table i with state := .edit } := (tableT i).trans edited.same
    have empties : u.table i = emptyTable (s.table i).words.length := (tableU i).trans emptied.same
    refine ⟨t, u, et, eu, by rw [opens], by rw [opens], by rw [empties]; rfl, ?_, ?_, fun j n stays => ?_,
      fun t1 edit live => ?_, itemsT, itemsU, truT, truU, answerT, answerU⟩
    · rw [empties]
      exact fun _ => List.eq_of_mem_replicate
    · rw [empties]
      exact List.length_replicate
    · exact ⟨(tableT j).trans (edited.other j n stays), (tableU j).trans (emptied.other j n stays)⟩
    · exact ⟨(tableT .t0).trans (edited.t0 t1 edit live), (tableU .t0).trans (emptied.t0 t1 edit live)⟩
  · obtain ⟨t, et, nothingT, answerT⟩ := serve_nothingElse (r := r) (code := 3) (x := .refusedMode) h
      (serveOpen_run (s := goodFrameSeen s) i mode)
    obtain ⟨u, eu, nothingU, answerU⟩ := serve_nothingElse (r := r) (code := 6) (x := .refusedMode) h
      (serveAbandon_run (s := goodFrameSeen s) i mode)
    exact ⟨t, u, et, eu, nothingT, nothingU, answerT, answerU⟩

end Sys2Proof.Machine
end

section
/-! SUPPORT. What every command but the requests for tables, START and the resets leaves of the tables, the part mode and the
envelope: the tables stand, the part does not enter RUN, and the envelope record takes payouts alone. -/

namespace Sys2Proof.Machine

/-- What payouts make of an envelope record (R77, R80). -/
inductive Payouts (t0 : Table) (a : Env) : Env → Prop
  | none : Payouts t0 a a
  | taken {b : Env} (h : Int) (d : Drum) (p : Int) (doubt : Bool) (before : Payouts t0 a b) :
      Payouts t0 a (takePayout t0 h d p doubt b)

theorem Payouts.trans {t0 : Table} {a b c : Env} (h : Payouts t0 a b) (k : Payouts t0 b c) : Payouts t0 a c := by
  induction k with
  | none => exact h
  | taken x d p doubt _ ih => exact .taken x d p doubt ih

/-- The tables stand, the part does not enter RUN, and the ENV takes payouts alone. -/
structure Steady (s t : State) : Prop where
  tables : t.tables = s.tables
  run : t.mgu.mode = .run → s.mgu.mode = .run
  env : Payouts s.tables.t0 s.env t.env

theorem Steady.refl (s : State) : Steady s s := ⟨rfl, id, .none⟩

theorem Steady.trans {a b c : State} (h : Steady a b) (k : Steady b c) : Steady a c :=
  ⟨k.tables.trans h.tables, fun run => h.run (k.run run), h.env.trans (h.tables ▸ k.env)⟩

theorem not_run_of_halts {s t : State} (mode : t.mgu.mode = s.mgu.mode ∨ t.mgu.mode = .halted) (run : t.mgu.mode = .run) :
    s.mgu.mode = .run := by
  rcases mode with e | e
  · exact e ▸ run
  · exact absurd (e.symm.trans run) (by decide)

theorem Reacts.steady {s t : State} (h : Reacts s t) : Steady s t := ⟨h.tables, not_run_of_halts h.mode, h.env ▸ .none⟩

theorem HandsOff.steady {s t : State} (h : HandsOff s t) (env : t.env = s.env) : Steady s t :=
  ⟨h.tables, not_run_of_halts h.mode, env ▸ .none⟩

section
variable {s u : State}

/-! ### Reports, moves and the transmit queue -/

theorem steady_report (rs : List Report) (k : Steady s u) : Steady s (report rs u) := k.trans (reacts_report rs u).steady

theorem steady_settleMove {m : Move} (k : Steady s m.1) : Steady s (settleMove m) := steady_report m.2 k

theorem steady_withWsq (w : Wsq) (k : Steady s u) : Steady s (u.withWsq w) := k.trans ⟨rfl, id, .none⟩

theorem steady_withSwu (x : Swu) (k : Steady s u) : Steady s (u.withSwu x) := k.trans ⟨rfl, id, .none⟩

theorem steady_force (k : Steady s u) : Steady s (force u) := k.trans (reacts_force u).steady

theorem steady_offerForwarded (bs : Bytes) (k : Steady s u) : Steady s (offerForwarded bs u) := by
  rw [offerForwarded_lpu]
  exact k.trans ⟨rfl, id, .none⟩

theorem steady_offerInserted (bs : Bytes) (k : Steady s u) : Steady s (offerInserted bs u) := by
  rw [offerInserted_lpu]
  exact k.trans ⟨rfl, id, .none⟩

theorem steady_offerState (k : Steady s u) : Steady s (offerState u) := by
  have offered := steady_offerInserted (stateFrame u) k
  simp only [offerState]
  split
  · exact offered.trans ⟨rfl, id, .none⟩
  · exact offered

theorem steady_ownersReport (s : State) : Steady s (ownersReport s) := by
  unfold ownersReport
  split <;> exact steady_report _ (steady_report _ (.refl s))

/-! ### Positions -/

/-- A drum's recompute hands the ENV one payout (R35, R77). -/
theorem steady_updateDrum (d : Drum) (k : Steady s u) : Steady s (updateDrum d u) :=
  steady_report _ (k.trans ⟨rfl, id, .taken _ _ _ _ .none⟩)

theorem steady_updateHouse (c : HrCause) (k : Steady s u) : Steady s (updateHouse c u) :=
  k.trans ((handsOff_updateHouse c u).steady (updateHouse_env c u))

theorem updateCam_env (s : State) : (updateCam s).env = s.env := by
  refine (reacts_report _ _).env.trans ?_
  simp only [takeCam]
  split
  · exact (reacts_park _).env
  · rfl

theorem steady_updateCam (k : Steady s u) : Steady s (updateCam u) :=
  k.trans ((handsOff_updateCam u).steady (updateCam_env u))

theorem steady_handOff (a : Axis) (recovered : Bool) (k : Steady s u) : Steady s (handOff a recovered u) := by
  unfold handOff
  cases a
  · exact steady_updateDrum .hoist (k.trans ⟨rfl, id, .none⟩)
  · exact steady_updateDrum .drag (k.trans ⟨rfl, id, .none⟩)
  · exact steady_updateHouse .movement (k.trans ⟨rfl, id, .none⟩)
  · exact steady_updateCam (k.trans ⟨rfl, id, .none⟩)

theorem steady_zeroAxis (a : Axis) (v : Int) (k : Steady s u) : Steady s (zeroAxis a v u) := by
  cases a
  · exact steady_updateDrum .hoist (k.trans ⟨rfl, id, .none⟩)
  · exact steady_updateDrum .drag (k.trans ⟨rfl, id, .none⟩)
  · exact steady_updateHouse .datum (k.trans ⟨rfl, id, .none⟩)
  · exact steady_updateCam (k.trans ⟨rfl, id, .none⟩)

theorem steady_takeMark (i : BitVec 32) (d : Drive) (k : Steady s u) : Steady s (takeMark i u d) := by
  simp only [takeMark]
  split
  · exact steady_zeroAxis _ _ (k.trans ⟨rfl, id, .none⟩)
  · exact k.trans ⟨rfl, id, .none⟩

theorem steady_takeMarks (i : BitVec 32) (k : Steady s u) : Steady s (takeMarks i u) :=
  steady_takeMark i .swing (steady_takeMark i .drag (steady_takeMark i .hoist k))

/-! ### CAB -/

theorem steady_takeConfirm (pressed : Bool) (k : Steady s u) : Steady s (takeConfirm pressed u) := by
  simp only [takeConfirm]
  split
  · exact steady_report _ (k.trans ⟨rfl, id, .none⟩)
  · exact k.trans ⟨rfl, id, .none⟩

theorem steady_walkEdge (k : Steady s u) : Steady s (walkEdge u).1 := by
  have forced (w : Wsq) : Steady s (force (u.withWsq w)) := steady_force (k.trans ⟨rfl, id, .none⟩)
  simp only [walkEdge, walkRequest]
  split
  · split
    · exact k
    · split
      · exact (forced _).trans (reacts_openDrag _).steady
      · exact forced _
  all_goals exact k.trans ⟨rfl, id, .none⟩

theorem steady_takeSelector (sel : Selector) (k : Steady s u) : Steady s (takeSelector sel u).1 := by
  have held := steady_withWsq { u.wsq with selector := some sel } k
  simp only [takeSelector]
  split
  · exact steady_walkEdge held
  · exact held.trans (reacts_digEdge _).steady
  · exact held

theorem steady_acknowledged (ns : List Nat) (k : Steady s u) : Steady s (acknowledged ns u) :=
  steady_report [] (k.trans ⟨rfl, id, .none⟩)

theorem steady_takeAckPush (pressed : Bool) (k : Steady s u) : Steady s (takeAckPush pressed u) := by
  simp only [takeAckPush]
  split
  · exact steady_acknowledged _ (k.trans ⟨rfl, id, .none⟩)
  · exact k.trans ⟨rfl, id, .none⟩

/-- A reset push may end HALTED, for STANDBY (R183). -/
theorem steady_takeResetPush (pressed : Bool) (k : Steady s u) : Steady s (takeResetPush pressed u) := by
  simp only [takeResetPush]
  split
  · exact k.trans ⟨rfl, nofun, .none⟩
  · exact k.trans ⟨rfl, id, .none⟩

theorem steady_takeCab (selector pushes : Word) (s : State) : Steady s (takeCab selector pushes s) :=
  steady_takeResetPush _ (steady_takeAckPush _ (steady_settleMove (steady_takeSelector _ (steady_takeConfirm _ (.refl s)))))

/-! ### COMMAND -/

theorem steady_commandArrives (g : Axis) (k : Steady s u) : Steady s (commandArrives g u) := by
  simp only [commandArrives]
  split
  · exact steady_report _ (k.trans ⟨rfl, id, .none⟩)
  · exact k.trans ⟨rfl, id, .none⟩

theorem steady_takeLever (g : Axis) (v : Int) (k : Steady s u) : Steady s (takeLever g v u) := by
  simp only [takeLever]
  split <;> exact k.trans ⟨rfl, id, .none⟩

theorem steady_tryActivate (g : Axis) (v : Int) (k : Steady s u) : Steady s (tryActivate g v u) := by
  unfold tryActivate activate
  split
  · cases g <;> exact k.trans ⟨rfl, id, .none⟩
  · exact k

theorem steady_walkLever (v : Int) (k : Steady s u) : Steady s (walkLever v u) := by
  simp only [walkLever]
  split
  · split
    · split
      · exact steady_settleMove ((steady_withWsq _ k).trans (reacts_park _).steady)
      · exact k.trans ⟨rfl, id, .none⟩
    · exact k.trans ⟨rfl, id, .none⟩
  · exact k

theorem steady_shapeRest (g : Axis) (v : Int) (k : Steady s u) : Steady s (shapeRest g v u).state := by
  simp only [shapeRest, recordCaps]
  split <;> exact k.trans ⟨rfl, id, .none⟩

theorem steady_shapeOwn (g : Axis) (v : Int) (k : Steady s u) : Steady s (shapeOwn g v u).state := by
  have active := steady_tryActivate g v k
  cases g
  · exact steady_shapeRest _ _ active
  · exact steady_shapeRest _ _ active
  · exact steady_shapeRest _ _ (active.trans ⟨rfl, id, .none⟩)
  · exact steady_shapeRest _ _ (steady_walkLever _ active)

theorem steady_shape (g : Axis) (lever : Word) (k : Steady s u) : Steady s (shape g lever u).state := by
  have taken := steady_takeLever g (frameLever g lever u) (steady_commandArrives g k)
  simp only [shape]
  split
  · exact taken.trans ⟨rfl, id, .none⟩
  · exact steady_shapeOwn _ _ taken

theorem steady_takeCommand (l : Link) (group lever : Word) (s : State) : Steady s (takeCommand l group lever s) := by
  unfold takeCommand
  split
  · exact steady_offerForwarded _ (steady_report _ (steady_shape _ _ (.refl s)))
  · exact steady_offerForwarded _ (.refl s)

/-! ### SAMPLE, DISCRETE and DRIVE_STATUS -/

theorem steady_takeSampleFrame (src : Byte) (d : SampleData) (s : State) : Steady s (takeSampleFrame src d s) := by
  simp only [takeSampleFrame]
  split
  · exact .refl s
  · split
    · exact .refl s
    · exact steady_handOff _ _ (steady_report _ ⟨rfl, id, .none⟩)

theorem steady_takeInputs (inputs : BitVec 32) (k : Steady s u) : Steady s (takeInputs inputs u).1 := by
  simp only [takeInputs]
  split
  · exact k.trans ⟨rfl, id, .none⟩
  · split <;> exact k.trans ⟨rfl, id, .none⟩

theorem steady_takeDiscreteFrame (src : Byte) (low high : Word) (s : State) : Steady s (takeDiscreteFrame src low high s) := by
  simp only [takeDiscreteFrame, takeDiscrete]
  split
  · exact steady_report _ (steady_takeMarks _ (steady_settleMove (steady_takeInputs _ ⟨rfl, id, .none⟩)))
  · exact .refl s

theorem steady_handDrives (extra : List Report) (k : Steady s u) : Steady s (handDrives extra u) :=
  k.trans ((handsOff_handDrives extra u).steady (handDrives_env extra u))

theorem steady_takeDriveStatus (src : Nat) (x : DriveData) (s : State) : Steady s (takeDriveStatus src x s) := by
  simp only [takeDriveStatus]
  split
  · exact steady_handDrives [] ⟨rfl, id, .none⟩
  · exact .refl s

/-! ### The marker -/

theorem steady_driveMarker (k : Steady s u) : Steady s (driveMarker u) := by
  rw [driveMarker_eq]
  exact steady_handDrives _ (k.trans ⟨rfl, id, .none⟩)

theorem steady_takeNumber (number : Word) (k : Steady s u) : Steady s (takeNumber number u) := by
  simp only [takeNumber]
  split
  · exact steady_report _ (k.trans ⟨rfl, id, .none⟩)
  · exact k.trans ⟨rfl, id, .none⟩

theorem steady_channelMarker (a : Axis) (k : Steady s u) : Steady s (channelMarker u a) := by
  simp only [channelMarker]
  split
  · split
    · exact steady_report _ (k.trans ⟨rfl, id, .none⟩)
    · exact steady_handOff a false (steady_report _ (k.trans ⟨rfl, id, .none⟩))
  · exact k.trans ⟨rfl, id, .none⟩

theorem steady_channelMarkers (as : List Axis) (k : Steady s u) : Steady s (as.foldl channelMarker u) := by
  induction as generalizing u with
  | nil => exact k
  | cons a as ih => exact ih (steady_channelMarker a k)

theorem steady_lossMarker (g : Axis) (k : Steady s u) : Steady s (lossMarker g u) := by
  simp only [lossMarker]
  split
  · exact steady_report _ (k.trans ⟨rfl, id, .none⟩)
  · exact k.trans ⟨rfl, id, .none⟩

theorem steady_lossMarkers (gs : List Axis) (k : Steady s u) : Steady s (gs.foldl (fun s g => lossMarker g s) u) := by
  induction gs generalizing u with
  | nil => exact k
  | cons g gs ih => exact ih (steady_lossMarker g k)

theorem steady_takeCycle (l : Link) (number : Word) (s : State) : Steady s (takeCycle l number s) := by
  have channels := steady_channelMarkers Axis.all (steady_takeNumber number (.refl s))
  have marked : Steady s (markBeforeSeq number s) := steady_withSwu _ (steady_lossMarkers Axis.all (steady_driveMarker channels))
  exact steady_offerState (steady_offerForwarded _ (marked.trans (reacts_seqMarker _).steady))

/-! ### Bad frames and silence -/

theorem steady_takeBad (reason : Nat) (bs : Bytes) (s : State) : Steady s (takeBad reason bs s) := by
  simp only [takeBad]
  refine steady_offerForwarded _ (steady_report _ ?_)
  split
  · exact ⟨rfl, id, .none⟩
  · exact .refl s

theorem steady_expireTimer (s : State) : Steady s (expireTimer s) := by
  simp only [expireTimer]
  split
  · exact ⟨rfl, id, .none⟩
  · exact steady_report _ ⟨rfl, id, .none⟩

theorem steady_completeReset (straps : BitVec 5) (s : State) : Steady s (completeReset straps s) := by
  simp only [completeReset]
  split <;> exact ⟨rfl, id, .none⟩

end

/-! ### Requests -/

section
variable (s : State)

theorem steady_writeChannel (n : Nat) (a : Axis) (w : Word) : Steady s (writeChannel n a w s).1 := by
  have fixed (it : ChannelItems) : Steady s (applyFixed a it s) := by
    rw [applyFixed_eq]
    exact ⟨rfl, id, .none⟩
  simp only [writeChannel]
  split
  case h_5 | h_6 | h_7 => exact fixed _
  case h_11 => exact steady_report _ ⟨rfl, id, .none⟩
  case h_12 =>
    rw [applyGainMode_eq]
    exact ⟨rfl, id, .none⟩
  all_goals exact ⟨rfl, id, .none⟩

theorem steady_writeGroup (n : Nat) (g : Axis) (w : Word) : Steady s (writeGroup n g w s).1 := by
  simp only [writeGroup]
  split <;> exact ⟨rfl, id, .none⟩

theorem steady_setSwingGear (v : Int) : Steady s (setSwingGear v s) := by
  simp only [setSwingGear]
  split
  · exact .refl s
  · exact steady_updateHouse .datum ⟨rfl, id, .none⟩

theorem steady_setRopeK (d : Drum) (v : Int) : Steady s (setRopeK d v s) := by
  simp only [setRopeK]
  split
  · exact .refl s
  · exact steady_updateDrum d ⟨rfl, id, .none⟩

theorem steady_setPitHeading (v : Int) : Steady s (setPitHeading v s) :=
  steady_updateHouse .datum (steady_report _ ⟨rfl, id, .none⟩)

theorem steady_writePart (n : Nat) (w : Word) : Steady s (writePart n w s).1 := by
  simp only [writePart]
  split
  case h_4 => exact steady_setSwingGear s _
  case h_5 => exact steady_setRopeK s .hoist _
  case h_6 => exact steady_setRopeK s .drag _
  case h_10 => exact steady_updateCam ⟨rfl, id, .none⟩
  case h_11 => exact steady_setPitHeading s _
  all_goals exact ⟨rfl, id, .none⟩

theorem steady_serveWrite (item index : Word) (values : List Word) : Steady s (serveWrite item index values s).state := by
  have written (sc : Scope) (w : Word) : Steady s (writeItem sc item.toNat index.toNat w s).1 := by
    unfold writeItem
    split
    · exact steady_writePart s _ w
    · split
      · exact steady_writeChannel s _ _ w
      · exact .refl s
    · split
      · exact steady_writeGroup s _ _ w
      · exact .refl s
    all_goals exact .refl s
  unfold serveWrite
  split
  · exact .refl s
  · split
    · exact .refl s
    · split
      · split
        · exact .refl s
        · exact written _ _
      · exact .refl s

theorem steady_serveRead (item index : Word) (count : Byte) : Steady s (serveRead item index count s).state := by
  simp only [serveRead]
  split
  · exact .refl s
  · split
    · exact .refl s
    · simp only
      split <;> exact ⟨rfl, id, .none⟩

theorem steady_serveReadTable (table first : Word) (count : Byte) : Steady s (serveReadTable table first count s).state := by
  unfold serveReadTable
  split
  · exact .refl s
  · simp only
    split <;> exact .refl s

/-- A STOP ends RUN (R181). -/
theorem steady_serveStop : Steady s (serveStop s).state := by
  unfold serveStop
  split
  · have standby : Steady s (s.withMgu { s.mgu with mode := .standby }) := ⟨rfl, nofun, .none⟩
    exact standby.trans (reacts_stopGroups Axis.all _).steady
  · exact .refl s
  · exact .refl s

theorem steady_serveLearn (channel : Word) : Steady s (serveLearn channel s).state := by
  unfold serveLearn
  split
  · exact .refl s
  · split
    · exact ⟨rfl, id, .none⟩
    · exact .refl s

theorem steady_serveZero (channel : Word) (values : List Word) : Steady s (serveZero channel values s).state := by
  unfold serveZero
  split
  · exact .refl s
  · split
    · exact .refl s
    · split
      · exact .refl s
      · split
        · exact .refl s
        · exact steady_zeroAxis _ _ (.refl s)

theorem steady_serveForce (condition : Word) : Steady s (serveForce condition s).state := by
  simp only [serveForce]
  split
  · exact .refl s
  · split
    · exact .refl s
    · exact .refl s
    · split
      · exact .refl s
      · have acted (e : Effect) (x : Alu) := (reacts_withAlu s x).trans (reacts_aluAct e _)
        exact steady_settleMove ((acted _ _).trans (reacts_reactToGroups _)).steady

theorem steady_serveAck (target : Word) : Steady s (serveAck target s).state := by
  simp only [serveAck]
  split
  · exact steady_acknowledged _ (.refl s)
  · split
    · exact steady_acknowledged _ (.refl s)
    · exact .refl s

theorem steady_serveReadAlarms (position : Word) (count : Byte) : Steady s (serveReadAlarms position count s).state := by
  simp only [serveReadAlarms]
  split
  · exact .refl s
  · simp only
    split
    · exact .refl s
    · exact steady_acknowledged _ (.refl s)

end

/-! ### Arrivals -/

theorem steady_goodFrameSeen (s : State) : Steady s (goodFrameSeen s) := ⟨rfl, id, .none⟩

section
variable {s : State} {body : State → State}

theorem steady_arrival (l : Link) (size : Nat) (h : ∀ u, Steady u (body u)) : Steady s (arrival l size body s) := by
  unfold arrival
  split
  · exact (steady_goodFrameSeen s).trans (h _)
  · exact .refl s

theorem steady_delivered (kind : Byte) (l : Link) (ws : List Word) (h : ∀ u, Steady u (body u)) :
    Steady s (delivered kind l ws body s) :=
  steady_arrival l _ fun u => steady_offerForwarded _ (h u)

end

end Sys2Proof.Machine
end

section
/-! SUPPORT. The couplings of the tables, the part mode and the envelope (R74, R79, R80, R84, R180): payouts keep them, and so does
a table that leaves LIVE or becomes LIVE outside RUN. -/

namespace Sys2Proof.Machine

/-! ### The envelope and its tables -/

/-- Every used cell of T0 and its doubtful profile name records of T1 (R73). -/
def CellsNamed (t0 t1 : Table) : Prop :=
  t0.num 0 ≤ 15 ∧ t0.num 16 ≤ 15 ∧ t0.num 288 < t1.num 0
    ∧ ∀ hb db, hb ≤ t0.num 0 → db ≤ t0.num 16 → t0.num (32 + 16 * hb + db) < t1.num 0

/-- The ENV holds a used cell and its profile, or the doubtful one, selected (R79, R80). -/
def CellSelected (t0 : Table) (e : Env) : Prop :=
  ∃ hb db, hb ≤ t0.num 0 ∧ db ≤ t0.num 16 ∧ e.band = ⟨some hb, some db⟩
    ∧ e.cellProfile = some (t0.num (32 + 16 * hb + db))
    ∧ e.selected = (if e.lastDoubt.hoist || e.lastDoubt.drag then some (t0.num 288) else e.cellProfile)

/-- The ENV holds no band and no profile (R84). -/
def NoCell (e : Env) : Prop := e.band = ⟨none, none⟩ ∧ e.cellProfile = none ∧ e.selected = none

theorem envelopeOk_iff (s : State) : EnvelopeOk s
    ↔ (s.tables.t0.state = .live → CellsNamed s.tables.t0 s.tables.t1 ∧ CellSelected s.tables.t0 s.env)
      ∧ (s.tables.t0.state ≠ .live → NoCell s.env) := by
  simp only [EnvelopeOk, CellsNamed, CellSelected, NoCell, and_assoc]

/-- A valid T0 names records of T1 in every used cell (R73). -/
theorem ValidT0.cellsNamed {t0 t1 : Table} (valid : ValidT0 t0 t1) : CellsNamed t0 t1 := by
  obtain ⟨_, hoist, drag, doubtful, cells⟩ := valid
  exact ⟨hoist.2.1, drag.2.1, doubtful, fun hb db hle dle => cells hb hle db dle⟩

/-! ### Payouts and fresh evaluations -/

/-- A selection from two bands within the used breakpoints selects a used cell (R79, R80). -/
theorem cellSelected_selectProfile (t0 : Table) {e : Env} {hb db : Nat} (hoist : hb ≤ t0.num 0) (drag : db ≤ t0.num 16)
    (band : e.band = ⟨some hb, some db⟩) : CellSelected t0 (selectProfile t0 e) := by
  refine ⟨hb, db, hoist, drag, (selectProfile_band t0).trans band, ?_, ?_⟩
  · rw [selectProfile_cell t0 band, cellOf, Nat.mul_comm]
  · rw [selectProfile_lastDoubt]
    split
    · exact (selectProfile_doubtful t0 band ‹_›).2
    · exact (selectProfile_sure t0 band (Bool.eq_false_iff.2 ‹_›)).2

theorem cellSelected_freshEvaluation (t0 : Table) (e : Env) : CellSelected t0 (freshEvaluation t0 e) :=
  cellSelected_selectProfile t0 (freshBand_le t0 .hoist _) (freshBand_le t0 .drag _) rfl

/-- A payout keeps a used cell selected: the moved band lies within the used breakpoints (R77). -/
theorem CellSelected.takePayout {t0 : Table} {e : Env} (live : t0.state = .live) (ok : CellSelected t0 e) (h : Int) (d : Drum)
    (p : Int) (doubt : Bool) : CellSelected t0 (takePayout t0 h d p doubt e) := by
  obtain ⟨hb, db, hoist, drag, band, -, -⟩ := ok
  cases d
  case hoist =>
    rw [takePayout_live (held := hb) live h p doubt (d := .hoist) (congrArg PerDrum.hoist band)]
    exact cellSelected_selectProfile t0 (nextBand_le t0 .hoist h p hoist) drag (by simp [payoutTaken, band, PerDrum.set])
  case drag =>
    rw [takePayout_live (held := db) live h p doubt (d := .drag) (congrArg PerDrum.drag band)]
    exact cellSelected_selectProfile t0 hoist (nextBand_le t0 .drag h p drag) (by simp [payoutTaken, band, PerDrum.set])

theorem Payouts.cellSelected {t0 : Table} {a b : Env} (h : Payouts t0 a b) (live : t0.state = .live) (ok : CellSelected t0 a) :
    CellSelected t0 b := by
  induction h with
  | none => exact ok
  | taken x d p doubt _ ih => exact ih.takePayout live x d p doubt

theorem Payouts.noCell {t0 : Table} {a b : Env} (h : Payouts t0 a b) (dead : t0.state ≠ .live) (ok : NoCell a) : NoCell b := by
  induction h with
  | none => exact ok
  | taken x d p doubt _ ih =>
    rw [takePayout_dead dead]
    exact ih

/-! ### What keeps the couplings -/

/-- The couplings of the tables survive, and with them those of the envelope. -/
structure KeepsTables (s t : State) : Prop where
  tables : TablesOk s → TablesOk t
  envelope : TablesOk s → EnvelopeOk s → EnvelopeOk t

theorem KeepsTables.trans {a b c : State} (h : KeepsTables a b) (k : KeepsTables b c) : KeepsTables a c :=
  ⟨fun ok => k.tables (h.tables ok), fun ok env => k.envelope (h.tables ok) (h.envelope ok env)⟩

/-- The couplings of the tables may be used to show that they survive. -/
theorem KeepsTables.of_ok {s t : State} (h : TablesOk s → KeepsTables s t) : KeepsTables s t :=
  ⟨fun ok => (h ok).tables ok, fun ok => (h ok).envelope ok⟩

theorem Steady.keeps {s t : State} (h : Steady s t) : KeepsTables s t where
  tables ok := by
    have ⟨follows, required⟩ := ok
    have table (i : TableId) : t.table i = s.table i := congrArg (Tables.get · i) h.tables
    refine ⟨?_, fun run i mem => ?_⟩
    · rw [EnvelopeTablesOk, h.tables]
      exact follows
    · rw [table]
      exact required (h.run run) i mem
  envelope _ ok := by
    rw [envelopeOk_iff] at *
    rw [h.tables]
    exact ⟨fun live => ⟨(ok.1 live).1, h.env.cellSelected live (ok.1 live).2⟩, fun dead => h.env.noCell dead (ok.2 dead)⟩

theorem KeepsTables.refl (s : State) : KeepsTables s s := (Steady.refl s).keeps

/-! ### Tables replaced outside RUN -/

/-- Outside RUN START's tables are free (R180). -/
theorem runTablesOk_outside {s : State} (mode : s.mgu.mode ≠ .run) : RunTablesOk s := fun run => absurd run mode

/-- While T1 is in EDIT T0 is not LIVE (R74). -/
theorem TablesOk.t0_dead {s : State} (ok : TablesOk s) {i : TableId} (edit : (s.table i).state = .edit) (t1 : i = .t1) :
    (s.table .t0).state ≠ .live := by
  subst t1
  intro live
  exact absurd (edit.symm.trans (ok.1 live)) (by decide)

section
variable {s : State} {i : TableId} {new : Table}

/-- Outside RUN a table may be replaced, but for a T0 that was or becomes LIVE and a T1 under a LIVE T0. -/
theorem keepsTables_setTable (mode : s.mgu.mode ≠ .run)
    (dead : i = .t0 → (s.table .t0).state ≠ .live ∧ new.state ≠ .live)
    (alone : i = .t1 → (s.table .t0).state ≠ .live) : KeepsTables s (s.setTable i new) := by
  by_cases t0 : i = .t0
  · subst t0
    exact ⟨fun _ => ⟨fun live => absurd live (dead rfl).2, runTablesOk_outside mode⟩,
      fun _ ok => ⟨fun live => absurd live (dead rfl).2, fun _ => ok.2 (dead rfl).1⟩⟩
  · have same0 : (s.setTable i new).tables.t0 = s.tables.t0 := State.setTable_other s new (Ne.symm t0)
    by_cases t1 : i = .t1
    · have dead0 : s.tables.t0.state ≠ .live := alone t1
      refine ⟨fun _ => ⟨fun live => absurd (same0 ▸ live) dead0, runTablesOk_outside mode⟩, fun _ ok => ?_⟩
      exact ⟨fun live => absurd (same0 ▸ live) dead0, fun _ => ok.2 dead0⟩
    · have same1 : (s.setTable i new).tables.t1 = s.tables.t1 := State.setTable_other s new (Ne.symm t1)
      refine ⟨fun ok => ⟨?_, runTablesOk_outside mode⟩, fun _ ok => ?_⟩
      · rw [EnvelopeTablesOk, same0, same1]
        exact ok.1
      · rw [envelopeOk_iff] at *
        rw [same0, same1]
        exact ok

/-- A T0 that leaves LIVE takes the envelope with it (R84). -/
theorem keepsTables_envelopeDropped (mode : s.mgu.mode ≠ .run) (dead : new.state ≠ .live) :
    KeepsTables s (envelopeDropped (s.setTable .t0 new)) :=
  ⟨fun _ => ⟨fun live => absurd live dead, runTablesOk_outside mode⟩,
    fun _ _ => ⟨fun live => absurd live dead, fun _ => ⟨rfl, rfl, rfl⟩⟩⟩

/-- A T0 that becomes LIVE names records of a LIVE T1, and a fresh evaluation selects a used cell (R73, R76). -/
theorem keepsTables_envelopeLive (mode : s.mgu.mode ≠ .run) (live : new.state = .live) (valid : ValidT0 new s.tables.t1) :
    KeepsTables s (envelopeLive (s.setTable .t0 new)) :=
  ⟨fun _ => ⟨fun _ => valid.1, runTablesOk_outside mode⟩,
    fun _ _ => (envelopeOk_iff _).2
      ⟨fun _ => ⟨valid.cellsNamed, cellSelected_freshEvaluation _ _⟩, fun dead => absurd live dead⟩⟩

end

/-- No table but T0 brings the ENV a reaction of its own. -/
theorem enteredLive_env {i : TableId} (other : i ≠ .t0) (old : Table) (s : State) : (enteredLive i old s).env = s.env := by
  cases i
  case t0 => exact absurd rfl other
  case t6 => exact (reacts_report _ _).env
  case t8 =>
    simp only [enteredLive, camTableChanged]
    split <;> rfl
  case t9 =>
    simp only [enteredLive, copyT9]
    exact handDrives_env [] _
  case t10 => exact (reacts_report [] _).env
  all_goals rfl

theorem leftLive_env {i : TableId} (other : i ≠ .t0) (old : Table) (s : State) : (leftLive i old s).env = s.env := by
  cases i
  case t0 => exact absurd rfl other
  case t6 => exact enteredLive_env (i := .t6) nofun old s
  case t8 => exact enteredLive_env (i := .t8) nofun old s
  case t10 => exact enteredLive_env (i := .t10) nofun old s
  all_goals rfl

theorem steady_abandonMembers (i : TableId) (s : State) : Steady s (abandonMembers i s) := by
  refine (handsOff_abandonMembers i s).steady ?_
  cases i
  case t9 =>
    simp only [abandonMembers, emptyT9]
    exact handDrives_env [] _
  all_goals rfl

section
variable {s : State} {i : TableId} {new : Table}

/-- Outside RUN a table may leave LIVE while no LIVE T0 depends on it. -/
theorem keepsTables_dropTable (mode : s.mgu.mode ≠ .run) (dead : new.state ≠ .live)
    (alone : i = .t1 → (s.table .t0).state ≠ .live) : KeepsTables s (dropTable i new s) := by
  simp only [dropTable]
  split
  · by_cases t0 : i = .t0
    · subst t0
      exact keepsTables_envelopeDropped mode dead
    · exact (keepsTables_setTable mode (fun e => absurd e t0) alone).trans
        ((handsOff_leftLive i _ _).steady (leftLive_env t0 _ _)).keeps
  · rename_i other
    refine keepsTables_setTable mode (fun e => ⟨fun live => other ?_, dead⟩) alone
    subst e
    exact beq_iff_eq.2 live

theorem keepsTables_dropT0With (mode : s.mgu.mode ≠ .run) : KeepsTables s (dropT0With i s) := by
  unfold dropT0With
  split
  · exact keepsTables_dropTable mode nofun nofun
  · exact .refl s

theorem dropT0With_mode (mode : s.mgu.mode ≠ .run) : (dropT0With i s).mgu.mode ≠ .run := by
  unfold dropT0With
  split
  · exact fun run => mode (not_run_of_halts (handsOff_dropTable .t0 s { s.tables.t0 with state := .edit }).mode run)
  · exact mode

/-- With T1 goes T0, so that no LIVE T0 is left behind (R74). -/
theorem dropT0With_dead (t1 : i = .t1) : ((dropT0With i s).table .t0).state ≠ .live := by
  subst t1
  by_cases live : (s.table .t0).state = .live
  · rw [dropT0With_t1 s live, dropTable_table, State.setTable_same]
    nofun
  · rwa [dropT0With_other s fun _ => live]

theorem keepsTables_dropped (mode : s.mgu.mode ≠ .run) (dead : new.state ≠ .live) :
    KeepsTables s (dropTable i new (dropT0With i s)) :=
  (keepsTables_dropT0With mode).trans (keepsTables_dropTable (dropT0With_mode mode) dead dropT0With_dead)

/-- A table in EDIT may become LIVE when its words pass, T0 against a LIVE T1 (R74, R76). -/
theorem keepsTables_enteredLive (mode : s.mgu.mode ≠ .run) (edit : (s.table i).state = .edit) (pass : Pass (checks i s)) :
    KeepsTables s (enteredLive i (s.table i) (s.setTable i { s.table i with state := .live })) := by
  by_cases t0 : i = .t0
  · subst t0
    have valid : ValidT0 s.tables.t0 s.tables.t1 := (checks_pass .t0 s).1 pass
    exact keepsTables_envelopeLive mode rfl valid
  · have set : KeepsTables s (s.setTable i { s.table i with state := .live }) :=
      .of_ok fun ok => keepsTables_setTable mode (fun e => absurd e t0) (ok.t0_dead edit)
    exact set.trans ((handsOff_enteredLive i _ _).steady (enteredLive_env t0 _ _)).keeps

end

end Sys2Proof.Machine
end

section
/-! Every command keeps the couplings of the tables and of the envelope: the requests and the resets, then the whole dispatch, and
from it O11. -/

namespace Sys2Proof.Machine

/-! ### Requests for tables, and START -/

theorem not_run_of_not_refused {s : State} (h : ¬ tableRefused s = true) : s.mgu.mode ≠ .run :=
  fun run => h (beq_iff_eq.2 run)

/-- A run of checks without a failing word passes (R189). -/
theorem firstFailing_none {cs : List Check} (h : firstFailing cs = none) : Pass cs := by
  simpa [firstFailing, Pass] using h

theorem emptyTable_dead (n : Nat) : (emptyTable n).state ≠ .live := nofun

/-- START passes only where every table it requires is LIVE (R180). -/
theorem startFailure_tables {s : State} (h : startFailure s = none) : ∀ i ∈ startTables, (s.table i).state = .live := by
  unfold startFailure at h
  split at h
  · cases h
  · rename_i all
    intro i mem
    simpa [Table.isLive] using List.find?_eq_none.1 all i mem

section
variable (s : State)

theorem keepsTables_serveOpen (table : Word) : KeepsTables s (serveOpen table s).state := by
  unfold serveOpen
  split
  · exact .refl s
  · split
    · exact .refl s
    · rename_i allowed
      split
      · exact .refl s
      · exact keepsTables_dropped (not_run_of_not_refused allowed) nofun

theorem keepsTables_serveAbandon (table : Word) : KeepsTables s (serveAbandon table s).state := by
  unfold serveAbandon
  split
  · exact .refl s
  · split
    · exact .refl s
    · rename_i allowed
      exact (keepsTables_dropped (not_run_of_not_refused allowed) (emptyTable_dead _)).trans (steady_abandonMembers _ _).keeps

theorem keepsTables_serveClose (table : Word) : KeepsTables s (serveClose table s).state := by
  unfold serveClose
  split
  · exact .refl s
  · split
    · exact .refl s
    · rename_i allowed
      split
      · exact .refl s
      · rename_i edit
        split
        · exact .refl s
        · exact keepsTables_enteredLive (not_run_of_not_refused allowed) (not_not.1 edit) (firstFailing_none ‹_›)

/-- A LOAD writes words of a table in EDIT, which stays there (R188). -/
theorem keepsTables_serveLoad (table first : Word) (mode : Byte) (words : List Word) :
    KeepsTables s (serveLoad table first mode words s).state := by
  unfold serveLoad
  split
  · exact .refl s
  · rename_i i _
    split
    · exact .refl s
    · rename_i allowed
      split
      · exact .refl s
      · rename_i other
        have edit : (s.table i).state = .edit := not_not.1 other
        have dead : (s.table i).state ≠ .live := by rw [edit]; decide
        split
        · exact .refl s
        · simp only
          split
          · exact .refl s
          · exact .of_ok fun ok =>
              keepsTables_setTable (not_run_of_not_refused allowed) (fun e => ⟨e ▸ dead, dead⟩) (ok.t0_dead edit)

theorem keepsTables_serveStart : KeepsTables s (serveStart s).state := by
  unfold serveStart
  split
  · exact .refl s
  · exact .refl s
  · split
    · exact .refl s
    · exact ⟨fun ok => ⟨ok.1, fun _ => startFailure_tables ‹_›⟩, fun _ ok => ok⟩

/-! ### Resets -/

theorem softTable_live {t : Table} (live : t.state = .live) : softTable t = t := by simp [softTable, live]

theorem softTable_dead {t : Table} (dead : t.state ≠ .live) : (softTable t).state ≠ .live := by
  unfold softTable
  split
  · rename_i live
    exact absurd live dead
  all_goals exact emptyTable_dead _

theorem softEnv_dead {t : Table} (dead : t.state ≠ .live) : softEnv t = .reset := by simp [softEnv, Table.isLive, dead]

theorem softEnv_live {t : Table} (live : t.state = .live) : softEnv t = freshEvaluation t .reset := by
  simp [softEnv, Table.isLive, live]

/-- A soft reset keeps the LIVE tables and evaluates a LIVE T0 afresh, in STANDBY (R75, R76, R190). -/
theorem keepsTables_softBlocks : KeepsTables s (softBlocks s) := by
  have t0 : (softBlocks s).tables.t0 = softTable s.tables.t0 := rfl
  have t1 : (softBlocks s).tables.t1 = softTable s.tables.t1 := rfl
  have env : (softBlocks s).env = softEnv (softTable s.tables.t0) := rfl
  by_cases live : s.tables.t0.state = .live
  · have kept := softTable_live live
    refine .of_ok fun tables => ?_
    have kept1 := softTable_live (tables.1 live)
    refine ⟨fun _ => ⟨fun _ => ?_, nofun⟩, fun _ ok => ?_⟩
    · rw [t1, kept1]
      exact tables.1 live
    · rw [envelopeOk_iff] at *
      rw [t0, t1, env, kept, kept1, softEnv_live live]
      exact ⟨fun _ => ⟨(ok.1 live).1, cellSelected_freshEvaluation _ _⟩, fun dead => absurd live dead⟩
  · have dead := softTable_dead live
    refine ⟨fun _ => ⟨fun live => absurd live dead, nofun⟩, fun _ _ => ⟨fun live => absurd live dead, fun _ => ?_⟩⟩
    rw [env, softEnv_dead dead]
    exact ⟨rfl, rfl, rfl⟩

theorem keepsTables_takeSoftReset : KeepsTables s (takeSoftReset s) :=
  (keepsTables_softBlocks s).trans (steady_ownersReport _).keeps

/-- Power-on and pin reset leave every table EMPTY and the part in STANDBY, whatever stood before (R191). -/
theorem keepsTables_freshPart : KeepsTables s (freshPart s) := by
  have blocks : KeepsTables s
      { State.reset with alu := .reset, dguReportsFirst := s.dguReportsFirst, pending := s.pending } :=
    ⟨fun _ => ⟨nofun, nofun⟩, fun _ _ => ⟨nofun, fun _ => ⟨rfl, rfl, rfl⟩⟩⟩
  exact blocks.trans (steady_ownersReport _).keeps

end

/-! ### Every command -/

section
variable {s t : State}

theorem keepsTables_next {u : State} (e : (.next u : Result) = .next t) (k : KeepsTables s u) : KeepsTables s t :=
  Host.Outcome.next.inj e ▸ k

theorem steady_next {u : State} (e : (.next u : Result) = .next t) (k : Steady s u) : KeepsTables s t :=
  keepsTables_next e k.keeps

/-- A request keeps what its serving keeps, served or not (R172). -/
theorem keepsTables_serve {r : Req} {code : Nat} {body : State → Reply} (e : serve r code body s = .next t)
    (h : ∀ u, KeepsTables u (body u).state) : KeepsTables s t := by
  unfold serve at e
  split at e
  · exact keepsTables_next e (((steady_goodFrameSeen s).keeps.trans (h _)).trans (steady_offerInserted _ (.refl _)).keeps)
  · exact keepsTables_next e (.refl s)

theorem steady_serve {r : Req} {code : Nat} {body : State → Reply} (e : serve r code body s = .next t)
    (h : ∀ u, Steady u (body u).state) : KeepsTables s t :=
  keepsTables_serve e fun u => (h u).keeps

theorem keepsTables_cycleEvent {due : Bool} {l : Link} {number : Word} (e : cycleEvent due l number s = .next t) :
    KeepsTables s t := by
  unfold cycleEvent at e
  split at e
  · exact steady_next e (steady_arrival l 2 (steady_takeCycle l number))
  · exact steady_next e (.refl s)

theorem keepsTables_sampleEvent {due : Bool} {l : Link} {d : SampleData} (e : sampleEvent due l d s = .next t) :
    KeepsTables s t := by
  unfold sampleEvent at e
  split at e
  · exact steady_next e (steady_delivered _ l _ (steady_takeSampleFrame l.src d))
  · exact steady_next e (.refl s)

/-- Every command keeps the couplings. -/
theorem keepsTables_exec {c : Instr} (e : exec c s = .next t) : KeepsTables s t := by
  cases c
  case powerOnReset | pinReset => exact keepsTables_next e (keepsTables_freshPart s)
  case resetComplete straps =>
    simp only [exec, execResetComplete] at e
    split at e
    · exact steady_next e (steady_completeReset straps s)
    all_goals exact steady_next e (.refl s)
  case bypassStart =>
    simp only [exec, execBypassStart] at e
    split at e
    · exact steady_next e ⟨rfl, id, .none⟩
    · exact steady_next e (.refl s)
  case softReset =>
    simp only [exec, execSoftReset] at e
    split at e
    · exact keepsTables_next e (keepsTables_takeSoftReset s)
    all_goals exact steady_next e (.refl s)
  case cycle l number => exact steady_next e (steady_arrival l 2 (steady_takeCycle l number))
  case cab l selector pushes => exact steady_next e (steady_delivered _ l _ (steady_takeCab selector pushes))
  case command l group lever => exact steady_next e (steady_arrival l 4 (steady_takeCommand l group lever))
  case sample l d => exact steady_next e (steady_delivered _ l _ (steady_takeSampleFrame l.src d))
  case discrete l low high => exact steady_next e (steady_delivered _ l _ (steady_takeDiscreteFrame l.src low high))
  case driveStatus l d => exact steady_next e (steady_delivered _ l _ (steady_takeDriveStatus l.src.toNat d))
  case forwardedFrame bytes =>
    simp only [exec, execForwardedFrame] at e
    split at e
    · exact steady_next e (steady_offerForwarded _ ⟨rfl, id, .none⟩)
    · exact steady_next e (.refl s)
  case ownFrameRemoval bytes =>
    simp only [exec, execOwnFrameRemoval] at e
    split at e
    · exact steady_next e ⟨rfl, id, .none⟩
    · exact steady_next e (.refl s)
  case badFrame bytes =>
    simp only [exec, execBadFrame] at e
    split at e
    · split at e
      · exact steady_next e (steady_takeBad _ bytes s)
      · exact steady_next e (.refl s)
    · exact steady_next e (.refl s)
  case frameTransmitted => exact steady_next e ⟨rfl, id, .none⟩
  case loopSilent =>
    simp only [exec, execLoopSilent] at e
    split at e
    · exact steady_next e (steady_expireTimer s)
    · exact steady_next e (.refl s)
  case read | discardCountRead => exact steady_serve e (steady_serveRead · _ _ _)
  case openTable => exact keepsTables_serve e (keepsTables_serveOpen · _)
  case loadTable => exact keepsTables_serve e (keepsTables_serveLoad · _ _ _ _)
  case closeTable => exact keepsTables_serve e (keepsTables_serveClose · _)
  case abandonTable => exact keepsTables_serve e (keepsTables_serveAbandon · _)
  case readTable => exact steady_serve e (steady_serveReadTable · _ _ _)
  case start => exact keepsTables_serve e keepsTables_serveStart
  case stop => exact steady_serve e steady_serveStop
  case learn => exact steady_serve e (steady_serveLearn · _)
  case zero => exact steady_serve e (steady_serveZero · _ _)
  case force => exact steady_serve e (steady_serveForce · _)
  case ack => exact steady_serve e (steady_serveAck · _)
  case readAlarms => exact steady_serve e (steady_serveReadAlarms · _ _)
  case reset => exact steady_serve e fun u => ⟨rfl, id, .none⟩
  case unknownCode r code =>
    simp only [exec, execUnknownCode] at e
    split at e
    · exact steady_next e (.refl s)
    · exact steady_serve e .refl
  case write | crossingFlags | pitHeading | correctionMode | speedLimit | offsetLimit | gainLimit | gainMode | gainLow
      | gainHigh | swingGear | hoistRopeK | dragRopeK | camZero | fixedItems =>
    exact steady_serve e (steady_serveWrite · _ _ _)
  case channelStale | memberAbsent | discreteStale | cmdLost | transferTimeout | shoeMismatch | shoeDisagree =>
    simp only [exec, execChannelStale, execMemberAbsent, execDiscreteStale, execCmdLost, execTransferTimeout,
      execShoeMismatch, execShoeDisagree] at e
    exact keepsTables_cycleEvent e
  case brakeDelayExpiry l group lever =>
    simp only [exec, execBrakeDelayExpiry] at e
    split at e
    · exact steady_next e (steady_arrival l 4 (steady_takeCommand l _ lever))
    · exact steady_next e (.refl s)
  case stuck | settled =>
    simp only [exec, execStuck, execSettled] at e
    exact keepsTables_sampleEvent e

theorem keepsTables_step (e : step s = .next t) : KeepsTables s t := by
  unfold step at e
  split at e
  · exact keepsTables_next e (.refl s)
  · rename_i rest _
    have taken : Steady s (s.withPending rest) := ⟨rfl, id, .none⟩
    exact taken.keeps.trans (keepsTables_exec e)

end

/-- Settles O11: a step keeps the couplings of the tables, and with them those of the envelope (`keepsTables_step`). -/
theorem stepKeepsTableStates : Obligations.StepKeepsTableStates :=
  ⟨fun _ _ ok e => (keepsTables_step e).tables ok, fun _ _ tables ok e => (keepsTables_step e).envelope tables ok⟩

end Sys2Proof.Machine
end

section
/-! SUPPORT. What reports, moves of the sequencer and hand-offs do to the group records and to the part mode, step by step: groups are
stopped, cut with the whole part, held at parking, or lose their neutral-seen flag, and nothing else (R86, R93, R95, R142). -/

namespace Sys2Proof.Machine

/-- The steps of which a report, a move or a hand-off is made, as far as the groups and the part mode can tell. -/
inductive GroupWork (s : State) : State → Prop
  | none : GroupWork s s
  | apart {t u : State} (before : GroupWork s t) (groups : u.groups = t.groups) (mode : u.mgu.mode = t.mgu.mode) : GroupWork s u
  | stopped {t : State} (g : Axis) (before : GroupWork s t) : GroupWork s (t.stopGroup g)
  | cleared {t : State} (g : Axis) (before : GroupWork s t) : GroupWork s (clearNeutral t g)
  | parked {t : State} (before : GroupWork s t) : GroupWork s (holdWalk t)
  | halted {t : State} (before : GroupWork s t) : GroupWork s (haltPart t)

theorem GroupWork.trans {a b c : State} (h : GroupWork a b) (k : GroupWork b c) : GroupWork a c := by
  induction k with
  | none => exact h
  | apart _ groups mode ih => exact ih.apart groups mode
  | stopped g _ ih => exact ih.stopped g
  | cleared g _ ih => exact ih.cleared g
  | parked _ ih => exact ih.parked
  | halted _ ih => exact ih.halted

/-- What the steps keep of a group's record and the part mode together, all of them keep: STOPPING for an ACTIVE group, a neutral-seen
flag cleared, HELD for a moving group, and CUT with the part HALTED. -/
theorem GroupWork.keeps {P : Mode → Group → Prop} {s t : State} (h : GroupWork s t)
    (stop : ∀ {m r}, P m r → P m r.stop) (clear : ∀ {m r}, P m r → P m { r with neutralSeen := false })
    (hold : ∀ {m r}, r.state = .active ∨ r.state = .stopping → P m r → P m r.hold)
    (cut : ∀ {m r}, P m r → P .halted r.cutOff) (g : Axis) (k : P s.mgu.mode (s.group g)) : P t.mgu.mode (t.group g) := by
  have set (v : State) (x : Axis) (r : Group) (own : g = x → P v.mgu.mode (v.group g) → P v.mgu.mode r)
      (k : P v.mgu.mode (v.group g)) : P v.mgu.mode ((v.setGroup x r).group g) := by
    by_cases e : g = x
    · have new := own e k
      subst e
      rwa [State.setGroup_same]
    · rwa [State.setGroup_other v r e]
  induction h with
  | none => exact k
  | apart _ groups mode ih => rwa [State.group, groups, mode]
  | @stopped v x _ ih => exact set v x _ (fun e k => e ▸ stop k) ih
  | @cleared v x _ ih => exact set v x _ (fun e k => e ▸ clear k) ih
  | @parked v _ ih =>
    unfold holdWalk
    split
    · exact set v .walk _ (fun e k => by subst e; exact hold (.inl ‹_›) k) ih
    · exact set v .walk _ (fun e k => by subst e; exact hold (.inr ‹_›) k) ih
    · exact ih
    · exact ih
  | @halted v _ ih =>
    unfold haltPart
    split
    · exact ih
    · show P .halted ((v.groups.map Group.cutOff).get g)
      rw [PerAxis.get_map]
      exact cut ih

section
variable {s u : State}

/-! ### The sequencer's moves -/

theorem groupWork_stopGroups (gs : List Axis) (k : GroupWork s u) : GroupWork s (u.stopGroups gs) := by
  induction gs generalizing u with
  | nil => exact k
  | cons g gs ih => exact ih (k.stopped g)

theorem groupWork_withWsq (w : Wsq) (k : GroupWork s u) : GroupWork s (u.withWsq w) := k.apart rfl rfl

theorem groupWork_force (k : GroupWork s u) : GroupWork s (force u) := groupWork_stopGroups _ k

theorem groupWork_enterDigging (k : GroupWork s u) : GroupWork s (enterDigging u) :=
  (((groupWork_withWsq _ k).cleared .hoist).cleared .drag).cleared .swing

theorem groupWork_enterClosingDrag (k : GroupWork s u) : GroupWork s (enterClosingDrag u) := by
  have forced := groupWork_force (groupWork_withWsq { u.wsq with state := .closingDrag, command := .drag } k)
  simp only [enterClosingDrag]
  split
  · exact groupWork_enterDigging forced
  · exact forced

theorem groupWork_startClosingDrag (k : GroupWork s u) : GroupWork s (startClosingDrag u) :=
  groupWork_enterClosingDrag (groupWork_withWsq _ k)

theorem groupWork_enterOpeningWalk (k : GroupWork s u) : GroupWork s (enterOpeningWalk u) := by
  have forced := groupWork_force (groupWork_withWsq { u.wsq with state := .openingWalk, command := .none, transfer := 0 } k)
  simp only [enterOpeningWalk]
  split
  · exact groupWork_enterClosingDrag forced
  · exact forced

theorem groupWork_enterWalkReady (k : GroupWork s u) : GroupWork s (enterWalkReady u).1 :=
  groupWork_force (groupWork_withWsq _ k)

theorem groupWork_readyFromClosing (k : GroupWork s u) : GroupWork s (readyFromClosing u).1 :=
  (groupWork_enterWalkReady k).cleared .walk

theorem groupWork_enterClosingWalk (k : GroupWork s u) : GroupWork s (enterClosingWalk u).1 := by
  have forced := groupWork_force (groupWork_withWsq { u.wsq with state := .closingWalk, command := .walk } k)
  simp only [enterClosingWalk]
  split
  · exact groupWork_readyFromClosing forced
  · exact forced

theorem groupWork_beginReturn (k : GroupWork s u) : GroupWork s (beginReturn u).1 := by
  simp only [beginReturn]
  split
  · exact groupWork_enterOpeningWalk (k.apart rfl rfl)
  · exact groupWork_enterOpeningWalk (k.apart rfl rfl)

theorem groupWork_openDrag (k : GroupWork s u) : GroupWork s (openDrag u).1 := by
  have opened := groupWork_withWsq { u.wsq with command := .none } k
  simp only [openDrag]
  split
  · exact groupWork_enterClosingWalk opened
  · exact opened

theorem groupWork_endOffPark (k : GroupWork s u) : GroupWork s (endOffPark u).1 := by
  have ready := groupWork_enterWalkReady k
  simp only [endOffPark]
  split
  · split
    · exact groupWork_withWsq _ ready
    · exact groupWork_beginReturn ready
  · exact ready

theorem groupWork_reactToGroups (k : GroupWork s u) : GroupWork s (reactToGroups u).1 := by
  unfold reactToGroups
  split
  · split
    · exact groupWork_openDrag k
    · exact k
  · split
    · exact groupWork_endOffPark k
    · exact k
  · split
    · exact groupWork_endOffPark k
    · exact k
  · exact k

/-! ### Reports -/

theorem groupWork_aluAct (e : Effect) (k : GroupWork s u) : GroupWork s (aluAct e u) := by
  have handed : GroupWork s (handSeverities u) := groupWork_stopGroups _ (k.apart rfl rfl)
  have stopped := groupWork_stopGroups e.stops handed
  simp only [aluAct]
  split
  · exact stopped.halted
  · exact stopped

theorem groupWork_aluTake (rs : List Report) (k : GroupWork s u) : GroupWork s (aluTake rs u) :=
  groupWork_aluAct _ (k.apart rfl rfl)

theorem groupWork_report (rs : List Report) (k : GroupWork s u) : GroupWork s (report rs u) := by
  have reacted := groupWork_reactToGroups (groupWork_aluTake rs k)
  simp only [report]
  split
  · exact reacted
  · exact groupWork_aluTake _ reacted

theorem groupWork_settleMove {m : Move} (k : GroupWork s m.1) : GroupWork s (settleMove m) := groupWork_report m.2 k

/-! ### The summary, the cam and the inputs -/

theorem groupWork_reactToSummary (k : GroupWork s u) : GroupWork s (reactToSummary u).1 := by
  unfold reactToSummary
  split
  · unfold settle
    split
    · exact groupWork_withWsq _ k
    · exact groupWork_enterWalkReady k
    · exact groupWork_startClosingDrag k
    all_goals exact k
  · split
    · exact groupWork_enterClosingWalk k
    · exact k
  · split
    · exact groupWork_readyFromClosing k
    · exact k
  · split
    · exact groupWork_enterClosingDrag k
    · exact k
  · split
    · exact groupWork_enterDigging k
    · exact k
  all_goals exact k

theorem groupWork_park (k : GroupWork s u) : GroupWork s (park u).1 := by
  have ready := groupWork_enterWalkReady k.parked
  simp only [park]
  split
  · exact groupWork_beginReturn (groupWork_withWsq _ ready)
  · exact groupWork_withWsq _ ready

theorem groupWork_takeCam (c : Int) (ch : ChanState) (k : GroupWork s u) : GroupWork s (takeCam c ch u).1 := by
  simp only [takeCam]
  split
  · exact groupWork_park (groupWork_withWsq _ k)
  · exact groupWork_withWsq _ k

theorem groupWork_takeInputs (inputs : BitVec 32) (k : GroupWork s u) : GroupWork s (takeInputs inputs u).1 := by
  simp only [takeInputs]
  split
  · exact groupWork_withWsq _ k
  · split
    · exact (groupWork_withWsq _ k).stopped .walk
    · exact groupWork_withWsq _ k

/-! ### CAB -/

theorem groupWork_digEdge (k : GroupWork s u) : GroupWork s (digEdge u).1 := by
  unfold digEdge
  split
  case h_5 => exact groupWork_startClosingDrag k
  case h_6 | h_7 => exact groupWork_enterOpeningWalk k
  case h_8 =>
    split
    · exact k
    · exact groupWork_beginReturn k
  case h_9 | h_10 => exact groupWork_withWsq _ k
  all_goals exact k

theorem groupWork_walkRequest (k : GroupWork s u) : GroupWork s (walkRequest u).1 := by
  simp only [walkRequest]
  split
  · exact k
  · split
    · exact groupWork_openDrag (groupWork_force (groupWork_withWsq _ k))
    · exact groupWork_force (groupWork_withWsq _ k)

theorem groupWork_walkEdge (k : GroupWork s u) : GroupWork s (walkEdge u).1 := by
  unfold walkEdge
  split
  · exact groupWork_walkRequest k
  · exact groupWork_withWsq _ k
  · exact groupWork_withWsq _ k
  · exact k

theorem groupWork_takeSelector (sel : Selector) (k : GroupWork s u) : GroupWork s (takeSelector sel u).1 := by
  have held := groupWork_withWsq { u.wsq with selector := some sel } k
  simp only [takeSelector]
  split
  · exact groupWork_walkEdge held
  · exact groupWork_digEdge held
  · exact held

theorem groupWork_takeConfirm (pressed : Bool) (k : GroupWork s u) : GroupWork s (takeConfirm pressed u) := by
  simp only [takeConfirm]
  split
  · exact groupWork_report _ (k.apart rfl rfl)
  · exact k.apart rfl rfl

theorem groupWork_acknowledged (ns : List Nat) (k : GroupWork s u) : GroupWork s (acknowledged ns u) :=
  groupWork_report [] (k.apart rfl rfl)

theorem groupWork_takeAckPush (pressed : Bool) (k : GroupWork s u) : GroupWork s (takeAckPush pressed u) := by
  simp only [takeAckPush]
  split
  · exact groupWork_acknowledged _ (k.apart rfl rfl)
  · exact k.apart rfl rfl

/-! ### The position unit -/

theorem groupWork_updateAxis (a : Axis) (c : HrCause) (k : GroupWork s u) : GroupWork s (updateAxis a c u) := by
  cases a
  case hoist | drag => exact groupWork_report _ (k.apart rfl rfl)
  case swing => exact groupWork_report _ (groupWork_report _ (k.apart rfl rfl))
  case walk => exact groupWork_settleMove (groupWork_takeCam _ _ (k.apart rfl rfl))

theorem groupWork_handOff (a : Axis) (recovered : Bool) (k : GroupWork s u) : GroupWork s (handOff a recovered u) :=
  groupWork_updateAxis a .movement (k.apart rfl rfl)

theorem groupWork_zeroAxis (a : Axis) (v : Int) (k : GroupWork s u) : GroupWork s (zeroAxis a v u) := by
  cases a
  case hoist => exact groupWork_updateAxis .hoist .datum (k.apart rfl rfl)
  case drag => exact groupWork_updateAxis .drag .datum (k.apart rfl rfl)
  case swing => exact groupWork_updateAxis .swing .datum (k.apart rfl rfl)
  case walk => exact groupWork_updateAxis .walk .datum (k.apart rfl rfl)

theorem groupWork_takeMark (i : BitVec 32) (d : Drive) (k : GroupWork s u) : GroupWork s (takeMark i u d) := by
  simp only [takeMark]
  split
  · exact groupWork_zeroAxis d.axis _ (k.apart rfl rfl)
  · exact k.apart rfl rfl

theorem groupWork_takeMarks (i : BitVec 32) (k : GroupWork s u) : GroupWork s (takeMarks i u) :=
  groupWork_takeMark i .swing (groupWork_takeMark i .drag (groupWork_takeMark i .hoist k))

/-! ### The drive group unit and the marker -/

theorem groupWork_handDrives (extra : List Report) (k : GroupWork s u) : GroupWork s (handDrives extra u) := by
  have handed : GroupWork s ((u.withDgu u.dgu.recompute).withSwu
      { u.swu with heldTorque := u.dgu.recompute.values.hoist.torque }) := k.apart rfl rfl
  simp only [handDrives]
  refine groupWork_report _ ?_
  split
  · exact handed
  · exact groupWork_settleMove (groupWork_reactToSummary handed)

theorem groupWork_takeNumber (number : Word) (k : GroupWork s u) : GroupWork s (takeNumber number u) := by
  simp only [takeNumber]
  split
  · exact groupWork_report _ (k.apart rfl rfl)
  · exact k.apart rfl rfl

theorem groupWork_channelMarker (a : Axis) (k : GroupWork s u) : GroupWork s (channelMarker u a) := by
  simp only [channelMarker]
  split
  · split
    · exact groupWork_report _ (k.apart rfl rfl)
    · exact groupWork_handOff a false (groupWork_report _ (k.apart rfl rfl))
  · exact k.apart rfl rfl

theorem groupWork_channelMarkers (as : List Axis) (k : GroupWork s u) : GroupWork s (as.foldl channelMarker u) := by
  induction as generalizing u with
  | nil => exact k
  | cons a as ih => exact ih (groupWork_channelMarker a k)

theorem groupWork_driveMarker (k : GroupWork s u) : GroupWork s (driveMarker u) := by
  rw [driveMarker_eq]
  exact groupWork_handDrives _ (k.apart rfl rfl)

theorem groupWork_transferMarker (k : GroupWork s u) : GroupWork s (transferMarker u).1 := by
  have counted := groupWork_withWsq { u.wsq with transfer := 0 } k
  simp only [transferMarker]
  split
  · split
    · split
      · exact groupWork_startClosingDrag counted
      · exact groupWork_enterOpeningWalk counted
      · exact groupWork_force (groupWork_withWsq _ counted)
    · exact groupWork_withWsq _ k
  · exact k

theorem groupWork_shoeMarker (k : GroupWork s u) : GroupWork s (shoeMarker u).1 := by
  simp only [shoeMarker]
  split
  · exact groupWork_withWsq _ k
  · exact k

theorem groupWork_seqMarker (k : GroupWork s u) : GroupWork s (seqMarker u) :=
  groupWork_report _ (groupWork_shoeMarker (groupWork_transferMarker k))

theorem groupWork_offerForwarded (bs : Bytes) (k : GroupWork s u) : GroupWork s (offerForwarded bs u) := by
  rw [offerForwarded_lpu]
  exact k.apart rfl rfl

theorem groupWork_offerInserted (bs : Bytes) (k : GroupWork s u) : GroupWork s (offerInserted bs u) := by
  rw [offerInserted_lpu]
  exact k.apart rfl rfl

theorem groupWork_offerState (k : GroupWork s u) : GroupWork s (offerState u) := by
  have offered := groupWork_offerInserted (stateFrame u) k
  simp only [offerState]
  split
  · exact offered.apart rfl rfl
  · exact offered

/-! ### Tables -/

theorem groupWork_enteredLive (i : TableId) (old : Table) (k : GroupWork s u) : GroupWork s (enteredLive i old u) := by
  cases i
  case t6 | t10 => exact groupWork_report _ (k.apart rfl rfl)
  case t8 =>
    simp only [enteredLive, camTableChanged]
    split <;> exact k.apart rfl rfl
  case t9 => exact groupWork_handDrives [] (k.apart rfl rfl)
  all_goals exact k.apart rfl rfl

theorem groupWork_leftLive (i : TableId) (old : Table) (k : GroupWork s u) : GroupWork s (leftLive i old u) := by
  cases i
  case t6 => exact groupWork_enteredLive .t6 old k
  case t8 => exact groupWork_enteredLive .t8 old k
  case t10 => exact groupWork_enteredLive .t10 old k
  all_goals exact k.apart rfl rfl

theorem groupWork_dropTable (i : TableId) (new : Table) (k : GroupWork s u) : GroupWork s (dropTable i new u) := by
  simp only [dropTable]
  split
  · exact groupWork_leftLive i _ (k.apart rfl rfl)
  · exact k.apart rfl rfl

theorem groupWork_dropT0With (i : TableId) (k : GroupWork s u) : GroupWork s (dropT0With i u) := by
  unfold dropT0With
  split
  · exact groupWork_dropTable _ _ k
  · exact k

theorem groupWork_abandonMembers (i : TableId) (k : GroupWork s u) : GroupWork s (abandonMembers i u) := by
  cases i
  case t9 =>
    simp only [abandonMembers, emptyT9]
    exact groupWork_handDrives [] (k.apart rfl rfl)
  all_goals exact k

end

end Sys2Proof.Machine
end

section
/-! Every command keeps the group states consistent with rest, HALTED and RUN (R86, R91, R93, R95): the steps of `GroupWork`, the
shapers' own work on a group, START, STOP and the resets, then the whole dispatch, and from it O5. -/

namespace Sys2Proof.Machine

/-! ### One group in a part mode -/

/-- A group's record is consistent with rest and with the part mode (R86, R91, R93, R95). -/
structure GroupFits (mode : Mode) (r : Group) : Prop where
  rest : r.state = .held ∨ r.state = .cut → r.q = 0
  halted : mode = .halted → r.state = .cut
  active : r.state = .active → mode = .run

theorem groupsOk_iff (s : State) : GroupsOk s ↔ ∀ g, GroupFits s.mgu.mode (s.group g) :=
  ⟨fun ⟨rest, halted, active⟩ g => ⟨rest g, (halted · g), active g⟩,
    fun fit => ⟨fun g => (fit g).rest, fun mode g => (fit g).halted mode, fun g => (fit g).active⟩⟩

section
variable {mode : Mode} {r : Group}

theorem groupFits_stop (fit : GroupFits mode r) : GroupFits mode r.stop := by
  unfold Group.stop
  split
  · rename_i active
    exact ⟨nofun, fun halted => absurd (fit.halted halted) (by rw [active]; decide), nofun⟩
  · exact fit

theorem groupFits_clear (fit : GroupFits mode r) : GroupFits mode { r with neutralSeen := false } :=
  ⟨fit.rest, fit.halted, fit.active⟩

theorem groupFits_cutOff (mode : Mode) (r : Group) : GroupFits mode r.cutOff := ⟨fun _ => rfl, fun _ => rfl, nofun⟩

theorem groupFits_hold (outside : mode ≠ .halted) (r : Group) : GroupFits mode r.hold :=
  ⟨fun _ => rfl, fun halted => absurd halted outside, nofun⟩

/-- A record with the same state and Q fits as well. -/
theorem groupFits_of_same {r' : Group} (fit : GroupFits mode r) (state : r'.state = r.state) (q : r'.q = r.q) :
    GroupFits mode r' :=
  ⟨by rw [state, q]; exact fit.rest, by rw [state]; exact fit.halted, by rw [state]; exact fit.active⟩

end

/-! ### Updates of the device -/

section
variable {s : State}

theorem groupsOk_of_same {t : State} (groups : t.groups = s.groups) (mode : t.mgu.mode = s.mgu.mode) (ok : GroupsOk s) :
    GroupsOk t := by
  rw [groupsOk_iff] at *
  intro g
  rw [State.group, groups, mode]
  exact ok g

theorem groupsOk_setGroup (g : Axis) {r : Group} (ok : GroupsOk s) (fit : GroupFits s.mgu.mode r) : GroupsOk (s.setGroup g r) := by
  rw [groupsOk_iff] at *
  intro x
  by_cases e : x = g
  · subst e; rwa [State.setGroup_same]
  · rw [State.setGroup_other s r e]; exact ok x

theorem GroupsOk.fits (ok : GroupsOk s) (g : Axis) : GroupFits s.mgu.mode (s.group g) := (groupsOk_iff s).1 ok g

theorem groupsOk_stopGroup (g : Axis) (ok : GroupsOk s) : GroupsOk (s.stopGroup g) :=
  groupsOk_setGroup g ok (groupFits_stop (ok.fits g))

/-- Reports, moves and hand-offs keep the group states. -/
theorem GroupWork.groupsOk {t : State} (h : GroupWork s t) (ok : GroupsOk s) : GroupsOk t :=
  (groupsOk_iff t).2 fun g => h.keeps (P := GroupFits) groupFits_stop groupFits_clear
    (fun moving fit => groupFits_hold (fun halted => by simp [fit.halted halted] at moving) _) (fun _ => groupFits_cutOff _ _) g (ok.fits g)

/-! ### The shapers -/

theorem groupsOk_setLastLever (g : Axis) (v : Option Int) (ok : GroupsOk s) : GroupsOk (setLastLever g v s) :=
  groupsOk_of_same (s := s.setGroup g { s.group g with lastLever := v }) rfl rfl
    (groupsOk_setGroup g ok (groupFits_of_same (ok.fits g) rfl rfl))

theorem groupsOk_lossMarker (g : Axis) (ok : GroupsOk s) : GroupsOk (lossMarker g s) := by
  have counted := groupsOk_setGroup g (r := { s.group g with loss := lossNext (s.group g), note := false }) ok
    (groupFits_of_same (ok.fits g) rfl rfl)
  simp only [lossMarker]
  split
  · exact (groupWork_report _ .none).groupsOk (groupsOk_stopGroup g (groupsOk_setLastLever g none counted))
  · exact counted

theorem groupsOk_lossMarkers (gs : List Axis) (ok : GroupsOk s) : GroupsOk (gs.foldl (fun s g => lossMarker g s) s) := by
  induction gs generalizing s with
  | nil => exact ok
  | cons g gs ih => exact ih (groupsOk_lossMarker g ok)

theorem groupsOk_commandArrives (g : Axis) (ok : GroupsOk s) : GroupsOk (commandArrives g s) := by
  have noted := groupsOk_setGroup g (r := { s.group g with note := true, loss := 0 }) ok
    (groupFits_of_same (ok.fits g) rfl rfl)
  simp only [commandArrives]
  split
  · exact (groupWork_report _ .none).groupsOk noted
  · exact noted

theorem groupsOk_takeLever (g : Axis) (v : Int) (ok : GroupsOk s) : GroupsOk (takeLever g v s) := by
  have taken := groupsOk_setLastLever g (some v) ok
  simp only [takeLever]
  split
  · exact groupsOk_setGroup g taken (groupFits_of_same (taken.fits g) rfl rfl)
  · exact taken

/-- A group becomes ACTIVE in RUN alone (R91). -/
theorem groupsOk_tryActivate (g : Axis) (v : Int) (ok : GroupsOk s) : GroupsOk (tryActivate g v s) := by
  unfold tryActivate
  split
  · rename_i passes
    have run : s.mgu.mode = .run := by simp only [activates, Bool.and_eq_true, beq_iff_eq] at passes; tauto
    have fit : GroupFits s.mgu.mode { s.group g with state := .active, idle := 0 } :=
      ⟨nofun, fun halted => absurd (run.symm.trans halted) (by decide), fun _ => run⟩
    have active := groupsOk_setGroup g ok fit
    unfold activate
    cases g
    case walk => exact groupsOk_of_same (s := s.setGroup .walk _) rfl rfl active
    all_goals exact active
  · exact ok

theorem groupsOk_walkLever (v : Int) (ok : GroupsOk s) : GroupsOk (walkLever v s) := by
  simp only [walkLever]
  split
  · split
    · split
      · exact (groupWork_settleMove (groupWork_park (groupWork_withWsq _ .none))).groupsOk ok
      · exact ok
    · exact ok
  · exact ok

/-- A STOPPING group's frame ends in HELD with Q at 0, or leaves it STOPPING (R94). -/
theorem groupFits_stopFrame (g : Axis) (ok : GroupsOk s) (stopping : (s.group g).state = .stopping) :
    GroupFits s.mgu.mode (stopFrame g s) := by
  have outside : s.mgu.mode ≠ .halted := fun halted => absurd (stopping.symm.trans ((ok.fits g).halted halted)) (by decide)
  rcases stopFrame_cases g s with ⟨-, e⟩ | ⟨-, e⟩ <;> rw [e]
  · exact groupFits_hold outside _
  · exact ⟨by simp [stopping], fun halted => absurd halted outside, by simp [stopping]⟩

theorem groupFits_endFrame (g : Axis) (v : Int) (ok : GroupsOk s) : GroupFits s.mgu.mode (endFrame g v s) := by
  refine groupFits_of_same (r := { endFrame g v s with tightline := (s.group g).tightline }) ?_ rfl rfl
  simp only [endFrame]
  split
  · rename_i active
    have run := (ok.fits g).active active
    split
    · exact groupFits_of_same (groupFits_hold (by rw [run]; decide) (s.group g)) rfl rfl
    · exact ⟨by simp [active], by simp [run], fun _ => run⟩
  · rename_i stopping
    exact groupFits_of_same (groupFits_stopFrame g ok stopping) rfl rfl
  · exact groupFits_of_same (ok.fits g) rfl rfl
  · exact groupFits_of_same (ok.fits g) rfl rfl

theorem groupsOk_recordCaps (g : Axis) (ok : GroupsOk s) : GroupsOk (recordCaps g s) := by
  unfold recordCaps
  split <;> exact ok

theorem groupsOk_shapeRest (g : Axis) (v : Int) (ok : GroupsOk s) : GroupsOk (shapeRest g v s).state := by
  have recorded := groupsOk_recordCaps g ok
  exact groupsOk_setGroup g recorded (groupFits_of_same (groupFits_endFrame g v recorded) rfl rfl)

theorem groupsOk_shapeOwn (g : Axis) (v : Int) (ok : GroupsOk s) : GroupsOk (shapeOwn g v s).state := by
  have active := groupsOk_tryActivate g v ok
  cases g
  case hoist => exact groupsOk_shapeRest .hoist v active
  case drag => exact groupsOk_shapeRest .drag v active
  case swing => exact groupsOk_shapeRest .swing v (s := glideSwing _) active
  case walk => exact groupsOk_shapeRest .walk v (groupsOk_walkLever v active)

theorem groupsOk_shapeWalk (ok : GroupsOk s) : GroupsOk (shapeWalk s).state := by
  refine groupsOk_setGroup .drag ok (groupFits_of_same (r := walkFrame s) ?_ rfl rfl)
  by_cases stopping : (s.group .drag).state = .stopping
  · simp only [walkFrame, stopping]
    exact groupFits_stopFrame .drag ok stopping
  · rw [walkFrame_rest s stopping]
    exact ok.fits .drag

theorem groupsOk_shape (g : Axis) (lever : Word) (ok : GroupsOk s) : GroupsOk (shape g lever s).state := by
  have taken := groupsOk_takeLever g (frameLever g lever s) (groupsOk_commandArrives g ok)
  simp only [shape]
  split
  · exact groupsOk_shapeWalk taken
  · exact groupsOk_shapeOwn g _ taken

/-! ### Frames and the marker -/

theorem groupsOk_takeCommand (group lever : Word) (l : Link) (ok : GroupsOk s) : GroupsOk (takeCommand l group lever s) := by
  unfold takeCommand
  split
  · exact (groupWork_offerForwarded _ (groupWork_report _ .none)).groupsOk (groupsOk_shape _ lever ok)
  · exact (groupWork_offerForwarded _ .none).groupsOk ok

theorem groupsOk_withSwu (x : Swu) (ok : GroupsOk s) : GroupsOk (s.withSwu x) := ok

theorem groupsOk_takeCycle (l : Link) (number : Word) (ok : GroupsOk s) : GroupsOk (takeCycle l number s) := by
  have driven := (groupWork_driveMarker (groupWork_channelMarkers Axis.all (groupWork_takeNumber number .none))).groupsOk ok
  have marked : GroupsOk (markBeforeSeq number s) := by
    simp only [markBeforeSeq]
    exact groupsOk_withSwu _ (groupsOk_lossMarkers Axis.all driven)
  simp only [takeCycle]
  exact (groupWork_offerState (groupWork_offerForwarded _ (groupWork_seqMarker .none))).groupsOk marked

/-- A reset edge takes every group to HELD and the part to STANDBY together (R95, R183). -/
theorem groupsOk_takeResetPush (pressed : Bool) (ok : GroupsOk s) : GroupsOk (takeResetPush pressed s) := by
  simp only [takeResetPush]
  split
  · refine (groupsOk_iff _).2 fun g => ?_
    show GroupFits .standby ((s.groups.map Group.hold).get g)
    rw [PerAxis.get_map]
    exact groupFits_hold (by decide) _
  · exact ok

theorem groupsOk_takeCab (selector pushes : Word) (ok : GroupsOk s) : GroupsOk (takeCab selector pushes s) :=
  groupsOk_takeResetPush _ ((groupWork_takeAckPush _ (groupWork_settleMove (groupWork_takeSelector _
    (groupWork_takeConfirm _ .none)))).groupsOk ok)

theorem groupsOk_takeSampleFrame (src : Byte) (d : SampleData) (ok : GroupsOk s) : GroupsOk (takeSampleFrame src d s) := by
  simp only [takeSampleFrame]
  split
  · exact ok
  · split
    · exact ok
    · exact (groupWork_handOff _ _ (groupWork_report _ (.apart .none rfl rfl))).groupsOk ok

theorem groupsOk_takeDiscreteFrame (src : Byte) (low high : Word) (ok : GroupsOk s) :
    GroupsOk (takeDiscreteFrame src low high s) := by
  simp only [takeDiscreteFrame, takeDiscrete]
  split
  · exact (groupWork_report _ (groupWork_takeMarks _ (groupWork_settleMove (groupWork_takeInputs _
      (.apart .none rfl rfl))))).groupsOk ok
  · exact ok

theorem groupsOk_takeDriveStatus (src : Nat) (x : DriveData) (ok : GroupsOk s) : GroupsOk (takeDriveStatus src x s) := by
  simp only [takeDriveStatus]
  split
  · exact (groupWork_handDrives [] (.apart .none rfl rfl)).groupsOk ok
  · exact ok

theorem groupsOk_takeBad (reason : Nat) (bs : Bytes) (ok : GroupsOk s) : GroupsOk (takeBad reason bs s) := by
  simp only [takeBad]
  refine (groupWork_offerForwarded _ (groupWork_report _ .none)).groupsOk ?_
  split <;> exact ok

theorem groupsOk_expireTimer (ok : GroupsOk s) : GroupsOk (expireTimer s) := by
  simp only [expireTimer]
  split
  · exact ok
  · exact (groupWork_report _ (.apart .none rfl rfl)).groupsOk ok

theorem groupsOk_completeReset (straps : BitVec 5) (ok : GroupsOk s) : GroupsOk (completeReset straps s) := by
  simp only [completeReset]
  split <;> exact ok

/-- A reset leaves every group HELD with Q at 0 and the part in STANDBY, and the owners' reports keep that (R86, R179, R190). -/
theorem groupsOk_afterReset {t : State} (groups : t.groups = .all .reset) (mode : t.mgu.mode = .standby) :
    GroupsOk (ownersReport t) := by
  have fresh : GroupsOk t := (groupsOk_iff t).2 fun g => by
    rw [State.group, groups, mode, PerAxis.get_all]
    exact ⟨fun _ => rfl, nofun, nofun⟩
  unfold ownersReport
  split <;> exact (groupWork_report _ (groupWork_report _ .none)).groupsOk fresh

/-! ### Requests -/

theorem groupsOk_serveOpen (table : Word) (ok : GroupsOk s) : GroupsOk (serveOpen table s).state := by
  unfold serveOpen
  split
  · exact ok
  · split
    · exact ok
    · split
      · exact ok
      · exact (groupWork_dropTable _ _ (groupWork_dropT0With _ .none)).groupsOk ok

theorem groupsOk_serveAbandon (table : Word) (ok : GroupsOk s) : GroupsOk (serveAbandon table s).state := by
  unfold serveAbandon
  split
  · exact ok
  · split
    · exact ok
    · exact (groupWork_abandonMembers _ (groupWork_dropTable _ _ (groupWork_dropT0With _ .none))).groupsOk ok

theorem groupsOk_serveClose (table : Word) (ok : GroupsOk s) : GroupsOk (serveClose table s).state := by
  unfold serveClose
  split
  · exact ok
  · split
    · exact ok
    · split
      · exact ok
      · split
        · exact ok
        · exact (groupWork_enteredLive _ _ (.apart .none rfl rfl)).groupsOk ok

theorem groupsOk_serveLoad (table first : Word) (mode : Byte) (words : List Word) (ok : GroupsOk s) :
    GroupsOk (serveLoad table first mode words s).state := by
  unfold serveLoad
  split
  · exact ok
  · split
    · exact ok
    · split
      · exact ok
      · split
        · exact ok
        · simp only
          split <;> exact ok

theorem groupsOk_serveReadTable (table first : Word) (count : Byte) (ok : GroupsOk s) :
    GroupsOk (serveReadTable table first count s).state := by
  unfold serveReadTable
  split
  · exact ok
  · simp only
    split <;> exact ok

theorem groupsOk_serveRead (item index : Word) (count : Byte) (ok : GroupsOk s) :
    GroupsOk (serveRead item index count s).state := by
  simp only [serveRead]
  split
  · exact ok
  · split
    · exact ok
    · simp only
      split <;> exact ok

/-- A part that starts was in STANDBY, where no group is ACTIVE (R180). -/
theorem groupsOk_serveStart (ok : GroupsOk s) : GroupsOk (serveStart s).state := by
  unfold serveStart
  split
  · exact ok
  · exact ok
  · split
    · exact ok
    · exact (groupsOk_iff _).2 fun g => ⟨(ok.fits g).rest, nofun, fun _ => rfl⟩

/-- STOP stops every ACTIVE group as it ends RUN (R93, R181). -/
theorem groupsOk_serveStop (ok : GroupsOk s) : GroupsOk (serveStop s).state := by
  unfold serveStop
  split
  · refine (groupsOk_iff _).2 fun g => ?_
    have stopped : (enterStandby s).group g = (s.group g).stop := (stopGroups_group Axis.all _ g).trans (if_pos (Axis.mem_all g))
    have mode : (enterStandby s).mgu.mode = .standby := by
      obtain ⟨p, e⟩ := stopGroups_eq Axis.all (s.withMgu { s.mgu with mode := .standby })
      rw [enterStandby, e]
      rfl
    rw [stopped, mode]
    exact ⟨(groupFits_stop (ok.fits g)).rest, nofun, fun active => absurd active (stop_not_active _)⟩
  · exact ok
  · exact ok

theorem groupsOk_serveLearn (channel : Word) (ok : GroupsOk s) : GroupsOk (serveLearn channel s).state := by
  unfold serveLearn
  split
  · exact ok
  · split <;> exact ok

theorem groupsOk_serveZero (channel : Word) (values : List Word) (ok : GroupsOk s) :
    GroupsOk (serveZero channel values s).state := by
  unfold serveZero
  split
  · exact ok
  · split
    · exact ok
    · split
      · exact ok
      · split
        · exact ok
        · exact (groupWork_zeroAxis _ _ .none).groupsOk ok

theorem groupsOk_serveForce (condition : Word) (ok : GroupsOk s) : GroupsOk (serveForce condition s).state := by
  simp only [serveForce]
  split
  · exact ok
  · split
    · exact ok
    · exact ok
    · split
      · exact ok
      · exact (groupWork_settleMove (groupWork_reactToGroups (groupWork_aluAct _ (.apart .none rfl rfl)))).groupsOk ok

theorem groupsOk_acknowledged (ns : List Nat) (ok : GroupsOk s) : GroupsOk (acknowledged ns s) :=
  (groupWork_acknowledged ns .none).groupsOk ok

theorem groupsOk_serveAck (target : Word) (ok : GroupsOk s) : GroupsOk (serveAck target s).state := by
  simp only [serveAck]
  split
  · exact groupsOk_acknowledged _ ok
  · split
    · exact groupsOk_acknowledged _ ok
    · exact ok

theorem groupsOk_serveReadAlarms (position : Word) (count : Byte) (ok : GroupsOk s) :
    GroupsOk (serveReadAlarms position count s).state := by
  simp only [serveReadAlarms]
  split
  · exact ok
  · simp only
    split
    · exact ok
    · exact groupsOk_acknowledged _ ok

/-! ### Writes -/

/-- Whatever item it writes, a WRITE reaches the groups through the recomputes of the POS and through reports alone (R186). -/
theorem groupWork_writeItem (sc : Scope) (n index : Nat) (w : Word) (s : State) : GroupWork s (writeItem sc n index w s).1 := by
  have part : GroupWork s (writePart n w s).1 := by
    simp only [writePart]
    split
    case h_4 =>
      simp only [setSwingGear]
      split
      · exact .none
      · exact groupWork_updateAxis .swing .datum (.apart .none rfl rfl)
    case h_5 =>
      simp only [setRopeK]
      split
      · exact .none
      · exact groupWork_updateAxis .hoist .datum (.apart .none rfl rfl)
    case h_6 =>
      simp only [setRopeK]
      split
      · exact .none
      · exact groupWork_updateAxis .drag .datum (.apart .none rfl rfl)
    case h_10 => exact groupWork_updateAxis .walk .datum (.apart .none rfl rfl)
    case h_11 => exact groupWork_updateAxis .swing .datum (groupWork_report _ (.apart .none rfl rfl))
    all_goals exact .apart .none rfl rfl
  have channel (a : Axis) : GroupWork s (writeChannel n a w s).1 := by
    have fixed (it : ChannelItems) : GroupWork s (applyFixed a it s) := by
      rw [applyFixed_eq]
      exact .apart .none rfl rfl
    simp only [writeChannel]
    split
    case h_5 | h_6 | h_7 => exact fixed _
    case h_11 => exact groupWork_report _ (.apart .none rfl rfl)
    case h_12 =>
      rw [applyGainMode_eq]
      exact .apart .none rfl rfl
    all_goals exact .apart .none rfl rfl
  have group (g : Axis) : GroupWork s (writeGroup n g w s).1 := by
    simp only [writeGroup]
    split <;> exact .apart .none rfl rfl
  unfold writeItem
  split
  · exact part
  · split
    · exact channel _
    · exact .none
  · split
    · exact group _
    · exact .none
  all_goals exact .none

theorem groupsOk_serveWrite (item index : Word) (values : List Word) (ok : GroupsOk s) :
    GroupsOk (serveWrite item index values s).state := by
  unfold serveWrite
  split
  · exact ok
  · split
    · exact ok
    · split
      · split
        · exact ok
        · exact (groupWork_writeItem _ _ _ _ s).groupsOk ok
      · exact ok

end

/-! ### Every command -/

section
variable {s t : State}

theorem groupsOk_next {u : State} (e : (.next u : Result) = .next t) (ok : GroupsOk u) : GroupsOk t :=
  Host.Outcome.next.inj e ▸ ok

theorem groupsOk_arrival {body : State → State} (l : Link) (size : Nat) (h : ∀ u, GroupsOk u → GroupsOk (body u))
    (ok : GroupsOk s) : GroupsOk (arrival l size body s) := by
  unfold arrival
  split
  · exact h _ ok
  · exact ok

theorem groupsOk_delivered {body : State → State} (kind : Byte) (l : Link) (ws : List Word)
    (h : ∀ u, GroupsOk u → GroupsOk (body u)) (ok : GroupsOk s) : GroupsOk (delivered kind l ws body s) :=
  groupsOk_arrival l _ (fun u k => (groupWork_offerForwarded _ .none).groupsOk (h u k)) ok

theorem groupsOk_serve {r : Req} {code : Nat} {body : State → Reply} (e : serve r code body s = .next t)
    (h : ∀ u, GroupsOk u → GroupsOk (body u).state) (ok : GroupsOk s) : GroupsOk t := by
  unfold serve at e
  split at e
  · exact groupsOk_next e ((groupWork_offerInserted _ .none).groupsOk (h _ ok))
  · exact groupsOk_next e ok

theorem groupsOk_cycleEvent {due : Bool} {l : Link} {number : Word} (e : cycleEvent due l number s = .next t) (ok : GroupsOk s) :
    GroupsOk t := by
  unfold cycleEvent at e
  split at e
  · exact groupsOk_next e (groupsOk_arrival l 2 (fun _ => groupsOk_takeCycle l number) ok)
  · exact groupsOk_next e ok

theorem groupsOk_sampleEvent {due : Bool} {l : Link} {d : SampleData} (e : sampleEvent due l d s = .next t) (ok : GroupsOk s) :
    GroupsOk t := by
  unfold sampleEvent at e
  split at e
  · exact groupsOk_next e (groupsOk_delivered _ l _ (fun _ => groupsOk_takeSampleFrame l.src d) ok)
  · exact groupsOk_next e ok

/-- Every command keeps the group states. -/
theorem groupsOk_exec {c : Instr} (e : exec c s = .next t) (ok : GroupsOk s) : GroupsOk t := by
  cases c
  case powerOnReset | pinReset => exact groupsOk_next e (groupsOk_afterReset rfl rfl)
  case resetComplete straps =>
    simp only [exec, execResetComplete] at e
    split at e
    · exact groupsOk_next e (groupsOk_completeReset straps ok)
    all_goals exact groupsOk_next e ok
  case bypassStart =>
    simp only [exec, execBypassStart] at e
    split at e <;> exact groupsOk_next e ok
  case softReset =>
    simp only [exec, execSoftReset] at e
    split at e
    · exact groupsOk_next e (groupsOk_afterReset rfl rfl)
    all_goals exact groupsOk_next e ok
  case cycle l number => exact groupsOk_next e (groupsOk_arrival l 2 (fun _ => groupsOk_takeCycle l number) ok)
  case cab l selector pushes =>
    exact groupsOk_next e (groupsOk_delivered _ l _ (fun _ => groupsOk_takeCab selector pushes) ok)
  case command l group lever => exact groupsOk_next e (groupsOk_arrival l 4 (fun _ => groupsOk_takeCommand group lever l) ok)
  case sample l d => exact groupsOk_next e (groupsOk_delivered _ l _ (fun _ => groupsOk_takeSampleFrame l.src d) ok)
  case discrete l low high =>
    exact groupsOk_next e (groupsOk_delivered _ l _ (fun _ => groupsOk_takeDiscreteFrame l.src low high) ok)
  case driveStatus l d =>
    exact groupsOk_next e (groupsOk_delivered _ l _ (fun _ => groupsOk_takeDriveStatus l.src.toNat d) ok)
  case forwardedFrame bytes =>
    simp only [exec, execForwardedFrame] at e
    split at e
    · exact groupsOk_next e ((groupWork_offerForwarded _ (.apart .none rfl rfl)).groupsOk ok)
    · exact groupsOk_next e ok
  case ownFrameRemoval bytes =>
    simp only [exec, execOwnFrameRemoval] at e
    split at e <;> exact groupsOk_next e ok
  case badFrame bytes =>
    simp only [exec, execBadFrame] at e
    split at e
    · split at e
      · exact groupsOk_next e (groupsOk_takeBad _ bytes ok)
      · exact groupsOk_next e ok
    · exact groupsOk_next e ok
  case frameTransmitted => exact groupsOk_next e ok
  case loopSilent =>
    simp only [exec, execLoopSilent] at e
    split at e
    · exact groupsOk_next e (groupsOk_expireTimer ok)
    · exact groupsOk_next e ok
  case read | discardCountRead => exact groupsOk_serve e (fun _ => groupsOk_serveRead _ _ _) ok
  case openTable => exact groupsOk_serve e (fun _ => groupsOk_serveOpen _) ok
  case loadTable => exact groupsOk_serve e (fun _ => groupsOk_serveLoad _ _ _ _) ok
  case closeTable => exact groupsOk_serve e (fun _ => groupsOk_serveClose _) ok
  case abandonTable => exact groupsOk_serve e (fun _ => groupsOk_serveAbandon _) ok
  case readTable => exact groupsOk_serve e (fun _ => groupsOk_serveReadTable _ _ _) ok
  case start => exact groupsOk_serve e (fun _ => groupsOk_serveStart) ok
  case stop => exact groupsOk_serve e (fun _ => groupsOk_serveStop) ok
  case learn => exact groupsOk_serve e (fun _ => groupsOk_serveLearn _) ok
  case zero => exact groupsOk_serve e (fun _ => groupsOk_serveZero _ _) ok
  case force => exact groupsOk_serve e (fun _ => groupsOk_serveForce _) ok
  case ack => exact groupsOk_serve e (fun _ => groupsOk_serveAck _) ok
  case readAlarms => exact groupsOk_serve e (fun _ => groupsOk_serveReadAlarms _ _) ok
  case reset => exact groupsOk_serve e (fun _ => groupsOk_of_same rfl rfl) ok
  case unknownCode r code =>
    simp only [exec, execUnknownCode] at e
    split at e
    · exact groupsOk_next e ok
    · exact groupsOk_serve e (fun _ => id) ok
  case write | crossingFlags | pitHeading | correctionMode | speedLimit | offsetLimit | gainLimit | gainMode | gainLow
      | gainHigh | swingGear | hoistRopeK | dragRopeK | camZero | fixedItems =>
    exact groupsOk_serve e (fun _ => groupsOk_serveWrite _ _ _) ok
  case channelStale | memberAbsent | discreteStale | cmdLost | transferTimeout | shoeMismatch | shoeDisagree =>
    simp only [exec, execChannelStale, execMemberAbsent, execDiscreteStale, execCmdLost, execTransferTimeout,
      execShoeMismatch, execShoeDisagree] at e
    exact groupsOk_cycleEvent e ok
  case brakeDelayExpiry l group lever =>
    simp only [exec, execBrakeDelayExpiry] at e
    split at e
    · exact groupsOk_next e (groupsOk_arrival l 4 (fun _ => groupsOk_takeCommand _ lever l) ok)
    · exact groupsOk_next e ok
  case stuck | settled =>
    simp only [exec, execStuck, execSettled] at e
    exact groupsOk_sampleEvent e ok

end

/-- Settles O5: the step runs its front command on the same groups and part mode, and `groupsOk_exec` says that each keeps them. -/
theorem stepKeepsGroupStates : Obligations.StepKeepsGroupStates := by
  intro s t ok e
  unfold step at e
  split at e
  · exact groupsOk_next e ok
  · rename_i rest _
    exact groupsOk_exec e (groupsOk_of_same (t := s.withPending rest) rfl rfl ok)

end Sys2Proof.Machine
end

section
/-! A marker that brings a group's loss count to the limit (R89, R93): what every other part of a marker's work leaves of the group's
loss count, lever and CMD_LOST condition, and O45. -/

namespace Sys2Proof.Machine

/-! ### What stands of a group through the other marker work -/

/-- The configuration, the marker's number, the MGU's copy of the lever and CMD_LOST of group `g` stand, and the group reacts. -/
structure LossStands (g : Axis) (s t : State) : Prop where
  items : t.items = s.items
  tables : t.tables = s.tables
  lastCycle : t.lpu.lastCycle = s.lpu.lastCycle
  length : t.alu.conds.length = s.alu.conds.length
  lever : t.mgu.lastLevers.get g = s.mgu.lastLevers.get g
  group : GroupReacts (s.group g) (t.group g)
  cond : CondKept (cCmdLost g) s t

theorem LossStands.refl (g : Axis) (s : State) : LossStands g s s := ⟨rfl, rfl, rfl, rfl, rfl, .refl _, ⟨rfl, rfl⟩⟩

theorem LossStands.trans {g : Axis} {s t u : State} (h : LossStands g s t) (k : LossStands g t u) : LossStands g s u :=
  ⟨k.items.trans h.items, k.tables.trans h.tables, k.lastCycle.trans h.lastCycle, k.length.trans h.length,
    k.lever.trans h.lever, h.group.trans k.group, h.cond.trans k.cond⟩

theorem HandsOff.lossStands {g : Axis} {s t : State} (h : HandsOff s t) (cond : CondKept (cCmdLost g) s t) : LossStands g s t :=
  ⟨h.items, h.tables, by rw [h.lpu], h.length, by rw [h.levers], h.group g, cond⟩

theorem Reacts.lossStands {s t : State} (g : Axis) (h : Reacts s t) (alu : t.alu = s.alu) : LossStands g s t :=
  (handsOff_of_reacts h alu).lossStands (condKept_of_alu alu)

theorem cCmdLost_not_position (g : Axis) : cCmdLost g ∉ positionNumbers := by cases g <;> decide
theorem cCmdLost_not_reaction (g : Axis) : cCmdLost g ∉ reactionNumbers := not_reaction (cCmdLost_not_position g)

/-- A number outside 2 to 5 is no CMD_LOST. -/
theorem ne_cCmdLost {n : Nat} (g : Axis) (h : n < 2 ∨ 5 < n) : n ≠ cCmdLost g := by
  cases g <;> simp only [cCmdLost, Axis.code] <;> omega

section
variable {g : Axis} {s u : State}

theorem lossStands_report (rs : List Report) (other : ∀ r ∈ rs, r.number ≠ cCmdLost g) (k : LossStands g s u) :
    LossStands g s (report rs u) :=
  k.trans ((handsOff_report rs u).lossStands (condKept_report rs (cCmdLost_not_reaction g) other (condKept_of_alu rfl)))

theorem lossStands_takeNumber (g : Axis) (n : Word) (s : State) :
    LossStands g (s.withLpu { s.lpu with lastCycle := n.toNat }) (takeNumber n s) := by
  simp only [takeNumber]
  split
  · exact lossStands_report _ (List.forall_mem_singleton.2 (ne_cCmdLost g (.inl (by decide)))) (.refl g _)
  · exact .refl g _

theorem lossStands_channelMarker (a : Axis) (k : LossStands g s u) : LossStands g s (channelMarker u a) := by
  have set (c : Channel) : LossStands g s (u.setChan a c) := k.trans ⟨rfl, rfl, rfl, rfl, rfl, .refl _, ⟨rfl, rfl⟩⟩
  have reported := lossStands_report (markChannel (u.chanCtx a) (u.chan a)).reports (fun r mem => by
    rcases markChannel_numbers _ _ r mem with e | e <;> rw [e]
    · exact ne_cCmdLost g (.inr (by simp only [cTrackFault]; omega))
    · exact ne_cCmdLost g (.inr (by decide))) (set (markChannel (u.chanCtx a) (u.chan a)).chan)
  simp only [channelMarker]
  split
  · split
    · exact reported
    · exact reported.trans ((handsOff_handOff a false _).lossStands
        (condKept_handOff a false (cCmdLost_not_position g) (condKept_of_alu rfl)))
  · exact set _

theorem lossStands_channelMarkers (as : List Axis) (k : LossStands g s u) : LossStands g s (as.foldl channelMarker u) := by
  induction as generalizing u with
  | nil => exact k
  | cons a as ih => exact ih (lossStands_channelMarker a k)

theorem lossStands_driveMarker (k : LossStands g s u) : LossStands g s (driveMarker u) := by
  have marked (d : Dgu) (x : Swu) : LossStands g s ((u.withDgu d).withSwu x) :=
    k.trans ⟨rfl, rfl, rfl, rfl, rfl, .refl _, ⟨rfl, rfl⟩⟩
  have others (d : Dgu) (i : Image) : ∀ r ∈ [staleReport i] ++ driveReports d, r.number ≠ cCmdLost g := by
    intro r mem
    rcases List.mem_append.1 mem with m | m
    · obtain rfl := List.mem_singleton.1 m
      exact ne_cCmdLost (n := cDiscreteStale) g (.inr (by decide))
    · exact ne_cCmdLost g (.inr (lt_of_lt_of_le (by decide) (driveReports_numbers d r m)))
  simp only [driveMarker, handDrives]
  refine lossStands_report _ (others _ _) ?_
  split
  · exact marked _ _
  · refine lossStands_report _ (fun r mem e => cCmdLost_not_reaction g (e ▸ reactToSummary_numbers _ r mem)) ?_
    exact (marked _ _).trans ((reacts_reactToSummary _).lossStands g (reactToSummary_alu _))

/-- Another group's marker work leaves this group's lever and CMD_LOST alone (R89). -/
theorem lossStands_lossMarker {h : Axis} (ne : h ≠ g) (k : LossStands g s u) : LossStands g s (lossMarker h u) := by
  have set (v : State) (r : Group) (k : LossStands g s v) : LossStands g s (v.setGroup h r) :=
    k.trans ⟨rfl, rfl, rfl, rfl, rfl, by rw [State.setGroup_other v r ne.symm]; exact .refl _, ⟨rfl, rfl⟩⟩
  have lost (v : State) (k : LossStands g s v) : LossStands g s (setLastLever h none v) :=
    (set v _ k).trans ⟨rfl, rfl, rfl, rfl, PerAxis.get_set_other _ _ ne.symm, .refl _, ⟨rfl, rfl⟩⟩
  have number : cCmdLost h ≠ cCmdLost g := by
    revert ne
    cases g <;> cases h <;> decide
  have counted := set u { u.group h with loss := lossNext (u.group h), note := false } k
  simp only [lossMarker]
  split
  · refine lossStands_report _ (List.forall_mem_singleton.2 number) ((lost _ counted).trans ?_)
    exact (reacts_stopGroup _ h).lossStands g rfl
  · exact counted

theorem lossStands_lossMarkers {hs : List Axis} (other : g ∉ hs) (k : LossStands g s u) :
    LossStands g s (hs.foldl (fun s h => lossMarker h s) u) := by
  induction hs generalizing u with
  | nil => exact k
  | cons h hs ih =>
    rw [List.mem_cons, not_or] at other
    exact ih other.2 (lossStands_lossMarker (Ne.symm other.1) k)

theorem lossStands_withSwu (x : Swu) (k : LossStands g s u) : LossStands g s (u.withSwu x) :=
  k.trans ⟨rfl, rfl, rfl, rfl, rfl, .refl _, ⟨rfl, rfl⟩⟩

theorem lossStands_seqMarker (k : LossStands g s u) : LossStands g s (seqMarker u) := by
  have moved := (k.trans ((reacts_transferMarker u).lossStands g (transferMarker_alu u))).trans
    ((reacts_shoeMarker _).lossStands g (shoeMarker_alu _))
  refine lossStands_report _ (fun r mem => ne_cCmdLost g (.inr ?_)) moved
  rcases List.mem_append.1 mem with m | m
  · rw [transferMarker_numbers _ r m]; decide
  · rcases shoeMarker_numbers _ r m with e | e <;> rw [e] <;> decide

theorem lossStands_withLpu (x : Lpu) (last : x.lastCycle = u.lpu.lastCycle) (k : LossStands g s u) :
    LossStands g s (u.withLpu x) := k.trans ⟨rfl, rfl, last, rfl, rfl, .refl _, ⟨rfl, rfl⟩⟩

theorem lossStands_offerForwarded (bs : Bytes) (k : LossStands g s u) : LossStands g s (offerForwarded bs u) := by
  rcases offerForwarded_spec bs u with ⟨-, e⟩ | ⟨-, e⟩ <;> rw [e] <;> exact lossStands_withLpu _ rfl k

theorem lossStands_offerState (k : LossStands g s u) : LossStands g s (offerState u) := by
  have offered : LossStands g s (offerInserted (stateFrame u) u) := by
    rcases offerInserted_spec (stateFrame u) u with ⟨-, e⟩ | ⟨-, e⟩ <;> rw [e] <;> exact lossStands_withLpu _ rfl k
  simp only [offerState]
  split
  · exact lossStands_withSwu _ offered
  · exact offered

end

/-- The whole marker is the loss count's marker work of group `g` between work that leaves it (R171). -/
theorem takeCycle_lossStands (l : Link) (n : Word) (g : Axis) (s : State) :
    ∃ u, LossStands g (s.withLpu { s.lpu with lastCycle := n.toNat }) u ∧ LossStands g (lossMarker g u) (takeCycle l n s) := by
  obtain ⟨pre, post, order, before, behind⟩ := axisAll_split g
  refine ⟨pre.foldl (fun s h => lossMarker h s) (driveMarker (Axis.all.foldl channelMarker (takeNumber n s))),
    lossStands_lossMarkers before (lossStands_driveMarker (lossStands_channelMarkers _ (lossStands_takeNumber g n s))), ?_⟩
  have split (v : State) : Axis.all.foldl (fun s h => lossMarker h s) v
      = post.foldl (fun s h => lossMarker h s) (lossMarker g (pre.foldl (fun s h => lossMarker h s) v)) := by
    rw [order, List.foldl_append, List.foldl_cons]
  simp only [takeCycle, markBeforeSeq, split]
  exact lossStands_offerState (lossStands_offerForwarded _ (lossStands_seqMarker
    (lossStands_withSwu _ (lossStands_lossMarkers behind (.refl g _)))))

/-! ### O45 -/

/-- The group's record and the MGU's copy of its lever as a lost command leaves them, before the report (R89, R93). -/
def commandLostAt (g : Axis) (s : State) : State :=
  (setLastLever g none (s.setGroup g { s.group g with loss := lossNext (s.group g), note := false })).stopGroup g

theorem lossMarker_eq {g : Axis} {s : State} (due : lossDue g s = true) :
    lossMarker g s = report [.level (cCmdLost g) true none] (commandLostAt g s) := if_pos due

theorem commandLostAt_group (g : Axis) (s : State) : (commandLostAt g s).group g
    = { s.group g with loss := lossNext (s.group g), note := false, lastLever := none : Group }.stop := by
  simp [commandLostAt, State.stopGroup, setLastLever_group]

theorem commandLostAt_lever (g : Axis) (s : State) : (commandLostAt g s).mgu.lastLevers.get g = none :=
  PerAxis.get_set _ _ _

/-- A marker that brings the loss count to the limit: the condition is raised, the lever absent, the group not ACTIVE (R89, R93). -/
theorem lossMarker_due {g : Axis} {s : State} (length : s.alu.conds.length = 60) (due : lossDue g s = true) :
    (lossMarker g s).alu.raised (cCmdLost g) = true ∧ (lossMarker g s).lpu = s.lpu
      ∧ ((lossMarker g s).group g).loss = lossNext (s.group g) ∧ ((lossMarker g s).group g).lastLever = none
      ∧ (lossMarker g s).mgu.lastLevers.get g = none ∧ ((lossMarker g s).group g).state ≠ .active
      ∧ ((lossMarker g s).group g).lastRef = (s.group g).lastRef := by
  have reacts := reacts_report [.level (cCmdLost g) true none] (commandLostAt g s)
  have group := reacts.group g
  have stopped := reacts_stop { s.group g with loss := lossNext (s.group g), note := false, lastLever := none }
  rw [commandLostAt_group] at group
  rw [lossMarker_eq due]
  refine ⟨?_, reacts.lpu, group.loss.trans stopped.loss, group.lastLever.trans stopped.lastLever, ?_,
    fun active => stop_not_active _ (group.active active), group.lastRef.trans stopped.lastRef⟩
  · refine (report_level [.level (cCmdLost g) true none] _ _ true none (cCmdLost_not_reaction g) ?_
      List.mem_cons_self (List.nodup_singleton _)).1
    exact lt_of_lt_of_eq (by cases g <;> decide) length.symm
  · rw [reacts.levers, commandLostAt_lever]

/-- Settles O45: `takeCycle_lossStands` reduces the marker to the group's own loss count, `lossMarker_due`. -/
theorem commandLost : Obligations.CommandLost := by
  intro l n g s h f ok note few limit fallen
  obtain ⟨u, before, behind⟩ := takeCycle_lossStands l n g (goodFrameSeen s)
  have items : u.items = s.items := before.items
  have next {r : Group} (note : r.note = false) (few : r.loss < 15) : lossNext r = r.loss + 1 := by simp [lossNext, note, satInc, few]
  have nextHere := next note few
  have nextThere : lossNext (u.group g) = (s.group g).loss + 1 :=
    (next (before.group.note.trans note) (lt_of_eq_of_lt before.group.loss few)).trans (congrArg (· + 1) before.group.loss)
  have due : lossDue g s = true := by simp [lossDue, nextHere, limit, fallen]
  have dueThere : lossDue g u = true := by
    simp [lossDue, nextThere, items, limit, before.cond.raised.trans fallen]
  have config := configKept_lossMarker g u
  obtain ⟨raised, lpu, loss, lever, levers, inactive, ref⟩ := lossMarker_due (before.length.trans ok.1) dueThere
  refine ⟨_, cycleEvent_in h f n due, behind.cond.raised.trans raised, ?_, behind.group.lastLever.trans lever,
    behind.lever.trans levers, fun active => inactive (behind.group.active active), ?_, ?_, ?_⟩
  · rw [behind.group.loss, loss, nextThere]
  · rw [behind.group.lastRef, ref, before.group.lastRef]
    rfl
  · rw [behind.lastCycle, lpu, before.lastCycle]
    rfl
  · exact ⟨behind.items.trans (config.items.trans items), behind.tables.trans (config.tables.trans before.tables)⟩

end Sys2Proof.Machine
end

section
/-! SUPPORT. A COMMAND frame's steps up to the rewrite (R88): what each leaves of the device, and the state in which the rest of the
pipeline finds its group. With them O52. -/

namespace Sys2Proof.Machine

/-! ### What the shapers keep -/

/-- What a COMMAND frame of group `g` keeps once its lever is taken: the port, the configuration, the blocks that measure, the levers, and
the note, loss count and lever of the group; the part mode stands or becomes HALTED, and the other groups react. -/
structure ShapeKept (g : Axis) (s t : State) : Prop where
  lpu : t.lpu = s.lpu
  items : t.items = s.items
  tables : t.tables = s.tables
  tru : t.tru = s.tru
  dgu : t.dgu = s.dgu
  env : t.env = s.env
  pending : t.pending = s.pending
  levers : t.mgu.lastLevers = s.mgu.lastLevers
  mode : t.mgu.mode = s.mgu.mode ∨ t.mgu.mode = .halted
  note : (t.group g).note = (s.group g).note
  loss : (t.group g).loss = (s.group g).loss
  lever : (t.group g).lastLever = (s.group g).lastLever
  other : ∀ h, h ≠ g → GroupReacts (s.group h) (t.group h)

theorem ShapeKept.refl (g : Axis) (s : State) : ShapeKept g s s :=
  ⟨rfl, rfl, rfl, rfl, rfl, rfl, rfl, rfl, .inl rfl, rfl, rfl, rfl, fun _ _ => .refl _⟩

theorem ShapeKept.trans {g : Axis} {a b c : State} (h : ShapeKept g a b) (k : ShapeKept g b c) : ShapeKept g a c where
  lpu := k.lpu.trans h.lpu
  items := k.items.trans h.items
  tables := k.tables.trans h.tables
  tru := k.tru.trans h.tru
  dgu := k.dgu.trans h.dgu
  env := k.env.trans h.env
  pending := k.pending.trans h.pending
  levers := k.levers.trans h.levers
  mode := by
    rcases k.mode with e | e
    · rcases h.mode with f | f
      · exact .inl (e.trans f)
      · exact .inr (e.trans f)
    · exact .inr e
  note := k.note.trans h.note
  loss := k.loss.trans h.loss
  lever := k.lever.trans h.lever
  other := fun x ne => (h.other x ne).trans (k.other x ne)

theorem Reacts.shapeKept {s t : State} (h : Reacts s t) (g : Axis) : ShapeKept g s t :=
  ⟨h.lpu, h.items, h.tables, h.tru, h.dgu, h.env, h.pending, h.levers, h.mode, (h.group g).note, (h.group g).loss,
    (h.group g).lastLever, fun x _ => h.group x⟩

/-- The group's own record may change in all but its note, loss count and lever. -/
theorem shapeKept_setGroup {g : Axis} {s : State} {r : Group} (note : r.note = (s.group g).note) (loss : r.loss = (s.group g).loss)
    (lever : r.lastLever = (s.group g).lastLever) : ShapeKept g s (s.setGroup g r) := by
  refine ⟨rfl, rfl, rfl, rfl, rfl, rfl, rfl, rfl, .inl rfl, ?_, ?_, ?_, fun h ne => ?_⟩
  · rwa [State.setGroup_same]
  · rwa [State.setGroup_same]
  · rwa [State.setGroup_same]
  · rw [State.setGroup_other s r ne]
    exact .refl _

theorem shapeKept_withWsq (g : Axis) (s : State) (w : Wsq) : ShapeKept g s (s.withWsq w) :=
  ⟨rfl, rfl, rfl, rfl, rfl, rfl, rfl, rfl, .inl rfl, rfl, rfl, rfl, fun _ _ => .refl _⟩

theorem shapeKept_withSwu (g : Axis) (s : State) (x : Swu) : ShapeKept g s (s.withSwu x) :=
  ⟨rfl, rfl, rfl, rfl, rfl, rfl, rfl, rfl, .inl rfl, rfl, rfl, rfl, fun _ _ => .refl _⟩

/-! ### Arrival and lever -/

/-- The note and the loss count as a delivered COMMAND frame leaves them (R88). -/
def noted (g : Axis) (s : State) : State := s.setGroup g { s.group g with note := true, loss := 0 }

/-- Beyond the note and the loss count, a frame's arrival does what the fall of CMD_LOST_x does (R88). -/
theorem reacts_commandArrives (g : Axis) (s : State) : Reacts (noted g s) (commandArrives g s) := by
  simp only [commandArrives]
  split
  · exact reacts_report _ _
  · exact .refl _

/-- The device as a COMMAND frame's lever finds its group and leaves it (R88, R90). -/
def leverTaken (g : Axis) (lever : Word) (s : State) : State := takeLever g (frameLever g lever s) (commandArrives g s)

theorem takeLever_wsq (g : Axis) (v : Int) (s : State) : (takeLever g v s).wsq = s.wsq := by
  simp only [takeLever]
  split <;> rfl

theorem takeLever_mode (g : Axis) (v : Int) (s : State) : (takeLever g v s).mgu.mode = s.mgu.mode := by
  simp only [takeLever]
  split <;> rfl

theorem takeLever_alu (g : Axis) (v : Int) (s : State) : (takeLever g v s).alu = s.alu := by
  simp only [takeLever]
  split <;> rfl

theorem leverTaken_alu (g : Axis) (lever : Word) (s : State) : (leverTaken g lever s).alu = (commandArrives g s).alu :=
  takeLever_alu g _ _

theorem leverTaken_mode (g : Axis) (lever : Word) (s : State) :
    (leverTaken g lever s).mgu.mode = s.mgu.mode ∨ (leverTaken g lever s).mgu.mode = .halted := by
  rw [leverTaken, takeLever_mode]
  exact (reacts_commandArrives g s).mode

/-! ### The rest of the pipeline -/

/-- What a group's own frame does between the lever and the caps: the activation, and the walk lever or the swing's glide (R88). -/
def beforeRest (g : Axis) (v : Int) (s : State) : State :=
  match g with
  | .walk => walkLever v (tryActivate g v s)
  | .swing => glideSwing (tryActivate g v s)
  | _ => tryActivate g v s

theorem shapeOwn_eq (g : Axis) (v : Int) (s : State) : shapeOwn g v s = shapeRest g v (beforeRest g v s) := by
  cases g <;> rfl

/-- A frame carries the walk reference, or is a frame of its group's own reference (R107). -/
theorem shape_cases (g : Axis) (lever : Word) (s : State) :
    ((g = .drag ∧ carriesWalk (leverTaken g lever s).wsq.state = true) ∧ shape g lever s = shapeWalk (leverTaken g lever s))
      ∨ (¬ (g = .drag ∧ carriesWalk (leverTaken g lever s).wsq.state = true)
        ∧ shape g lever s = shapeRest g (frameLever g lever s) (beforeRest g (frameLever g lever s) (leverTaken g lever s))) := by
  rw [← shapeOwn_eq]
  by_cases h : g = .drag ∧ carriesWalk (leverTaken g lever s).wsq.state = true
  · exact .inl ⟨h, if_pos h⟩
  · exact .inr ⟨h, if_neg h⟩

theorem shapeKept_tryActivate (g : Axis) (v : Int) (s : State) : ShapeKept g s (tryActivate g v s) := by
  have active : ShapeKept g s (s.setGroup g { s.group g with state := .active, idle := 0 }) := shapeKept_setGroup rfl rfl rfl
  unfold tryActivate
  split
  · cases g
    case walk => exact active.trans (shapeKept_withWsq _ _ _)
    all_goals exact active
  · exact .refl g s

theorem reacts_settlePark (s : State) : Reacts s (settleMove (park s)) := reacts_settleMove s _ (reacts_park s)

theorem shapeKept_walkLever (v : Int) (s : State) : ShapeKept .walk s (walkLever v s) := by
  simp only [walkLever]
  split
  · split
    · split
      · exact (shapeKept_withWsq _ _ _).trans ((reacts_settlePark _).shapeKept _)
      · exact shapeKept_withWsq _ _ _
    · exact shapeKept_withWsq _ _ _
  · exact .refl _ s

theorem shapeKept_beforeRest (g : Axis) (v : Int) (s : State) : ShapeKept g s (beforeRest g v s) := by
  have active := shapeKept_tryActivate g v s
  cases g
  case walk => exact active.trans (shapeKept_walkLever v _)
  case swing => exact active.trans (shapeKept_withSwu _ _ _)
  all_goals exact active

theorem recordCaps_group (g : Axis) (s : State) (h : Axis) : (recordCaps g s).group h = s.group h := by
  unfold recordCaps
  split <;> rfl

theorem shapeKept_recordCaps (g : Axis) (s : State) : ShapeKept g s (recordCaps g s) := by
  unfold recordCaps
  split
  · exact shapeKept_withSwu _ _ _
  · exact .refl _ _

/-- A STOPPING group's frame keeps the note, the loss count and the lever (R94). -/
theorem stopFrame_kept (g : Axis) (s : State) : (stopFrame g s).note = (s.group g).note
    ∧ (stopFrame g s).loss = (s.group g).loss ∧ (stopFrame g s).lastLever = (s.group g).lastLever := by
  rcases stopFrame_cases g s with ⟨-, e⟩ | ⟨-, e⟩ <;> rw [e] <;> exact ⟨rfl, rfl, rfl⟩

theorem endFrame_kept (g : Axis) (v : Int) (s : State) : (endFrame g v s).note = (s.group g).note
    ∧ (endFrame g v s).loss = (s.group g).loss ∧ (endFrame g v s).lastLever = (s.group g).lastLever := by
  simp only [endFrame]
  split
  · split <;> exact ⟨rfl, rfl, rfl⟩
  · exact stopFrame_kept g s
  · exact ⟨rfl, rfl, rfl⟩
  · exact ⟨rfl, rfl, rfl⟩

theorem shapeKept_shapeRest (g : Axis) (v : Int) (s : State) : ShapeKept g s (shapeRest g v s).state := by
  obtain ⟨note, loss, lever⟩ := endFrame_kept g v (recordCaps g s)
  exact (shapeKept_recordCaps g s).trans (shapeKept_setGroup note loss lever)

theorem walkFrame_kept (s : State) : (walkFrame s).note = (s.group .drag).note ∧ (walkFrame s).loss = (s.group .drag).loss
    ∧ (walkFrame s).lastLever = (s.group .drag).lastLever := by
  by_cases h : (s.group .drag).state = .stopping
  · simp only [walkFrame, h]
    exact stopFrame_kept .drag s
  · rw [walkFrame_rest s h]
    exact ⟨rfl, rfl, rfl⟩

theorem shapeKept_shapeWalk (s : State) : ShapeKept .drag s (shapeWalk s).state := by
  obtain ⟨note, loss, lever⟩ := walkFrame_kept s
  exact shapeKept_setGroup note loss lever

theorem shapeKept_shape (g : Axis) (lever : Word) (s : State) : ShapeKept g (leverTaken g lever s) (shape g lever s).state := by
  rcases shape_cases g lever s with ⟨⟨rfl, -⟩, e⟩ | ⟨-, e⟩ <;> rw [e]
  · exact shapeKept_shapeWalk _
  · exact (shapeKept_beforeRest g _ _).trans (shapeKept_shapeRest g _ _)

/-! ### O52 -/

theorem frameReference_outside_run (g : Axis) (r : Group) {s : State} (h : s.mgu.mode ≠ .run) :
    frameReference g r s = .disabled (formOf g s) := if_neg fun ⟨run, _⟩ => h run

theorem walkReference_outside_run {s : State} (h : s.mgu.mode ≠ .run) : walkReference s = .disabled s.dgu.values.drag.form :=
  if_neg fun ⟨run, _⟩ => h run

theorem shapeRest_ref_outside_run (g : Axis) (v : Int) {s : State} (h : s.mgu.mode ≠ .run) :
    ∃ f, (shapeRest g v s).ref = .disabled f := by
  refine ⟨_, frameReference_outside_run g _ (s := recordCaps g s) ?_⟩
  rcases (shapeKept_recordCaps g s).mode with e | e <;> rw [e]
  · exact h
  · decide

/-- Outside RUN a frame's reference is not enabled: no step of the pipeline enters RUN (R106). -/
theorem shape_ref_outside_run (g : Axis) (lever : Word) {s : State} (h : s.mgu.mode ≠ .run) :
    ∃ f, (shape g lever s).ref = .disabled f := by
  have outside {a b : State} (k : b.mgu.mode = a.mgu.mode ∨ b.mgu.mode = .halted) (h : a.mgu.mode ≠ .run) : b.mgu.mode ≠ .run := by
    rcases k with e | e <;> rw [e]
    · exact h
    · decide
  have taken := outside (leverTaken_mode g lever s) h
  rcases shape_cases g lever s with ⟨-, e⟩ | ⟨-, e⟩ <;> rw [e]
  · exact ⟨_, walkReference_outside_run taken⟩
  · exact shapeRest_ref_outside_run g _ (outside (shapeKept_beforeRest g _ _).mode taken)

/-- Settles O52: outside RUN the reference is the disabled one, whose words are these. -/
theorem disabledOutsideRun : Obligations.DisabledOutsideRun := by
  intro g lever s outside
  obtain ⟨f, e⟩ := shape_ref_outside_run g lever outside
  refine ⟨packBytes g.code 0, _, by rw [e]; rfl, ?_⟩
  cases g <;> rfl

end Sys2Proof.Machine
end

section
/-! Caps, ramp and pullback (R98 to R101, R104, R115 to R118, R140): caps are not negative, a clipped value lies within them, pullback
moves a speed toward 0 alone; with them O53. -/

namespace Sys2Proof.Machine

/-! ### Caps that apply under a test -/

theorem least_capIf (c : Int) (test : Bool) (x : Int) : least c (capIf test x) = if test then min c x else c := by
  cases test <;> rfl

theorem least_nonneg {c : Int} {o : Option Int} (hc : 0 ≤ c) (ho : ∀ x ∈ o, 0 ≤ x) : 0 ≤ least c o := by
  cases o with
  | none => exact hc
  | some x => exact le_min hc (ho x rfl)

theorem capIf_nonneg (test : Bool) {c : Int} (hc : 0 ≤ c) : ∀ x ∈ capIf test c, 0 ≤ x := by
  cases test
  · exact nofun
  · rintro x ⟨⟩
    exact hc

/-! ### Table words and profiles -/

theorem Table.int_nonneg (t : Table) (i : Nat) : 0 ≤ t.int i := Int.natCast_nonneg _

theorem profile_nonneg (s : State) (f : ProfileField) : 0 ≤ s.profile f := by
  unfold State.profile
  split
  · exact Table.int_nonneg _ _
  · exact le_rfl

theorem profile_none {s : State} (h : s.env.selected = none) (f : ProfileField) : s.profile f = 0 := by
  simp only [State.profile, h]

/-! ### Window caps -/

/-- Between two values that are not negative, an interpolation is not negative (R116). -/
theorem interpolated_nonneg {e z a b : Int} (he : 0 ≤ e) (hz : 0 ≤ z) (ha : 0 ≤ a) (hab : a < b) : 0 ≤ e + trunc ((z - e) * a) b := by
  have hb : 0 < b := lt_of_le_of_lt ha hab
  rcases le_total e z with up | down
  · exact add_nonneg he (Int.tdiv_nonneg (mul_nonneg (sub_nonneg.2 up) ha) hb.le)
  · have fall : trunc ((e - z) * a) b ≤ e - z := by
      rw [trunc, Int.tdiv_eq_ediv_of_nonneg (mul_nonneg (sub_nonneg.2 down) ha)]
      exact Int.ediv_le_of_le_mul hb (mul_le_mul_of_nonneg_left hab.le (sub_nonneg.2 down))
    have flip : trunc ((z - e) * a) b = -trunc ((e - z) * a) b := by
      rw [trunc, trunc, ← Int.neg_tdiv, ← neg_mul, neg_sub]
    omega

theorem taper_nonneg {w : Window} {vz : Int} (edge : 0 ≤ w.edge) (hz : 0 ≤ vz) (dist : Int) : ∀ x ∈ taper w vz dist, 0 ≤ x := by
  unfold taper
  split
  · rintro x ⟨⟩
    exact le_rfl
  · split
    · rintro x ⟨⟩
      exact interpolated_nonneg edge hz (by omega) (by omega)
    · exact nofun

theorem windowCaps_nonneg {w : Window} {vz : Int} (edge : 0 ≤ w.edge) (cap : 0 ≤ w.cap) (hz : 0 ≤ vz) (hr : Int) :
    (∀ x ∈ (windowCaps w vz hr).1, 0 ≤ x) ∧ ∀ x ∈ (windowCaps w vz hr).2, 0 ≤ x := by
  have one {c : Int} (hc : 0 ≤ c) : ∀ x ∈ some c, 0 ≤ x := by
    rintro x ⟨⟩
    exact hc
  unfold windowCaps
  split
  · exact ⟨nofun, nofun⟩
  · split
    · exact ⟨one cap, one cap⟩
    · exact ⟨nofun, nofun⟩
  · split
    · split
      · exact ⟨one le_rfl, one edge⟩
      · exact ⟨one edge, one le_rfl⟩
    · exact ⟨taper_nonneg edge hz _, taper_nonneg edge hz _⟩

theorem leastCap_nonneg {x y : Option Int} (hx : ∀ c ∈ x, 0 ≤ c) (hy : ∀ c ∈ y, 0 ≤ c) : ∀ c ∈ leastCap x y, 0 ≤ c := by
  match x, y with
  | none, _ => exact hy
  | some _, none => exact hx
  | some a, some b =>
    rintro c ⟨⟩
    exact le_min (hx a rfl) (hy b rfl)

theorem leastCaps_nonneg {cs : List (Nat × Option Int × Option Int)}
    (h : ∀ c ∈ cs, (∀ x ∈ c.2.1, 0 ≤ x) ∧ ∀ x ∈ c.2.2, 0 ≤ x) :
    (∀ x ∈ (leastCaps cs).1, 0 ≤ x) ∧ ∀ x ∈ (leastCaps cs).2, 0 ≤ x := by
  have fold (cs : List (Nat × Option Int × Option Int)) (acc : Option Int × Option Int)
      (h : ∀ c ∈ cs, (∀ x ∈ c.2.1, 0 ≤ x) ∧ ∀ x ∈ c.2.2, 0 ≤ x) (ha : (∀ x ∈ acc.1, 0 ≤ x) ∧ ∀ x ∈ acc.2, 0 ≤ x) :
      (∀ x ∈ (cs.foldl (fun acc c => (leastCap acc.1 c.2.1, leastCap acc.2 c.2.2)) acc).1, 0 ≤ x)
        ∧ ∀ x ∈ (cs.foldl (fun acc c => (leastCap acc.1 c.2.1, leastCap acc.2 c.2.2)) acc).2, 0 ≤ x := by
    induction cs generalizing acc with
    | nil => exact ha
    | cons c cs ih =>
      obtain ⟨here, rest⟩ := List.forall_mem_cons.1 h
      exact ih _ rest ⟨leastCap_nonneg ha.1 here.1, leastCap_nonneg ha.2 here.2⟩
  exact fold cs (none, none) h ⟨nofun, nofun⟩

theorem capsByWindow_nonneg (t6 : Table) (doubt : Bool) {vz : Int} (hz : 0 ≤ vz) (hr : Int) :
    ∀ c ∈ capsByWindow t6 doubt vz hr, (∀ x ∈ c.2.1, 0 ≤ x) ∧ ∀ x ∈ c.2.2, 0 ≤ x := by
  unfold capsByWindow
  split
  · exact nofun
  · intro c mem
    obtain ⟨k, -, rfl⟩ := List.mem_map.1 mem
    exact windowCaps_nonneg (Table.int_nonneg _ _) (Table.int_nonneg _ _) hz hr

/-! ### The caps of the groups -/

section
variable {s : State}

theorem limitCap_nonneg (ok : CapItemsOk s) (g : Axis) : ∀ x ∈ limitCap g s, 0 ≤ x := by
  obtain ⟨⟨creep, -⟩, -⟩ := ok
  exact capIf_nonneg _ creep

/-- A profile cap under LIMIT_CREEP is not negative (R98). -/
theorem crept_nonneg (ok : CapItemsOk s) (g : Axis) {c : Int} (hc : 0 ≤ c) : 0 ≤ least c (limitCap g s) :=
  least_nonneg hc (limitCap_nonneg ok g)

theorem walkCap_nonneg (ok : CapItemsOk s) : 0 ≤ walkCap s := by
  unfold walkCap
  split
  · exact crept_nonneg ok .walk (Table.int_nonneg _ _)
  · exact le_rfl

theorem swingCaps_nonneg (ok : CapItemsOk s) : 0 ≤ (swingCaps s).pos ∧ 0 ≤ (swingCaps s).neg := by
  obtain ⟨-, -, ⟨doubt, -⟩, ⟨heading, -⟩, -⟩ := id ok
  have vz : 0 ≤ swingVz s := least_nonneg (crept_nonneg ok .swing (profile_nonneg s _)) (capIf_nonneg _ heading)
  obtain ⟨cw, ccw⟩ := leastCaps_nonneg (capsByWindow_nonneg s.tables.t6 s.swu.heldDoubt vz s.swu.heldHr)
  simp only [swingCaps]
  split
  · exact ⟨le_min vz doubt, le_min vz doubt⟩
  · exact ⟨least_nonneg vz cw, least_nonneg vz ccw⟩

theorem capsOf_nonneg (ok : CapItemsOk s) (g : Axis) : 0 ≤ (capsOf g s).pos ∧ 0 ≤ (capsOf g s).neg := by
  obtain ⟨-, ⟨dump, -⟩, -⟩ := id ok
  have crept (g : Axis) (f : ProfileField) : 0 ≤ least (s.profile f) (limitCap g s) := crept_nonneg ok g (profile_nonneg s f)
  cases g
  case hoist => exact ⟨least_nonneg (crept _ _) (capIf_nonneg _ le_rfl), crept _ _⟩
  case drag => exact ⟨least_nonneg (crept _ _) (capIf_nonneg _ le_rfl), least_nonneg (crept _ _) (capIf_nonneg _ dump)⟩
  case swing => exact swingCaps_nonneg ok
  case walk => exact ⟨walkCap_nonneg ok, walkCap_nonneg ok⟩

/-- The caps are not those of the recorded fields (R115). -/
theorem recordCaps_caps (g : Axis) (s : State) : capsOf g (recordCaps g s) = capsOf g s := by
  unfold recordCaps
  split <;> cases g <;> rfl

end

theorem clip_within {c : Caps} (pos : 0 ≤ c.pos) (neg : 0 ≤ c.neg) (v : Int) : -c.neg ≤ c.clip v ∧ c.clip v ≤ c.pos := by
  simp only [Caps.clip, clamp]
  omega

/-! ### Pullback -/

/-- The excess torque's share of the gain (R104). -/
def pulledBack (gain motoring torque : Int) : Int := Int.tdiv (max 0 (|torque| - motoring) * gain) 1000

theorem pulledBack_nonneg {gain : Int} (hg : 0 ≤ gain) (motoring torque : Int) : 0 ≤ pulledBack gain motoring torque :=
  Int.tdiv_nonneg (mul_nonneg (le_max_left _ _) hg) (by decide)

theorem pullback_full {gain motoring : Int} {v : GroupValues} {q : Int} (h : v.form = .full) : pullback gain motoring v q = q :=
  if_pos h

theorem pullback_forward {gain motoring : Int} {v : GroupValues} {q : Int} (h : v.form ≠ .full) (hg : 0 ≤ gain) (hq : 0 ≤ q) :
    pullback gain motoring v q = q - min q (pulledBack gain motoring v.torque) := by
  have less := pulledBack_nonneg hg motoring v.torque
  have unfolded : pullback gain motoring v q = q - sign q * min (mag q) (pulledBack gain motoring v.torque) := by
    rw [pullback, if_neg h, pulledBack, ← mag_eq_abs v.torque]
    rfl
  rcases hq.eq_or_lt with rfl | pos
  · simp [unfolded, sign, min_eq_left less]
  · simp [unfolded, sign, mag, pos, not_lt.2 hq]

theorem pullback_backward {gain motoring : Int} {v : GroupValues} {q : Int} (h : v.form ≠ .full) (hg : 0 ≤ gain) (hq : q ≤ 0) :
    pullback gain motoring v q = q + min (-q) (pulledBack gain motoring v.torque) := by
  have less := pulledBack_nonneg hg motoring v.torque
  have unfolded : pullback gain motoring v q = q - sign q * min (mag q) (pulledBack gain motoring v.torque) := by
    rw [pullback, if_neg h, pulledBack, ← mag_eq_abs v.torque]
    rfl
  rcases hq.eq_or_lt with rfl | neg
  · simp [unfolded, sign, min_eq_left less]
  · simp [unfolded, sign, mag, neg, not_lt.2 hq]

/-- Pullback never reverses a speed and never raises its magnitude (R104). -/
theorem pullback_between {gain : Int} (hg : 0 ≤ gain) (motoring : Int) (v : GroupValues) (q : Int) :
    (0 ≤ q → 0 ≤ pullback gain motoring v q ∧ pullback gain motoring v q ≤ q)
      ∧ (q ≤ 0 → q ≤ pullback gain motoring v q ∧ pullback gain motoring v q ≤ 0) := by
  have less := pulledBack_nonneg hg motoring v.torque
  by_cases h : v.form = .full
  · rw [pullback_full h]
    omega
  · refine ⟨fun hq => ?_, fun hq => ?_⟩
    · rw [pullback_forward h hg hq]; omega
    · rw [pullback_backward h hg hq]; omega

/-! ### O53 -/

/-- A moving group's frame ends with a Q within the caps of its state (R94, R101). -/
theorem endFrame_within {g : Axis} {v : Int} {s : State} (ok : CapItemsOk s) (run : s.mgu.mode = .run)
    (moving : (endFrame g v s).moving = true) : -(capsOf g s).neg ≤ (endFrame g v s).q ∧ (endFrame g v s).q ≤ (capsOf g s).pos := by
  obtain ⟨pos, neg⟩ := capsOf_nonneg ok g
  have within := clip_within pos neg
  revert moving
  simp only [endFrame]
  split
  · split
    · exact nofun
    · exact fun _ => within _
  · rcases stopFrame_cases g s with ⟨-, e⟩ | ⟨-, e⟩ <;> rw [e]
    · exact nofun
    · refine fun _ => ?_
      rw [stoppingQ, if_pos run]
      exact within _
  · rename_i held
    simp [Group.moving, held]
  · rename_i cut
    simp [Group.moving, cut]

/-- A speed sent lies within bounds about 0 that hold of Q (R101, R104). -/
theorem speedSent_within {g : Axis} {s : State} {l : Limits} {q lo hi : Int} (gain : 0 ≤ s.items.pullbackGain) (neg : 0 ≤ lo)
    (pos : 0 ≤ hi) (within : -lo ≤ q ∧ q ≤ hi) : -lo ≤ speedSent g s l q ∧ speedSent g s l q ≤ hi := by
  unfold speedSent
  split
  · exact within
  · obtain ⟨forward, backward⟩ := pullback_between gain l.motoring (s.dgu.values.get g.drive) q
    omega

theorem frameSpeed_within (g : Axis) (v : Int) {s : State} (ok : CapItemsOk s) :
    -(capsOf g s).neg ≤ (shapeRest g v s).ref.speed ∧ (shapeRest g v s).ref.speed ≤ (capsOf g s).pos := by
  have okThere : CapItemsOk (recordCaps g s) := by
    unfold recordCaps
    split <;> exact ok
  obtain ⟨pos, neg⟩ := capsOf_nonneg okThere g
  obtain ⟨-, -, -, -, ⟨gain, -⟩, -⟩ := id okThere
  rw [← recordCaps_caps g s]
  have ref : (shapeRest g v s).ref = frameReference g (endFrame g v (recordCaps g s)) (recordCaps g s) := rfl
  rw [ref, frameReference]
  split
  · rename_i live
    exact speedSent_within gain neg pos (endFrame_within okThere live.1 live.2)
  · exact ⟨neg_nonpos.2 neg, pos⟩

theorem walkSpeed_within {s : State} (ok : CapItemsOk s) : |(walkReference s).speed| ≤ walkCap s := by
  have cap := walkCap_nonneg ok
  obtain ⟨-, -, -, -, ⟨gain, -⟩, -⟩ := id ok
  simp only [walkReference]
  split
  · have q := clip_within (c := ⟨walkCap s, walkCap s⟩) cap cap (s.group .walk).q
    obtain ⟨forward, backward⟩ := pullback_between gain (limitsOf .walk s).motoring s.dgu.values.drag
      ((Caps.mk (walkCap s) (walkCap s)).clip (s.group .walk).q)
    rw [abs_le]
    simp only at q ⊢
    omega
  · simpa [Reference.disabled] using cap

/-- An index of an existing window names one of a LIVE T6 (R112, R114). -/
theorem any_windowIndices (t6 : Table) (p : Nat → Bool) :
    (windowIndices t6).any p = true ↔ t6.state = .live ∧ ∃ k, k < t6.num 0 ∧ p k = true := by
  unfold windowIndices
  by_cases live : t6.isLive = true
  · have state : t6.state = .live := by simpa [Table.isLive] using live
    simp [live, state]
  · have state : t6.state ≠ .live := by simpa [Table.isLive] using live
    simp [live, state]

theorem noDump_iff (s : State) : noDump s = true ↔ s.profile .cls = 1 ∧ s.tables.t6.state = .live
    ∧ (∃ k, k < s.tables.t6.num 0 ∧ (window s.tables.t6 k).kind = .dump)
    ∧ ¬ ∃ k, k < s.tables.t6.num 0 ∧ (window s.tables.t6 k).kind = .dump ∧ s.swu.heldDoubt = false
        ∧ (window s.tables.t6 k).contains s.swu.heldHr = true := by
  have has := any_windowIndices s.tables.t6 (fun k => (window s.tables.t6 k).kind == .dump)
  have inside := any_windowIndices s.tables.t6
    (fun k => (window s.tables.t6 k).kind == .dump && (window s.tables.t6 k).contains s.swu.heldHr)
  simp only [Bool.and_eq_true, beq_iff_eq] at has inside
  simp only [noDump, Bool.and_eq_true, beq_iff_eq, hasDump, has, Bool.or_eq_true, Bool.not_eq_true', Bool.eq_false_iff, ne_eq,
    insideDump, inside]
  grind

/-- A profile cap as LIMIT_CREEP leaves it (R98). -/
theorem least_limitCap (g : Axis) (s : State) (c : Int) :
    least c (limitCap g s) = if s.alu.severity.get g = some .limit then min c s.items.limitCreep else c := by
  simp only [limitCap, least_capIf, beq_iff_eq]

theorem least_limit (test : Bool) {c : Int} (hc : 0 ≤ c) : least c (capIf test 0) = if test then 0 else c := by
  rw [least_capIf, min_eq_right hc]

theorem walkCap_absent {s : State} (h : s.wsq.heldSector = none ∨ s.env.selected = none) : walkCap s = 0 := by
  unfold walkCap
  split
  · rename_i sector profile
    simp [sector, profile] at h
  · rfl

/-- Settles O53: the caps are not negative, a frame's Q is clipped to them, and pullback moves it toward 0 alone. -/
theorem speedWithinCap : Obligations.SpeedWithinCap := by
  refine ⟨fun g v s ok => ?_, fun s ok => walkSpeed_within ok, fun s ok => ?_⟩
  · obtain ⟨low, high⟩ := frameSpeed_within g v ok
    obtain ⟨pos, neg⟩ := capsOf_nonneg ok g
    exact ⟨low, high, pos, neg⟩
  · have crept (g : Axis) (f : ProfileField) : 0 ≤ least (s.profile f) (limitCap g s) := crept_nonneg ok g (profile_nonneg s f)
    have dragOut : (capsOf .drag s).neg = if noDump s then min (least (s.profile .dragOut) (limitCap .drag s)) s.items.noDumpCap
        else least (s.profile .dragOut) (limitCap .drag s) := least_capIf _ _ _
    simp only [← least_limitCap, ← noDump_iff]
    refine ⟨least_limit _ (crept _ _), rfl, least_limit _ (crept _ _), fun h => ?_, fun h => ?_, rfl, fun h => ?_, fun k h e => ?_,
      profile_none⟩
    · rw [dragOut, if_pos h]
    · rw [dragOut, if_neg h]
    · exact walkCap_absent h
    · obtain ⟨r, selected⟩ := Option.isSome_iff_exists.1 e
      simp only [capsOf, walkCap, h, selected]

end Sys2Proof.Machine
end

section
/-! SUPPORT. Reports that raise nothing of severity TRIP leave the part mode; where the sequencer waits for no group at rest, they leave the
sequencer too, and each group but for a stop (R108, R144, R162, R163). -/

namespace Sys2Proof.Machine

/-! ### Reports that raise no TRIP -/

/-- A report that raises no condition of severity TRIP and is no occasion of one (R163). -/
def Report.mild (t10 : Table) : Report → Prop
  | .level n raised _ => raised = true → effSeverity t10 n ≠ .trip
  | .event n _ => effSeverity t10 n ≠ .trip

/-- A report of a level condition. -/
def Report.isLevel : Report → Bool
  | .level .. => true
  | .event .. => false

theorem occasion_raised (ctx : AluCtx) (n : Nat) (d : Option Nat) (f : Bool) (a : Alu) :
    ((a.occasion ctx n d f).cond n).raised = (a.cond n).raised := by
  unfold Alu.occasion
  split
  · rw [Alu.cond_setCond]
    split <;> rfl
  · rw [((listingOnly_raise ctx n _).trans (listingOnly_fall ctx n _)).raised, Alu.cond_setCond]
    split <;> rfl

/-- A condition raised after one report stood before it or was reported raised (R150). -/
theorem takeOne_raised (ctx : AluCtx) (p : Alu × Effect) (r : Report) (m : Nat)
    (h : ((takeOne ctx p r).1.cond m).raised = true) : (p.1.cond m).raised = true ∨ ∃ d, r = .level m true d := by
  by_cases e : m = r.number
  · subst e
    match r with
    | .level n true d => exact .inr ⟨d, rfl⟩
    | .level n false d => exact absurd ((fallLevel_cond ctx n p.1).symm.trans h) (by decide)
    | .event n d => exact .inl ((occasion_raised ctx n d false p.1).symm.trans h)
  · exact .inl (((takesOne_takeOne ctx p r).raised m e).symm.trans h)

theorem take_raised (ctx : AluCtx) (rs : List Report) (a : Alu) (m : Nat) (h : ((a.take ctx rs).1.cond m).raised = true) :
    (a.cond m).raised = true ∨ ∃ d, .level m true d ∈ rs := by
  have fold (rs : List Report) (p : Alu × Effect) (h : ((rs.foldl (takeOne ctx) p).1.cond m).raised = true) :
      (p.1.cond m).raised = true ∨ ∃ d, .level m true d ∈ rs := by
    induction rs generalizing p with
    | nil => exact .inl h
    | cons r rs ih =>
      rcases ih _ h with stood | ⟨d, mem⟩
      · exact (takeOne_raised ctx p r m stood).imp_right fun ⟨d, e⟩ => ⟨d, e ▸ List.mem_cons_self⟩
      · exact .inr ⟨d, List.mem_cons_of_mem _ mem⟩
  exact (fold _ _ h).imp_right fun ⟨d, mem⟩ => ⟨d, (sortReports_perm rs).mem_iff.1 mem⟩

theorem trip_of_code {x : Severity} (h : x.code = Severity.trip.code) : x = .trip := by
  revert h
  cases x <;> decide

theorem takeOne_trip (ctx : AluCtx) (p : Alu × Effect) {r : Report} (mild : r.mild ctx.t10) :
    (takeOne ctx p r).2.trip = p.2.trip := by
  match r with
  | .level n true d => rfl
  | .level n false d => rfl
  | .event n d =>
    have code : (effSeverity ctx.t10 n).code ≠ Severity.trip.code := fun e => mild (trip_of_code e)
    simp only [takeOne]
    split
    · rfl
    · simp [Effect.ofEvent, code]

theorem take_trip (ctx : AluCtx) {rs : List Report} (a : Alu) (mild : ∀ r ∈ rs, r.mild ctx.t10) : (a.take ctx rs).2.trip = false := by
  have fold (rs : List Report) (p : Alu × Effect) (mild : ∀ r ∈ rs, r.mild ctx.t10) :
      (rs.foldl (takeOne ctx) p).2.trip = p.2.trip := by
    induction rs generalizing p with
    | nil => rfl
    | cons r rs ih =>
      obtain ⟨here, rest⟩ := List.forall_mem_cons.1 mild
      exact (ih _ rest).trans (takeOne_trip ctx p here)
  exact fold _ _ fun r mem => mild r ((sortReports_perm rs).mem_iff.1 mem)

theorem take_stops (ctx : AluCtx) {rs : List Report} (a : Alu) (levels : ∀ r ∈ rs, r.isLevel = true) : (a.take ctx rs).2.stops = [] := by
  have fold (rs : List Report) (p : Alu × Effect) (levels : ∀ r ∈ rs, r.isLevel = true) :
      (rs.foldl (takeOne ctx) p).2 = p.2 := by
    induction rs generalizing p with
    | nil => rfl
    | cons r rs ih =>
      obtain ⟨here, rest⟩ := List.forall_mem_cons.1 levels
      refine (ih _ rest).trans ?_
      match r with
      | .level n true d => rfl
      | .level n false d => rfl
  rw [Alu.take, fold _ _ fun r mem => levels r ((sortReports_perm rs).mem_iff.1 mem)]
  rfl

theorem take_tripStanding (ctx : AluCtx) {rs : List Report} {a : Alu} (mild : ∀ r ∈ rs, r.mild ctx.t10)
    (none : a.tripStanding ctx.t10 = false) : (a.take ctx rs).1.tripStanding ctx.t10 = false := by
  rw [Alu.tripStanding, List.any_eq_false] at none ⊢
  intro n mem stands
  simp only [Alu.standing, Bool.and_eq_true, beq_iff_eq, Bool.not_eq_true'] at stands
  obtain ⟨⟨⟨kind, raised⟩, mask⟩, trip⟩ := stands
  rcases take_raised ctx rs a n raised with stood | ⟨d, reported⟩
  · exact none n mem (by simp [Alu.standing, kind, stood, mask, trip])
  · exact mild _ reported rfl trip

/-- A group's severity depends on the raw states of the conditions that affect it alone (R162). -/
theorem groupSeverity_congr {a b : Alu} {g : Axis} (t10 : Table)
    (h : ∀ n, (condSpec n).affects.contains g = true → (b.cond n).raised = (a.cond n).raised) :
    b.groupSeverity t10 g = a.groupSeverity t10 g := by
  have same : ∀ n ∈ List.range Config.conditionCount, (b.standing t10 n && (condSpec n).affects.contains g)
      = (a.standing t10 n && (condSpec n).affects.contains g) := by
    intro n _
    by_cases affects : (condSpec n).affects.contains g = true
    · simp only [Alu.standing, h n affects]
    · simp only [affects, Bool.and_false]
  rw [Alu.groupSeverity, Alu.groupSeverity, List.filter_congr same]

/-! ### The ALU's work -/

/-- What the ALU handed on is up to date, and no TRIP stands outside HALTED (R162, R163). -/
structure Calm (s : State) : Prop where
  severity : s.alu.severity = s.alu.groupSeverities s.tables.t10
  trip : s.mgu.mode ≠ .halted → s.alu.tripStanding s.tables.t10 = false

theorem handSeverities_eq (s : State) : ∃ p, handSeverities s
    = ((s.withAlu { s.alu with severity := s.alu.groupSeverities s.tables.t10 }).withMgu
        { s.mgu with tripStanding := s.alu.tripStanding s.tables.t10 }).withGroups p := stopGroups_eq _ _

theorem haltPart_halted {s : State} (h : s.mgu.mode = .halted) : haltPart s = s := by simp only [haltPart, h]

/-- The ALU's work on reports that raise no TRIP: the severities handed on, and the one-time stops (R162). -/
theorem aluTake_calm {rs : List Report} {s : State} (calm : Calm s) (mild : ∀ r ∈ rs, r.mild s.tables.t10) :
    aluTake rs s = (handSeverities (s.withAlu (s.alu.take s.aluCtx rs).1)).stopGroups (s.alu.take s.aluCtx rs).2.stops := by
  obtain ⟨p, hand⟩ := handSeverities_eq (s.withAlu (s.alu.take s.aluCtx rs).1)
  obtain ⟨q, stopped⟩ := stopGroups_eq (s.alu.take s.aluCtx rs).2.stops (handSeverities (s.withAlu (s.alu.take s.aluCtx rs).1))
  simp only [aluTake, aluAct]
  split
  · rename_i trip
    refine haltPart_halted ?_
    rw [stopped, hand] at trip ⊢
    by_contra mode
    have standing := take_tripStanding s.aluCtx mild (calm.trip mode)
    have event := take_trip s.aluCtx s.alu mild
    simp only [event, Bool.false_or, State.withGroups_mgu, State.withMgu_mgu, State.withAlu_alu,
      State.withAlu_tables] at trip
    exact absurd (standing.symm.trans trip) (by decide)
  · rfl

section
variable {rs : List Report} {s : State}

theorem aluTake_mode (calm : Calm s) (mild : ∀ r ∈ rs, r.mild s.tables.t10) : (aluTake rs s).mgu.mode = s.mgu.mode := by
  obtain ⟨p, hand⟩ := handSeverities_eq (s.withAlu (s.alu.take s.aluCtx rs).1)
  obtain ⟨q, stopped⟩ := stopGroups_eq (s.alu.take s.aluCtx rs).2.stops (handSeverities (s.withAlu (s.alu.take s.aluCtx rs).1))
  rw [aluTake_calm calm mild, stopped, hand]
  rfl

theorem aluTake_alu (rs : List Report) (s : State) : (aluTake rs s).alu
    = { (s.alu.take s.aluCtx rs).1 with severity := (s.alu.take s.aluCtx rs).1.groupSeverities s.tables.t10 } := by
  rw [aluTake, aluAct_alu]
  rfl

theorem calm_aluTake (calm : Calm s) (mild : ∀ r ∈ rs, r.mild s.tables.t10) : Calm (aluTake rs s) := by
  have mode := aluTake_mode calm mild
  constructor
  · rw [aluTake_alu, (reacts_aluTake rs s).tables]
    rfl
  · intro outside
    rw [aluTake_alu, (reacts_aluTake rs s).tables]
    exact take_tripStanding s.aluCtx mild (calm.trip (mode ▸ outside))

end

/-! ### The sequencer's reaction -/

section
variable (s : State)

theorem force_mgu : (force s).mgu = s.mgu := by
  obtain ⟨p, e⟩ := stopGroups_eq [.hoist, .drag, .swing] s
  rw [force, e]
  rfl

theorem enterWalkReady_mgu : (enterWalkReady s).1.mgu = s.mgu := force_mgu _

theorem enterClosingDrag_mgu : (enterClosingDrag s).mgu = s.mgu := by
  simp only [enterClosingDrag]
  split
  · exact force_mgu _
  · exact force_mgu _

theorem enterOpeningWalk_mgu : (enterOpeningWalk s).mgu = s.mgu := by
  simp only [enterOpeningWalk]
  split
  · exact (enterClosingDrag_mgu _).trans (force_mgu _)
  · exact force_mgu _

theorem beginReturn_mgu : (beginReturn s).1.mgu = s.mgu := by
  simp only [beginReturn]
  split
  · exact enterOpeningWalk_mgu _
  · exact enterOpeningWalk_mgu _

theorem enterClosingWalk_mgu : (enterClosingWalk s).1.mgu = s.mgu := by
  simp only [enterClosingWalk]
  split
  · simp [readyFromClosing, clearNeutral, enterWalkReady_mgu, force_mgu]
  · simp [force_mgu]

theorem openDrag_mgu : (openDrag s).1.mgu = s.mgu := by
  simp only [openDrag]
  split
  · exact enterClosingWalk_mgu _
  · rfl

theorem endOffPark_mgu : (endOffPark s).1.mgu = s.mgu := by
  simp only [endOffPark]
  split
  · split
    · exact enterWalkReady_mgu s
    · exact (beginReturn_mgu _).trans (enterWalkReady_mgu s)
  · exact enterWalkReady_mgu s

/-- The sequencer's reaction leaves the MGU alone. -/
theorem reactToGroups_mgu : (reactToGroups s).1.mgu = s.mgu := by
  unfold reactToGroups
  split
  · split
    · exact openDrag_mgu s
    · rfl
  · split
    · exact endOffPark_mgu s
    · rfl
  · split
    · exact endOffPark_mgu s
    · rfl
  · rfl

end

/-- Neither condition that the sequencer's reaction may raise has the severity TRIP. -/
def ReactionMild (t10 : Table) : Prop := effSeverity t10 cHeadingUnconfirmed ≠ .trip ∧ effSeverity t10 cWalkDenied ≠ .trip

theorem shoesFall_mild (t10 : Table) : ∀ r ∈ shoesFall, r.mild t10 := by
  simp [shoesFall, Report.mild]

theorem endOffPark_mild {t10 : Table} (h : ReactionMild t10) (s : State) : ∀ r ∈ (endOffPark s).2, r.mild t10 := by
  have falls := shoesFall_mild t10
  simp only [endOffPark]
  split
  · split
    · exact List.forall_mem_append.2 ⟨falls, List.forall_mem_singleton.2 h.2⟩
    · refine List.forall_mem_append.2 ⟨falls, ?_⟩
      simp only [beginReturn]
      split
      · exact List.forall_mem_singleton.2 fun _ => h.1
      · exact nofun
  · exact falls

theorem openDrag_mild (t10 : Table) (s : State) : ∀ r ∈ (openDrag s).2, r.mild t10 := by
  simp only [openDrag]
  split
  · simp only [enterClosingWalk]
    split
    · exact shoesFall_mild t10
    · exact nofun
  · exact nofun

theorem reactToGroups_mild {t10 : Table} (h : ReactionMild t10) (s : State) : ∀ r ∈ (reactToGroups s).2, r.mild t10 := by
  unfold reactToGroups
  split
  · split
    · exact openDrag_mild t10 s
    · exact nofun
  · split
    · exact endOffPark_mild h s
    · exact nofun
  · split
    · exact endOffPark_mild h s
    · exact nofun
  · exact nofun

/-- A report that raises no TRIP leaves the part mode, the sequencer's reaction included (R163). -/
theorem report_mode {rs : List Report} {s : State} (calm : Calm s) (mild : ∀ r ∈ rs, r.mild s.tables.t10)
    (h : ReactionMild s.tables.t10) : (report rs s).mgu.mode = s.mgu.mode := by
  have taken := aluTake_mode calm mild
  have reacted : (reactToGroups (aluTake rs s)).1.mgu.mode = s.mgu.mode := by rw [reactToGroups_mgu, taken]
  have tables : (reactToGroups (aluTake rs s)).1.tables = s.tables :=
    ((reacts_aluTake rs s).trans (reacts_reactToGroups _)).tables
  have calmTaken := calm_aluTake calm mild
  have calmReacted : Calm (reactToGroups (aluTake rs s)).1 := by
    constructor
    · rw [reactToGroups_alu, (reacts_reactToGroups _).tables]
      exact calmTaken.severity
    · rw [reactToGroups_alu, reactToGroups_mgu, (reacts_reactToGroups _).tables]
      exact calmTaken.trip
  simp only [report]
  split
  · exact reacted
  · refine (aluTake_mode calmReacted fun r mem => ?_).trans reacted
    rw [tables]
    exact reactToGroups_mild h _ r mem

/-! ### Where the sequencer waits for no group at rest -/

/-- The sequencer waits for no group that is at rest: WALK moves in STEPPING and FINISHING, and DRAG while its contactor is to open. -/
structure Unreacting (s : State) : Prop where
  walk : walking s.wsq.state = true → (s.group .walk).moving = true
  drag : s.wsq.state = .openingDrag → s.wsq.command = .drag → (s.group .drag).moving = true

theorem atRest_of_moving {r : Group} (h : r.moving = true) : r.atRest = false := by
  unfold Group.moving at h
  unfold Group.atRest
  cases e : r.state <;> simp_all

theorem stop_moving (r : Group) : r.stop.moving = r.moving := by
  cases h : r.state <;> simp [Group.stop, Group.moving, h]

theorem reactToGroups_unreacting {s : State} (h : Unreacting s) : reactToGroups s = (s, []) := by
  unfold reactToGroups
  split
  · rename_i opening
    refine if_neg fun ⟨command, rest⟩ => ?_
    exact absurd rest (by simp [atRest_of_moving (h.drag opening command)])
  · rename_i stepping
    have moving := h.walk (by rw [stepping]; rfl)
    exact if_neg (by simp [atRest_of_moving moving])
  · rename_i finishing
    have moving := h.walk (by rw [finishing]; rfl)
    exact if_neg (by simp [atRest_of_moving moving])
  · rfl

/-- What a calm report does beyond the ALU: sequencer and part mode stand, what the ALU handed on is up to date, and each group is as it
was or stopped by its severity (R162). -/
structure CalmStep (s t : State) : Prop where
  wsq : t.wsq = s.wsq
  mode : t.mgu.mode = s.mgu.mode
  calm : Calm t
  group : ∀ h, t.group h = s.group h ∨ (t.group h = (s.group h).stop ∧ stops (t.alu.severity.get h) = true)

theorem CalmStep.moving {s t : State} (h : CalmStep s t) (g : Axis) : (t.group g).moving = (s.group g).moving := by
  rcases h.group g with e | ⟨e, -⟩ <;> rw [e]
  exact stop_moving _

theorem Unreacting.of_same {s t : State} (wsq : t.wsq = s.wsq) (moving : ∀ g, (t.group g).moving = (s.group g).moving)
    (k : Unreacting s) : Unreacting t :=
  ⟨by rw [wsq, moving]; exact k.walk, by rw [wsq, moving]; exact k.drag⟩

theorem CalmStep.unreacting {s t : State} (h : CalmStep s t) (k : Unreacting s) : Unreacting t := k.of_same h.wsq h.moving

/-- A report of level conditions that raises no TRIP while the sequencer waits for no group at rest. -/
theorem calmStep_report {rs : List Report} {s : State} (calm : Calm s) (idle : Unreacting s)
    (levels : ∀ r ∈ rs, r.isLevel = true) (mild : ∀ r ∈ rs, r.mild s.tables.t10) :
    CalmStep s (report rs s) ∧ (report rs s).alu.severity = (s.alu.take s.aluCtx rs).1.groupSeverities s.tables.t10 := by
  have taken : aluTake rs s = handSeverities (s.withAlu (s.alu.take s.aluCtx rs).1) := by
    rw [aluTake_calm calm mild, take_stops s.aluCtx s.alu levels]
    rfl
  have group (h : Axis) : (aluTake rs s).group h = if stops ((aluTake rs s).alu.severity.get h) = true
      then (s.group h).stop else s.group h := by
    rw [aluTake_alu, taken, handSeverities, stopGroups_group]
    simp
  have step : CalmStep s (aluTake rs s) := by
    refine ⟨aluTake_wsq rs s, aluTake_mode calm mild, calm_aluTake calm mild, fun h => ?_⟩
    rw [group]
    split
    · exact .inr ⟨rfl, ‹_›⟩
    · exact .inl rfl
  have report : report rs s = aluTake rs s := by
    simp only [report, reactToGroups_unreacting (step.unreacting idle)]
  rw [report]
  exact ⟨step, by rw [aluTake_alu]⟩

/-- Conditions that affect no group leave the severities as they were (R162). -/
theorem calmStep_report_unaffecting {rs : List Report} {s : State} (calm : Calm s) (idle : Unreacting s)
    (levels : ∀ r ∈ rs, r.isLevel = true) (mild : ∀ r ∈ rs, r.mild s.tables.t10)
    (unaffecting : ∀ r ∈ rs, (condSpec r.number).affects = []) :
    CalmStep s (report rs s) ∧ (report rs s).alu.severity = s.alu.severity := by
  obtain ⟨step, severity⟩ := calmStep_report calm idle levels mild
  refine ⟨step, PerAxis.eq_of_get fun g => ?_⟩
  rw [severity, calm.severity, groupSeverities_get, groupSeverities_get]
  refine groupSeverity_congr _ fun n affects => (take_spec s.aluCtx rs s.alu).raised n fun r mem number => ?_
  rw [← number, unaffecting r mem] at affects
  exact absurd affects (by simp)

/-! ### A group held by its frame -/

/-- A group that a frame left HELD at rest, unless the part is HALTED (R92, R94). -/
def HeldAtRest (mode : Mode) (r : Group) : Prop :=
  mode ≠ .halted → r.state = .held ∧ r.q = 0 ∧ r.idle = 0 ∧ r.neutralSeen = false

/-- Reports, moves and hand-offs leave a group that is HELD at rest so, while the part is not HALTED. -/
theorem GroupWork.heldAtRest {s t : State} (h : GroupWork s t) {g : Axis} (k : HeldAtRest s.mgu.mode (s.group g)) :
    HeldAtRest t.mgu.mode (t.group g) := by
  refine h.keeps (P := HeldAtRest) (fun k outside => ?_) (fun k outside => ?_) (fun _ _ _ => ⟨rfl, rfl, rfl, rfl⟩)
    (fun _ outside => absurd rfl outside) g k
  · obtain ⟨held, q, idle, seen⟩ := k outside
    rw [Group.stop, held]
    exact ⟨held, q, idle, seen⟩
  · obtain ⟨held, q, idle, -⟩ := k outside
    exact ⟨held, q, idle, rfl⟩

end Sys2Proof.Machine
end

section
/-! SUPPORT. A COMMAND frame as a command: what its arrival and its lever leave, the frame it comes to, and the arrival of a quiet frame. -/

namespace Sys2Proof.Machine

/-! ### The command -/

/-- A COMMAND frame in the loop that fits is its group's frame (R88, R169). -/
theorem exec_command {l : Link} (g : Axis) (lever : Word) {s : State} (h : s.lpu.bypass = .off) (f : fits l 4 = true) :
    exec (.command l (natWord g.code) lever) s = .next (commandGroup g lever (goodFrameSeen s)) := by
  show Host.Outcome.next (arrival l 4 (takeCommand l (natWord g.code) lever) s) = _
  rw [arrival_in l 4 _ s h f, takeCommand, axisOfCode_natWord]

/-- The device after a frame's own reports, before the frame is offered (R88). -/
def reported (g : Axis) (lever : Word) (s : State) : State :=
  report (frameReports g (shape g lever s).state) (shape g lever s).state

/-- The rewritten frame's offer changes only the LPU. -/
theorem commandGroup_eq (g : Axis) (lever : Word) (s : State) : ∃ x, commandGroup g lever s = (reported g lever s).withLpu x :=
  ⟨_, offerForwarded_lpu _ _⟩

/-- A COMMAND frame leaves the device as its own reports do, but for the port. -/
theorem exec_command_reported {l : Link} (g : Axis) (lever : Word) {s : State} (h : s.lpu.bypass = .off) (f : fits l 4 = true) :
    ∃ x, exec (.command l (natWord g.code) lever) s = .next ((reported g lever (goodFrameSeen s)).withLpu x) := by
  obtain ⟨x, e⟩ := commandGroup_eq g lever (goodFrameSeen s)
  exact ⟨x, by rw [exec_command g lever h f, e]⟩

/-! ### The lever -/

/-- The lever is taken into the group's record and the MGU's copy alone (R90, R108). -/
theorem takeLever_eq (g : Axis) (v : Int) (s : State) : ∃ p, takeLever g v s
    = (s.withGroups p).withMgu { s.mgu with lastLevers := s.mgu.lastLevers.set g (some v) } := by
  simp only [takeLever]
  split
  · exact ⟨_, rfl⟩
  · exact ⟨_, rfl⟩

/-- What a frame's arrival and its lever leave of the blocks a reference is formed from. -/
structure FrameKept (s t : State) : Prop where
  lpu : t.lpu = s.lpu
  items : t.items = s.items
  tables : t.tables = s.tables
  tru : t.tru = s.tru
  dgu : t.dgu = s.dgu
  env : t.env = s.env
  pending : t.pending = s.pending

theorem FrameKept.profile {s t : State} (h : FrameKept s t) (f : ProfileField) : t.profile f = s.profile f := by
  rw [State.profile, State.profile, h.env, h.tables]

theorem Reacts.frameKept {s t : State} (h : Reacts s t) : FrameKept s t := ⟨h.lpu, h.items, h.tables, h.tru, h.dgu, h.env, h.pending⟩

theorem ShapeKept.frameKept {g : Axis} {s t : State} (h : ShapeKept g s t) : FrameKept s t :=
  ⟨h.lpu, h.items, h.tables, h.tru, h.dgu, h.env, h.pending⟩

theorem FrameKept.trans {a b c : State} (h : FrameKept a b) (k : FrameKept b c) : FrameKept a c :=
  ⟨k.lpu.trans h.lpu, k.items.trans h.items, k.tables.trans h.tables, k.tru.trans h.tru, k.dgu.trans h.dgu, k.env.trans h.env,
    k.pending.trans h.pending⟩

theorem frameKept_commandArrives (g : Axis) (s : State) : FrameKept s (commandArrives g s) :=
  FrameKept.trans (b := noted g s) ⟨rfl, rfl, rfl, rfl, rfl, rfl, rfl⟩ (reacts_commandArrives g s).frameKept

theorem frameKept_takeLever (g : Axis) (v : Int) (s : State) : FrameKept s (takeLever g v s) := by
  obtain ⟨p, e⟩ := takeLever_eq g v s
  rw [e]
  exact ⟨rfl, rfl, rfl, rfl, rfl, rfl, rfl⟩

theorem frameKept_leverTaken (g : Axis) (lever : Word) (s : State) : FrameKept s (leverTaken g lever s) :=
  (frameKept_commandArrives g s).trans (frameKept_takeLever g _ _)

theorem tryActivate_alu (g : Axis) (v : Int) (s : State) : (tryActivate g v s).alu = s.alu := by
  unfold tryActivate
  split
  · cases g <;> rfl
  · rfl

theorem beforeRest_alu {g : Axis} (h : g ≠ .walk) (v : Int) (s : State) : (beforeRest g v s).alu = s.alu := by
  cases g
  case walk => exact absurd rfl h
  all_goals exact tryActivate_alu _ v s

theorem shapeRest_alu (g : Axis) (v : Int) (s : State) : (shapeRest g v s).state.alu = s.alu := by
  simp only [shapeRest, recordCaps]
  split <;> rfl

/-- Beyond its arrival a frame of a group other than WALK leaves the alarm unit alone up to the rewrite. -/
theorem shape_alu {g : Axis} (h : g ≠ .walk) (lever : Word) (s : State) : (shape g lever s).state.alu = (commandArrives g s).alu := by
  have taken : (leverTaken g lever s).alu = (commandArrives g s).alu := takeLever_alu g _ _
  rcases shape_cases g lever s with ⟨-, e⟩ | ⟨-, e⟩ <;> rw [e]
  · exact taken
  · rw [shapeRest_alu, beforeRest_alu h, taken]

theorem noted_group (g : Axis) (s : State) : (noted g s).group g = { s.group g with note := true, loss := 0 } := by simp [noted]

theorem noted_other {g h : Axis} (s : State) (ne : h ≠ g) : (noted g s).group h = s.group h := State.setGroup_other _ _ ne

/-! ### A quiet frame's arrival -/

theorem fall_mild (t10 : Table) (n : Nat) : (Report.level n false none).mild t10 := by simp [Report.mild]

section
variable {s : State} (quiet : FrameQuiet s)
include quiet

theorem FrameQuiet.calm : Calm s := by
  obtain ⟨-, ⟨severity, trip, halts⟩, -⟩ := quiet
  refine ⟨severity, fun outside => ?_⟩
  rw [← trip]
  exact Bool.eq_false_iff.2 fun standing => outside (halts standing)

theorem FrameQuiet.unreacting : Unreacting s := by
  obtain ⟨-, -, -, walk, drag⟩ := quiet
  exact ⟨walk, drag⟩

theorem FrameQuiet.reactionMild : ReactionMild s.tables.t10 := by
  obtain ⟨-, -, mild, -⟩ := quiet
  exact ⟨mild _ (by decide), mild _ (by decide)⟩

/-- A frame of a quiet device arrives calmly: only CMD_LOST_x may fall (R88). -/
theorem calmStep_commandArrives (g : Axis) : CalmStep (noted g s) (commandArrives g s) := by
  have calm : Calm (noted g s) := ⟨quiet.calm.severity, quiet.calm.trip⟩
  have moving (h : Axis) : ((noted g s).group h).moving = (s.group h).moving := by
    by_cases e : h = g
    · subst e; rw [noted_group]; rfl
    · rw [noted_other s e]
  have idle : Unreacting (noted g s) := .of_same (s := s) rfl moving quiet.unreacting
  simp only [commandArrives]
  split
  · exact (calmStep_report (rs := [.level (cCmdLost g) false none]) calm idle (List.forall_mem_singleton.2 rfl)
      (List.forall_mem_singleton.2 (fall_mild _ _))).1
  · exact ⟨rfl, rfl, calm, fun _ => .inl rfl⟩

theorem leverTaken_wsq (g : Axis) (lever : Word) : (leverTaken g lever s).wsq = s.wsq :=
  (takeLever_wsq g _ _).trans (calmStep_commandArrives quiet g).wsq

theorem leverTaken_mode_quiet (g : Axis) (lever : Word) : (leverTaken g lever s).mgu.mode = s.mgu.mode :=
  (takeLever_mode g _ _).trans (calmStep_commandArrives quiet g).mode

end

end Sys2Proof.Machine
end

section
/-! Torque limits (R102, R103, R125 to R127): the swing limit and its glide, the limits of an enabled reference, the tightline field of a
DRAG frame, and O57. -/

namespace Sys2Proof.Machine

/-! ### The swing limit -/

theorem scaled_nonneg {limit : Int} (h : 0 ≤ limit) (v : GroupValues) : 0 ≤ scaled limit v := by
  unfold scaled
  split
  · exact le_rfl
  · exact Int.tdiv_nonneg (mul_nonneg h (Int.natCast_nonneg _)) (Int.natCast_nonneg _)

theorem swingProfileTorque_nonneg (s : State) : 0 ≤ swingProfileTorque s := scaled_nonneg (profile_nonneg s _) _

theorem AdaptMode.gain_nonneg (m : AdaptMode) : 0 ≤ m.gain := by cases m <;> decide

theorem swingLoad_eq (u : Swu) : swingLoad u = if u.fifo = [] then 0 else Int.tdiv u.fifo.sum u.fifo.length := by
  simp only [swingLoad, List.isEmpty_iff, trunc]

/-- The adaptive reduction of the swing limit (R125). -/
def swingReduction (s : State) : Int := Int.tdiv (s.items.adaptMode.gain * max 0 (swingLoad s.swu - s.items.adaptBase)) 1000

theorem swingReduction_nonneg (s : State) : 0 ≤ swingReduction s :=
  Int.tdiv_nonneg (mul_nonneg (AdaptMode.gain_nonneg _) (le_max_left _ _)) (by decide)

theorem computedLimit_eq (s : State) : computedLimit s
    = max (min s.items.adaptFloor (swingProfileTorque s)) (swingProfileTorque s - swingReduction s) := rfl

theorem computedLimit_bounds {s : State} (floor : 0 ≤ s.items.adaptFloor) :
    0 ≤ computedLimit s ∧ computedLimit s ≤ swingProfileTorque s := by
  have torque := swingProfileTorque_nonneg s
  have reduction := swingReduction_nonneg s
  rw [computedLimit_eq]
  omega

/-- The applied limit moves toward the computed one, by at most the step (R126). -/
theorem glide_toward {step : Int} (h : 0 ≤ step) (c x : Int) : |glide step c (some x) - x| = min step |c - x|
    ∧ |c - glide step c (some x)| = |c - x| - |glide step c (some x) - x| := by
  simp only [glide, abs_eq_max_neg]
  split <;> omega

/-! ### The limits of an enabled reference -/

theorem recordCaps_of_ne {g : Axis} (h : g ≠ .swing) (s : State) : recordCaps g s = s := if_neg fun ⟨e, _⟩ => h e

theorem recordCaps_limits (g : Axis) (s : State) : limitsOf g (recordCaps g s) = limitsOf g s := by
  unfold recordCaps
  split <;> cases g <;> rfl

theorem shapeRest_ref (g : Axis) (v : Int) (s : State) :
    (shapeRest g v s).ref = frameReference g (endFrame g v (recordCaps g s)) (recordCaps g s) := rfl

/-- An enabled reference of a group carries the limits of its group (R102, R103, R127). -/
theorem shapeRest_limits {g : Axis} {v : Int} {s : State} (h : (shapeRest g v s).ref.enable = true) :
    (shapeRest g v s).ref.motoring = (limitsOf g s).motoring ∧ (shapeRest g v s).ref.regen = (limitsOf g s).regen := by
  rw [shapeRest_ref] at h ⊢
  have live := (frameReference_enable g _ _).1 h
  rw [frameReference, if_pos live, ← recordCaps_limits g s]
  exact ⟨rfl, rfl⟩

theorem endFrame_moving {g : Axis} {v : Int} {s : State} (h : (endFrame g v s).moving = true) : (s.group g).moving = true := by
  cases e : (s.group g).state
  case active | stopping => simp [Group.moving, e]
  case held | cut => simp [endFrame, e, Group.moving] at h

theorem tightlineActive_iff (s : State) : tightlineActive s = true ↔ s.profile .tightline ≠ 0
    ∧ s.profile .tightline < max 0 s.dgu.values.hoist.torque + max 0 s.dgu.values.drag.torque := by
  rw [tightlineActive, Bool.and_eq_true, bne_iff_ne, decide_eq_true_eq, pullSum]

theorem tightlineLimit_eq (s : State) (base : Int) : tightlineLimit s base
    = if s.profile .tightline ≠ 0 ∧ s.profile .tightline < max 0 s.dgu.values.hoist.torque + max 0 s.dgu.values.drag.torque then
        max (min base s.items.tightlineFloor)
          (base - (max 0 s.dgu.values.hoist.torque + max 0 s.dgu.values.drag.torque - s.profile .tightline))
      else base := by
  rw [tightlineLimit, pullSum]
  exact if_congr (tightlineActive_iff s) rfl rfl

/-- The tightline field a DRAG frame of its own reference leaves (R103). -/
theorem shapeRest_tightline (v : Int) (s : State) :
    ((shapeRest .drag v s).state.group .drag).tightline = tightlineField .drag s := by
  rw [shapeRest_group, recordCaps_of_ne (by decide)]
  rfl

/-- A DRAG frame of its own reference with enable true leaves the field as the reduction is (R103). -/
theorem shapeRest_tightline_enabled {v : Int} {s : State} (h : (shapeRest .drag v s).ref.enable = true) :
    ((shapeRest .drag v s).state.group .drag).tightline = tightlineActive s := by
  rw [shapeRest_ref, recordCaps_of_ne (by decide)] at h
  obtain ⟨run, moving⟩ := (frameReference_enable .drag _ _).1 h
  rw [shapeRest_tightline]
  simp [tightlineField, run, endFrame_moving moving]

/-! ### The sequencer does not enter DIGGING by a report -/

section
variable (s : State)

theorem force_wsq : (force s).wsq = s.wsq := by
  obtain ⟨p, e⟩ := stopGroups_eq [.hoist, .drag, .swing] s
  rw [force, e]
  rfl

theorem force_dgu : (force s).dgu = s.dgu := (reacts_force s).dgu

theorem enterWalkReady_state : (enterWalkReady s).1.wsq.state = .walkReady := congrArg Wsq.state (force_wsq _)

theorem readyFromClosing_state : (readyFromClosing s).1.wsq.state = .walkReady := enterWalkReady_state s

theorem enterClosingWalk_state : (enterClosingWalk s).1.wsq.state = .walkReady ∨ (enterClosingWalk s).1.wsq.state = .closingWalk := by
  simp only [enterClosingWalk]
  split
  · exact .inl (readyFromClosing_state _)
  · exact .inr (congrArg Wsq.state (force_wsq _))

theorem enterClosingDrag_state (h : s.dgu.summary ≠ .drag) : (enterClosingDrag s).wsq.state = .closingDrag := by
  simp only [enterClosingDrag]
  rw [if_neg (by rw [force_dgu]; exact h), force_wsq]
  rfl

/-- The return passes CLOSING_DRAG at once only with all contactors open, where DIGGING does not follow (R147). -/
theorem enterOpeningWalk_state :
    (enterOpeningWalk s).wsq.state = .closingDrag ∨ (enterOpeningWalk s).wsq.state = .openingWalk := by
  simp only [enterOpeningWalk]
  split
  · rename_i none
    exact .inl (enterClosingDrag_state _ (by rw [none]; decide))
  · exact .inr (congrArg Wsq.state (force_wsq _))

theorem beginReturn_state : (beginReturn s).1.wsq.state ≠ .digging := by
  have entered (u : State) : (enterOpeningWalk u).wsq.state ≠ .digging := by
    rcases enterOpeningWalk_state u with e | e <;> rw [e] <;> decide
  simp only [beginReturn]
  split <;> exact entered _

theorem endOffPark_state : (endOffPark s).1.wsq.state ≠ .digging := by
  have ready : (enterWalkReady s).1.wsq.state ≠ .digging := by rw [enterWalkReady_state]; decide
  simp only [endOffPark]
  split
  · split
    · exact ready
    · exact beginReturn_state _
  · exact ready

theorem openDrag_state (h : s.wsq.state ≠ .digging) : (openDrag s).1.wsq.state ≠ .digging := by
  simp only [openDrag]
  split
  · rcases enterClosingWalk_state (s.withWsq { s.wsq with command := .none }) with e | e <;> rw [e] <;> decide
  · exact h

theorem reactToGroups_state (h : s.wsq.state ≠ .digging) : (reactToGroups s).1.wsq.state ≠ .digging := by
  unfold reactToGroups
  split
  · split
    · exact openDrag_state s h
    · exact h
  · split
    · exact endOffPark_state s
    · exact h
  · split
    · exact endOffPark_state s
    · exact h
  · exact h

theorem report_not_digging (rs : List Report) (h : s.wsq.state ≠ .digging) : (report rs s).wsq.state ≠ .digging := by
  have reacted : (reactToGroups (aluTake rs s)).1.wsq.state ≠ .digging :=
    reactToGroups_state _ (by rwa [aluTake_wsq])
  simp only [report]
  split
  · exact reacted
  · rwa [aluTake_wsq]

theorem leverTaken_not_digging (g : Axis) (lever : Word) (h : s.wsq.state ≠ .digging) :
    (leverTaken g lever s).wsq.state ≠ .digging := by
  rw [leverTaken, takeLever_wsq]
  simp only [commandArrives]
  split
  · exact report_not_digging _ _ h
  · exact h

end

/-! ### The tightline field of a DRAG frame -/

theorem atRest_iff {r : Group} : r.atRest = true ↔ r.state = .held ∨ r.state = .cut := by
  simp only [Group.atRest, Bool.or_eq_true, beq_iff_eq]

theorem moving_of_atRest {r : Group} (h : r.atRest = true) : r.moving = false := by
  cases e : r.moving
  · rfl
  · exact absurd (h.symm.trans (atRest_of_moving e)) (by decide)

/-- A frame's arrival and lever leave a group at rest so. -/
theorem leverTaken_atRest {g : Axis} (lever : Word) {s : State} (h : (s.group g).atRest = true) :
    ((leverTaken g lever s).group g).atRest = true := by
  rw [leverTaken, takeLever_group]
  exact ((reacts_commandArrives g s).group g).rest (by rw [noted_group]; exact h)

/-- The field a DRAG frame leaves is false under the walk reference, else that of the state its lever and activation leave (R103). -/
theorem shape_tightline (lever : Word) (s : State) :
    ((shape .drag lever s).state.group .drag).tightline = false
      ∨ (carriesWalk (leverTaken .drag lever s).wsq.state = false
        ∧ ((shape .drag lever s).state.group .drag).tightline
          = tightlineField .drag (tryActivate .drag (frameLever .drag lever s) (leverTaken .drag lever s))) := by
  rcases shape_cases .drag lever s with ⟨-, e⟩ | ⟨own, e⟩ <;> rw [e]
  · exact .inl (by simp [shapeWalk])
  · exact .inr ⟨Bool.eq_false_iff.2 fun carries => own ⟨rfl, carries⟩, shapeRest_tightline _ _⟩

theorem shape_tightline_resting {lever : Word} {s : State} (rest : (s.group .drag).atRest = true) (state : s.wsq.state ≠ .digging) :
    ((shape .drag lever s).state.group .drag).tightline = false := by
  rcases shape_tightline lever s with e | ⟨-, e⟩
  · exact e
  · have digging := leverTaken_not_digging s .drag lever state
    have idle : tryActivate .drag (frameLever .drag lever s) (leverTaken .drag lever s) = leverTaken .drag lever s :=
      if_neg (by simp [activates, digging])
    rw [e, idle, tightlineField, moving_of_atRest (leverTaken_atRest lever rest)]
    rfl

theorem shape_tightline_outside_run {lever : Word} {s : State} (h : s.mgu.mode ≠ .run) :
    ((shape .drag lever s).state.group .drag).tightline = false := by
  rcases shape_tightline lever s with e | ⟨-, e⟩
  · exact e
  · have outside : (tryActivate .drag (frameLever .drag lever s) (leverTaken .drag lever s)).mgu.mode ≠ .run := by
      rcases (shapeKept_tryActivate .drag (frameLever .drag lever s) (leverTaken .drag lever s)).mode with e | e <;> rw [e]
      · rcases leverTaken_mode .drag lever s with e | e <;> rw [e]
        · exact h
        · decide
      · decide
    simp [e, tightlineField, outside]

theorem shape_tightline_absent {lever : Word} {s : State} (h : s.profile .tightline = 0) :
    ((shape .drag lever s).state.group .drag).tightline = false := by
  rcases shape_tightline lever s with e | ⟨-, e⟩
  · exact e
  · have kept := (frameKept_leverTaken .drag lever s).trans
      (shapeKept_tryActivate .drag (frameLever .drag lever s) (leverTaken .drag lever s)).frameKept
    simp [e, tightlineField, tightlineActive, kept.profile, h]

theorem shape_tightline_walking {lever : Word} {s : State} (quiet : FrameQuiet s) (h : carriesWalk s.wsq.state = true) :
    ((shape .drag lever s).state.group .drag).tightline = false := by
  rcases shape_tightline lever s with e | ⟨own, -⟩
  · exact e
  · rw [leverTaken_wsq quiet] at own
    exact absurd (h.symm.trans own) (by decide)

theorem commandArrives_length (g : Axis) (s : State) : (commandArrives g s).alu.conds.length = s.alu.conds.length := by
  simp only [commandArrives]
  split
  · exact report_length _ _
  · rfl

/-- TIGHTLINE stands after a DRAG frame as its field does (R103). -/
theorem reported_tightline (lever : Word) {s : State} (length : s.alu.conds.length = 60) :
    ((reported .drag lever s).group .drag).tightline = ((shape .drag lever s).state.group .drag).tightline
      ∧ (reported .drag lever s).alu.raised cTightline = ((shape .drag lever s).state.group .drag).tightline := by
  have known : cTightline < (shape .drag lever s).state.alu.conds.length := by
    rw [shape_alu (by decide), commandArrives_length, length]
    decide
  exact ⟨((reacts_report _ _).group .drag).tightline, (report_level
    (frameReports .drag (shape .drag lever s).state) _ cTightline _ none (by decide) known List.mem_cons_self
    (List.nodup_singleton cTightline)).1⟩

/-! ### O57 -/

/-- The swing limit and the glide of a SWING frame, with the scaled torque and the reduction written out (R125 to R127). -/
theorem swingLimit_spec {s : State} (floor : 0 ≤ s.items.adaptFloor) (step : 0 ≤ s.items.adaptStep) :
    0 ≤ computedLimit s ∧ computedLimit s ≤ swingProfileTorque s
      ∧ (glideSwing s).swu.computed = some (computedLimit s)
      ∧ (s.env.selected = none → (glideSwing s).swu.applied = none)
      ∧ (s.env.selected.isSome = true → s.swu.applied = none → (glideSwing s).swu.applied = some (computedLimit s))
      ∧ (∀ x, s.env.selected.isSome = true → s.swu.applied = some x →
          ∃ y, (glideSwing s).swu.applied = some y ∧ |y - x| = min s.items.adaptStep |computedLimit s - x|
            ∧ |computedLimit s - y| = |computedLimit s - x| - |y - x|) := by
  obtain ⟨low, high⟩ := computedLimit_bounds floor
  have applied : (glideSwing s).swu.applied
      = if s.env.selected.isSome then some (glide s.items.adaptStep (computedLimit s) s.swu.applied) else none := rfl
  refine ⟨low, high, rfl, fun e => ?_, fun e absent => ?_, fun x e x' => ?_⟩
  · rw [applied, e]
    rfl
  · rw [applied, if_pos e, absent]
    rfl
  · rw [applied, if_pos e, x']
    exact ⟨_, rfl, glide_toward step _ x⟩

/-- Settles O57: `swingLimit_spec`, `shapeRest_limits` for the limits sent, and `reported_tightline` with the cases of the field. -/
theorem swingTorqueLimit : Obligations.SwingTorqueLimit := by
  refine ⟨fun s floor step => ?_, fun g v s live => ?_, fun l lever s h f ok => ⟨?_, fun rest state => ?_, fun outside quiet => ?_⟩⟩
  · obtain ⟨low, high, computed, absent, first, next⟩ := swingLimit_spec floor step
    refine ⟨low, high, computed, absent, first, next, rfl, fun none => ?_, ?_, fun x applied => ?_⟩
    · show scaled (s.profile .swingTorque) _ = 0
      rw [profile_none none, scaled, zero_mul, trunc, Int.zero_tdiv, ite_self]
    · rw [computedLimit_eq, swingReduction, swingLoad_eq]
      cases s.items.adaptMode <;> rfl
    · simp only [swingLimitSent, applied]
      rfl
  · obtain ⟨motoring, regen⟩ := shapeRest_limits live
    cases g
    case hoist => exact ⟨motoring, regen⟩
    case swing => exact ⟨motoring, regen⟩
    case walk => exact ⟨motoring, regen⟩
    case drag =>
      refine ⟨⟨motoring.trans (tightlineLimit_eq s _), regen.trans ?_⟩, ?_⟩
      · simp only [limitsOf, withRegen, tightlineLimit_eq]
        rfl
      · rw [shapeRest_tightline_enabled live]
        exact tightlineActive_iff s
  · obtain ⟨x, e⟩ := exec_command_reported .drag lever h f
    obtain ⟨field, raised⟩ := reported_tightline lever (s := goodFrameSeen s) ok.1
    exact ⟨_, e, field, raised⟩
  · exact shape_tightline_resting (s := goodFrameSeen s) (atRest_iff.2 rest) state
  · rcases outside with stopped | walking | absent
    · exact shape_tightline_outside_run (s := goodFrameSeen s) stopped
    · exact shape_tightline_walking (s := goodFrameSeen s) quiet walking
    · exact shape_tightline_absent (s := goodFrameSeen s) absent

end Sys2Proof.Machine
end

section
/-! The end of a frame (R92, R94): what a frame of an ACTIVE group in its own reference leaves, and O48. -/

namespace Sys2Proof.Machine

/-! ### An ACTIVE group's frame -/

/-- A group that is not HELD is not activated (R91). -/
theorem tryActivate_not_held {g : Axis} {v : Int} {s : State} (h : (s.group g).state ≠ .held) : tryActivate g v s = s :=
  if_neg (by simp [activates, h])

/-- The ramp value of a frame does not depend on what the SWU records of it or on the glide (R115, R126). -/
theorem activeQ_recordCaps (g : Axis) (v : Int) (s : State) : activeQ g v (recordCaps g s) = activeQ g v s := by
  have caps := recordCaps_caps g s
  unfold recordCaps at caps ⊢
  split at caps
  · rw [if_pos ‹_›, activeQ, caps]
    rfl
  · rw [if_neg ‹_›]

theorem stoppingQ_recordCaps (g : Axis) (s : State) : stoppingQ g (recordCaps g s) = stoppingQ g s := by
  have caps := recordCaps_caps g s
  unfold recordCaps at caps ⊢
  split at caps
  · rw [if_pos ‹_›, stoppingQ, caps]
    rfl
  · rw [if_neg ‹_›]

theorem recordCaps_items (g : Axis) (s : State) : (recordCaps g s).items = s.items := (shapeKept_recordCaps g s).items

/-- The frame that brings the idle count to BRAKE_DELAY leaves its group HELD at rest, its reference disabled (R92, R106). -/
theorem shapeRest_expires {g : Axis} {v : Int} {s : State} (active : (s.group g).state = .active)
    (due : (s.items.groups.get g).brakeDelay ≤ idleNext (s.group g) v (activeQ g v s)) :
    (shapeRest g v s).state.group g
      = { (s.group g).hold with tightline := tightlineField g (recordCaps g s), lastRef := .disabled (formOf g (recordCaps g s)) } := by
  have left : endFrame g v (recordCaps g s) = { (s.group g).hold with tightline := tightlineField g (recordCaps g s) } := by
    simp only [endFrame, recordCaps_group, active, activeQ_recordCaps, recordCaps_items, if_pos due]
  rw [shapeRest_group, shapeRest_ref, left, frameReference, if_neg (by simp [Group.moving, Group.hold])]

/-- The walk lever of a frame makes no group ACTIVE (R140, R142). -/
theorem walkLever_active {v : Int} {s : State} (h : ((walkLever v s).group .walk).state = .active) : (s.group .walk).state = .active := by
  revert h
  simp only [walkLever]
  split
  · exact fun _ => ‹_ ∧ _›.1
  · exact id

/-! ### O48 -/

/-- A record at rest with nothing of its last motion left (R92). -/
def Rested (r : Group) : Prop := r.atRest = true ∧ r.q = 0 ∧ r.idle = 0 ∧ r.neutralSeen = false

theorem rested_hold (r : Group) : Rested r.hold := ⟨rfl, rfl, rfl, rfl⟩

theorem rested_stop {r : Group} (h : Rested r) : Rested r.stop := by
  have still : r.stop = r := by
    obtain ⟨rest, -⟩ := h
    unfold Group.stop
    split
    · rename_i active
      simp [Group.atRest, active] at rest
    · rfl
  rwa [still]

theorem GroupWork.rested {s t : State} (h : GroupWork s t) {g : Axis} (k : Rested (s.group g)) : Rested (t.group g) :=
  h.keeps (P := fun _ => Rested) rested_stop (fun ⟨rest, q, idle, _⟩ => ⟨rest, q, idle, rfl⟩) (fun _ _ => rested_hold _)
    (fun _ => ⟨rfl, rfl, rfl, rfl⟩) g k

/-- A frame leaves the configuration and the blocks that measure as they were. -/
theorem frameKept_reported (g : Axis) (lever : Word) (s : State) : FrameKept s (reported g lever s) :=
  ((frameKept_leverTaken g lever s).trans (shapeKept_shape g lever s).frameKept).trans (reacts_report _ _).frameKept

/-- What a frame's lever does to a step in progress, for WALK alone (R140). -/
def walkLevered (g : Axis) (v : Int) (s : State) : State :=
  match g with
  | .walk => walkLever v s
  | _ => s

theorem walkLevered_of_ne {g : Axis} (h : g ≠ .walk) (v : Int) (s : State) : walkLevered g v s = s := by
  cases g
  case walk => exact absurd rfl h
  all_goals rfl

theorem walkLevered_active {g : Axis} {v : Int} {s : State} (h : ((walkLevered g v s).group g).state = .active) :
    (s.group g).state = .active := by
  cases g
  case walk => exact walkLever_active h
  all_goals exact h

/-- Without an activation the pipeline's rest finds the group and its ramp value as the walk lever left them. -/
theorem beforeRest_not_held {g : Axis} {s : State} (h : (s.group g).state ≠ .held) (v : Int) :
    (beforeRest g v s).group g = (walkLevered g v s).group g
      ∧ activeQ g v (beforeRest g v s) = activeQ g v (walkLevered g v s) := by
  have still := tryActivate_not_held h (v := v)
  cases g <;> simp only [beforeRest, still, walkLevered, and_self]
  case swing => exact ⟨rfl, rfl⟩

/-- The test of BRAKE_DELAY_EXPIRY, on the state that lever and walk lever leave (R92). -/
theorem brakeDelayDue_iff (g : Axis) (lever : Word) (s : State) : brakeDelayDue g lever s = true ↔
    ¬ (g = .drag ∧ carriesWalk (leverTaken g lever s).wsq.state = true)
      ∧ ((walkLevered g (frameLever g lever s) (leverTaken g lever s)).group g).state = .active
      ∧ (s.items.groups.get g).brakeDelay
        ≤ idleNext ((walkLevered g (frameLever g lever s) (leverTaken g lever s)).group g) (frameLever g lever s)
            (activeQ g (frameLever g lever s) (walkLevered g (frameLever g lever s) (leverTaken g lever s))) := by
  have tests : brakeDelayDue g lever s = (!(g == .drag && carriesWalk (leverTaken g lever s).wsq.state)
      && ((walkLevered g (frameLever g lever s) (leverTaken g lever s)).group g).state == .active
      && decide ((s.items.groups.get g).brakeDelay
        ≤ idleNext ((walkLevered g (frameLever g lever s) (leverTaken g lever s)).group g) (frameLever g lever s)
            (activeQ g (frameLever g lever s) (walkLevered g (frameLever g lever s) (leverTaken g lever s))))) := by
    cases g <;> rfl
  rw [tests]
  simp only [Bool.and_eq_true, Bool.not_eq_true', beq_iff_eq, decide_eq_true_eq, and_assoc, ← Bool.not_eq_true]

/-- A frame that `brakeDelayDue` finds due goes through the pipeline from a state with the group ACTIVE and the count at BRAKE_DELAY. -/
theorem brakeDelayDue_shape {g : Axis} {lever : Word} {s : State} (due : brakeDelayDue g lever s = true) :
    ∃ u, shape g lever s = shapeRest g (frameLever g lever s) u ∧ (u.group g).state = .active
      ∧ (u.items.groups.get g).brakeDelay ≤ idleNext (u.group g) (frameLever g lever s) (activeQ g (frameLever g lever s) u) := by
  obtain ⟨own, active, count⟩ := (brakeDelayDue_iff g lever s).1 due
  have before := walkLevered_active active
  obtain ⟨group, ramped⟩ := beforeRest_not_held (s := leverTaken g lever s) (by rw [before]; decide) (frameLever g lever s)
  refine ⟨beforeRest g (frameLever g lever s) (leverTaken g lever s), ?_, by rw [group, active], ?_⟩
  · rcases shape_cases g lever s with ⟨walk, -⟩ | ⟨-, e⟩
    · exact absurd walk own
    · exact e
  · rw [(shapeKept_beforeRest g _ _).items, (frameKept_leverTaken g lever s).items, group, ramped]
    exact count

/-- A neutral lever word is a neutral lever (R90). -/
theorem frameLever_zero (g : Axis) (s : State) : frameLever g 0 s = 0 := by
  have neutral : clamp (-1000) 1000 (signed 0) = 0 := rfl
  simp only [frameLever, leverOf, neutral, ite_self]

theorem reported_lastRef (g : Axis) (lever : Word) (s : State) (h : Axis) :
    ((reported g lever s).group h).lastRef = ((shape g lever s).state.group h).lastRef := ((reacts_report _ _).group h).lastRef

theorem ramp_rest (accel decel q : Int) : ramp accel decel q q = q := if_pos rfl

/-- At rest with a neutral lever a HOIST frame leaves Q at 0 (R100). -/
theorem activeQ_neutral {s : State} (creep : 0 ≤ s.items.limitCreep) (q : (s.group .hoist).q = 0) : activeQ .hoist 0 s = 0 := by
  have low (f : ProfileField) : 0 ≤ least (s.profile f) (limitCap .hoist s) :=
    least_nonneg (profile_nonneg s f) (capIf_nonneg _ creep)
  have pos : 0 ≤ (capsOf .hoist s).pos := least_nonneg (low .hoistUp) (capIf_nonneg _ le_rfl)
  have neg : 0 ≤ (capsOf .hoist s).neg := low .hoistDown
  have clip : (capsOf .hoist s).clip 0 = 0 := by
    simp only [Caps.clip, clamp]
    omega
  have neutral : target .hoist 0 s = 0 := rfl
  simp only [activeQ, neutral, clip, q, ramp_rest]

/-- Settles O48: the pipeline's own test brings the frame to `shapeRest_expires`, and a rested group stays so through the reports. -/
theorem brakeDelayExpiry : Obligations.BrakeDelayExpiry := by
  refine ⟨fun l g lever s h f due => ?_, fun s active q raised few count creep => ?_⟩
  · obtain ⟨x, e⟩ := exec_command_reported (l := l) g lever h f
    have same : exec (.brakeDelayExpiry l g lever) s = exec (.command l (natWord g.code) lever) s := if_pos due
    obtain ⟨u, shaped, active, count⟩ := brakeDelayDue_shape due
    have left := shapeRest_expires active count
    rw [← shaped] at left
    have rested : Rested ((reported g lever (goodFrameSeen s)).group g) :=
      (groupWork_report _ .none).rested (by rw [left]; exact ⟨rfl, rfl, rfl, rfl⟩)
    have ref := reported_lastRef g lever (goodFrameSeen s) g
    rw [left] at ref
    have kept := frameKept_reported g lever (goodFrameSeen s)
    obtain ⟨rest, q, idle, seen⟩ := rested
    refine ⟨_, same.trans e, rest, q, idle, seen, ?_, ?_, ⟨kept.items, kept.tables⟩, ⟨kept.tru, kept.dgu, kept.env⟩⟩
    · exact congrArg Reference.enable ref
    · exact congrArg Reference.speed ref
  · have arrived : commandArrives .hoist s = noted .hoist s := if_neg (by rw [State.setGroup_alu, raised]; decide)
    have taken : (leverTaken .hoist 0 s).group .hoist
        = { s.group .hoist with note := true, loss := 0, lastLever := some 0, neutralSeen := true } := by
      simp only [leverTaken, frameLever_zero, arrived, takeLever_group, noted_group, beq_self_eq_true, Bool.or_true]
    have items := (frameKept_leverTaken .hoist 0 s).items
    refine (brakeDelayDue_iff .hoist 0 s).2 ⟨by simp, ?_, ?_⟩
    · rw [walkLevered_of_ne (by decide), taken]
      exact active
    · rw [frameLever_zero, walkLevered_of_ne (by decide), activeQ_neutral (by rw [items]; exact creep) (by rw [taken]; exact q), taken]
      simpa [idleNext, satInc, few] using count

end Sys2Proof.Machine
end

section
/-! SUPPORT. A quiet COMMAND frame through the pipeline: the state it leaves before its own reports, which find the device calm. -/

namespace Sys2Proof.Machine

/-! ### The state a frame of a group's own reference leaves -/

/-- A neutral lever that ends a step in the park sector, which parks at once (R142). -/
def ParksNow (v : Int) (s : State) : Prop :=
  (s.group .walk).state = .active ∧ s.wsq.state = .stepping ∧ v = 0 ∧ s.inPark = true

/-- The sequencer's record as a lever of group `g` that does not park leaves it (R140). -/
def leveredWsq (g : Axis) (v : Int) (s : State) : Wsq :=
  if g = .walk ∧ (s.group .walk).state = .active ∧ s.wsq.state = .stepping then
    if v = 0 then { s.wsq with state := .finishing } else { s.wsq with dir := some (dirOf v) }
  else s.wsq

theorem leveredWsq_of_ne {g : Axis} (h : g ≠ .walk) (v : Int) (s : State) : leveredWsq g v s = s.wsq := if_neg fun ⟨e, _⟩ => h e

theorem walkLever_eq {v : Int} {s : State} (stays : ¬ ParksNow v s) : walkLever v s = s.withWsq (leveredWsq .walk v s) := by
  simp only [walkLever, leveredWsq, true_and]
  split
  · rename_i stepping
    split
    · rename_i neutral
      exact if_neg fun park => stays ⟨stepping.1, stepping.2, neutral, park⟩
    · rfl
  · rfl

/-- What follows the activation touches the SWU's record and the sequencer's alone, where the lever does not park. -/
theorem beforeRest_eq {g : Axis} {v : Int} {s : State} (stays : g = .walk → ¬ ParksNow v (tryActivate g v s)) :
    ∃ x, beforeRest g v s = ((tryActivate g v s).withSwu x).withWsq (leveredWsq g v (tryActivate g v s)) := by
  by_cases walk : g = .walk
  · subst walk
    exact ⟨(tryActivate .walk v s).swu, walkLever_eq (stays rfl)⟩
  · rw [leveredWsq_of_ne walk]
    cases g
    case swing => exact ⟨(glideSwing (tryActivate .swing v s)).swu, rfl⟩
    case walk => exact absurd rfl walk
    all_goals exact ⟨(tryActivate _ v s).swu, rfl⟩

/-- The rest of the pipeline touches the SWU's record and the group's alone. -/
theorem shapeRest_eq (g : Axis) (v : Int) (s : State) : ∃ x, (shapeRest g v s).state
    = (s.withSwu x).setGroup g { endFrame g v (recordCaps g s) with lastRef := (shapeRest g v s).ref } := by
  simp only [shapeRest]
  unfold recordCaps
  split
  · exact ⟨_, rfl⟩
  · exact ⟨_, rfl⟩

/-- What a frame leaves of the device that its own reports and the sequencer's reaction depend on. -/
structure Shapes (g : Axis) (s t : State) : Prop where
  alu : t.alu = s.alu
  tables : t.tables = s.tables
  mode : t.mgu.mode = s.mgu.mode
  other : ∀ h, h ≠ g → t.group h = s.group h

theorem Calm.shapes {g : Axis} {s t : State} (calm : Calm s) (h : Shapes g s t) : Calm t :=
  ⟨by rw [h.alu, h.tables]; exact calm.severity, by rw [h.alu, h.tables, h.mode]; exact calm.trip⟩

theorem Shapes.trans {g : Axis} {a b c : State} (h : Shapes g a b) (k : Shapes g b c) : Shapes g a c :=
  ⟨k.alu.trans h.alu, k.tables.trans h.tables, k.mode.trans h.mode, fun x ne => (k.other x ne).trans (h.other x ne)⟩

theorem shapes_setGroup (g : Axis) (s : State) (r : Group) : Shapes g s (s.setGroup g r) :=
  ⟨rfl, rfl, rfl, fun _ ne => State.setGroup_other s r ne⟩

theorem shapes_withSwu (g : Axis) (s : State) (x : Swu) : Shapes g s (s.withSwu x) := ⟨rfl, rfl, rfl, fun _ _ => rfl⟩

theorem shapes_withWsq (g : Axis) (s : State) (w : Wsq) : Shapes g s (s.withWsq w) := ⟨rfl, rfl, rfl, fun _ _ => rfl⟩

theorem shapes_tryActivate (g : Axis) (v : Int) (s : State) : Shapes g s (tryActivate g v s) := by
  unfold tryActivate
  split
  · cases g <;> exact ⟨rfl, rfl, rfl, fun _ ne => State.setGroup_other _ _ ne⟩
  · exact ⟨rfl, rfl, rfl, fun _ _ => rfl⟩

/-- A frame of its group's own reference that does not park: the state before its reports. -/
theorem shapeRest_shapes {g : Axis} {v : Int} {s : State} (stays : g = .walk → ¬ ParksNow v (tryActivate g v s)) :
    Shapes g s (shapeRest g v (beforeRest g v s)).state
      ∧ (shapeRest g v (beforeRest g v s)).state.wsq = leveredWsq g v (tryActivate g v s) := by
  obtain ⟨x, before⟩ := beforeRest_eq stays
  obtain ⟨y, after⟩ := shapeRest_eq g v (beforeRest g v s)
  have kept : Shapes g s (beforeRest g v s) := by
    rw [before]
    exact ((shapes_tryActivate g v s).trans (shapes_withSwu _ _ _)).trans (shapes_withWsq _ _ _)
  rw [after]
  refine ⟨(kept.trans (shapes_withSwu _ _ _)).trans (shapes_setGroup _ _ _), ?_⟩
  rw [State.setGroup_wsq, State.withSwu_wsq, before, State.withWsq_wsq]

/-! ### What the end of a frame leaves of its group -/

/-- A group at rest takes nothing of a frame's end, and its reference is disabled (R106). -/
theorem shapeRest_resting {g : Axis} {v : Int} {s : State} (rest : (s.group g).atRest = true) :
    (shapeRest g v s).ref = .disabled (formOf g (recordCaps g s)) ∧ ∃ x, (shapeRest g v s).state.group g
      = { s.group g with tightline := x, lastRef := .disabled (formOf g (recordCaps g s)) } := by
  have left : endFrame g v (recordCaps g s) = { s.group g with tightline := tightlineField g (recordCaps g s) } := by
    rcases atRest_iff.1 rest with e | e <;> simp only [endFrame, recordCaps_group, e]
  have ref : (shapeRest g v s).ref = .disabled (formOf g (recordCaps g s)) := by
    have still : ({ s.group g with tightline := tightlineField g (recordCaps g s) } : Group).moving = false := moving_of_atRest rest
    rw [shapeRest_ref, left, frameReference, still]
    exact if_neg (by simp)
  exact ⟨ref, _, by rw [shapeRest_group, left, ref]⟩

/-- An ACTIVE group that has not come to BRAKE_DELAY takes the ramp value and the idle count, and its reference is enabled (R92, R97). -/
theorem shapeRest_active {g : Axis} {v : Int} {s : State} (active : (s.group g).state = .active) (run : s.mgu.mode = .run)
    (early : ¬ (s.items.groups.get g).brakeDelay ≤ idleNext (s.group g) v (activeQ g v s)) :
    (shapeRest g v s).ref = liveReference g (recordCaps g s) (activeQ g v s) ∧ ∃ x, (shapeRest g v s).state.group g
      = { s.group g with
          q := activeQ g v s, idle := idleNext (s.group g) v (activeQ g v s), tightline := x
          lastRef := liveReference g (recordCaps g s) (activeQ g v s) } := by
  have left : endFrame g v (recordCaps g s) = { s.group g with
      q := activeQ g v s, idle := idleNext (s.group g) v (activeQ g v s), tightline := tightlineField g (recordCaps g s) } := by
    simp only [endFrame, recordCaps_group, active, activeQ_recordCaps, recordCaps_items, if_neg early]
  have there : (recordCaps g s).mgu.mode = .run := by
    unfold recordCaps
    split <;> exact run
  have ref : (shapeRest g v s).ref = liveReference g (recordCaps g s) (activeQ g v s) := by
    rw [shapeRest_ref, left, frameReference, if_pos ⟨there, by simp [Group.moving, active]⟩]
  exact ⟨ref, _, by rw [shapeRest_group, left, ref]⟩

/-! ### The lever of a quiet frame -/

section
variable {g : Axis} {lever : Word} {s : State} (quiet : FrameQuiet s)
include quiet

theorem leverTaken_calm : Calm (leverTaken g lever s) := by
  have calm := (calmStep_commandArrives quiet g).calm
  obtain ⟨p, e⟩ := takeLever_eq g (frameLever g lever s) (commandArrives g s)
  rw [leverTaken, e]
  exact ⟨calm.severity, calm.trip⟩

/-- A quiet frame's arrival and lever leave which groups move. -/
theorem leverTaken_moving (h : Axis) : ((leverTaken g lever s).group h).moving = (s.group h).moving := by
  have arrived := (calmStep_commandArrives quiet g).moving h
  by_cases e : h = g
  · subst e
    rw [leverTaken, takeLever_group]
    exact arrived.trans (by rw [noted_group]; rfl)
  · rw [leverTaken, takeLever_other g h _ _ e, arrived, noted_other s e]

theorem leverTaken_unreacting : Unreacting (leverTaken g lever s) :=
  .of_same (leverTaken_wsq quiet g lever) (leverTaken_moving quiet) quiet.unreacting

/-- A group that is not stopped by its severity takes of a quiet frame's arrival and lever what R88 and R90 say. -/
theorem leverTaken_group (kept : (s.group g).state = .active → stops ((commandArrives g s).alu.severity.get g) = false) :
    (leverTaken g lever s).group g = { s.group g with
      note := true, loss := 0, lastLever := some (frameLever g lever s)
      neutralSeen := (s.group g).neutralSeen || frameLever g lever s == 0 } := by
  have arrived : (commandArrives g s).group g = { s.group g with note := true, loss := 0 } := by
    rcases (calmStep_commandArrives quiet g).group g with e | ⟨e, stop⟩ <;> rw [e, noted_group]
    unfold Group.stop
    split
    · exact absurd (stop.symm.trans (kept ‹_›)) (by decide)
    · rfl
  rw [leverTaken, takeLever_group, arrived]

/-- Another group is HELD after a quiet frame's arrival and lever where it was. -/
theorem leverTaken_held {h : Axis} (ne : h ≠ g) : ((leverTaken g lever s).group h).state = .held ↔ (s.group h).state = .held := by
  rw [leverTaken, takeLever_other g h _ _ ne]
  rcases (calmStep_commandArrives quiet g).group h with e | ⟨e, -⟩ <;> rw [e, noted_other s ne]
  cases k : (s.group h).state <;> simp [Group.stop, k]

end

/-! ### A frame's own reports -/

/-- A frame reports level conditions that affect no group (R103, R120). -/
theorem frameReports_spec (g : Axis) (s : State) :
    ∀ r ∈ frameReports g s, r.isLevel = true ∧ (r.number = cTightline ∨ r.number = cSwingAtEdge) := by
  cases g
  case drag => exact List.forall_mem_singleton.2 ⟨rfl, .inl rfl⟩
  case swing =>
    simp only [frameReports]
    split
    · exact nofun
    · refine List.forall_mem_singleton.2 ?_
      unfold edgeReport
      split <;> exact ⟨rfl, .inr rfl⟩
  all_goals exact nofun

theorem level_mild {t10 : Table} {r : Report} (level : r.isLevel = true) (h : effSeverity t10 r.number ≠ .trip) : r.mild t10 := by
  cases r
  case level => exact fun _ => h
  case event => exact nomatch level

/-- A quiet frame's own reports raise nothing of severity TRIP. -/
theorem frameReports_mild {g : Axis} {lever : Word} {s : State} (quiet : FrameQuiet s) :
    ∀ r ∈ frameReports g (shape g lever s).state, r.mild (shape g lever s).state.tables.t10 := by
  have tables : (shape g lever s).state.tables = s.tables :=
    ((frameKept_leverTaken g lever s).trans (shapeKept_shape g lever s).frameKept).tables
  obtain ⟨-, -, mild, -⟩ := quiet
  intro r mem
  obtain ⟨level, number⟩ := frameReports_spec g _ r mem
  refine level_mild level ?_
  rw [tables]
  rcases number with e | e <;> rw [e]
  · exact mild _ (by decide)
  · exact mild _ (by decide)

/-- The own reports of a frame that leaves the device calm leave sequencer, part mode and severities. -/
theorem calmStep_reported {g : Axis} {lever : Word} {s : State} (quiet : FrameQuiet s) (calm : Calm (shape g lever s).state)
    (idle : Unreacting (shape g lever s).state) : CalmStep (shape g lever s).state (reported g lever s)
      ∧ (reported g lever s).alu.severity = (shape g lever s).state.alu.severity := by
  have spec := frameReports_spec g (shape g lever s).state
  refine calmStep_report_unaffecting calm idle (fun r mem => (spec r mem).1) (frameReports_mild quiet) fun r mem => ?_
  rcases (spec r mem).2 with e | e <;> rw [e] <;> rfl

/-- A group that a quiet frame leaves HELD at rest stays so through the frame's own reports (R92, R94). -/
theorem reported_rests {g : Axis} {lever : Word} {s : State} (quiet : FrameQuiet s) (outside : s.mgu.mode ≠ .halted)
    (shapes : Shapes g (leverTaken g lever s) (shape g lever s).state)
    (held : HeldAtRest (shape g lever s).state.mgu.mode ((shape g lever s).state.group g)) :
    ((reported g lever s).group g).state = .held ∧ ((reported g lever s).group g).q = 0
      ∧ ((reported g lever s).group g).idle = 0 ∧ ((reported g lever s).group g).neutralSeen = false := by
  have tables : (shape g lever s).state.tables = s.tables := shapes.tables.trans (frameKept_leverTaken g lever s).tables
  have mode := report_mode ((leverTaken_calm quiet).shapes shapes) (frameReports_mild quiet) (tables ▸ quiet.reactionMild)
  refine (groupWork_report (frameReports g (shape g lever s).state) .none).heldAtRest held ?_
  rw [mode, shapes.mode, leverTaken_mode_quiet quiet]
  exact outside

end Sys2Proof.Machine
end

section
/-! COMMAND frames (R88, R90, R91, R105): what every frame leaves, and the activation of a HELD group by a quiet one; with them O21. -/

namespace Sys2Proof.Machine

/-! ### What every COMMAND frame leaves -/

/-- The lever after clamp and deadband (R90). -/
theorem frameLever_eq (g : Axis) (lever : Word) (s : State) : frameLever g lever s
    = if |max (-1000) (min 1000 lever.toInt)| < (s.items.groups.get g).deadband then 0
      else max (-1000) (min 1000 lever.toInt) := by
  rw [← mag_eq_abs]
  rfl

/-- The group's record once its lever is taken (R88, R90). -/
theorem leverTaken_own (g : Axis) (lever : Word) (s : State) : ((leverTaken g lever s).group g).note = true
    ∧ ((leverTaken g lever s).group g).loss = 0
    ∧ ((leverTaken g lever s).group g).lastLever = some (frameLever g lever s) := by
  have arrived := (reacts_commandArrives g s).group g
  rw [noted_group] at arrived
  rw [leverTaken, takeLever_group]
  exact ⟨arrived.note, arrived.loss, rfl⟩

/-- The reference written is the group's last reference, after its own reports too (R105). -/
theorem shape_lastRef (g : Axis) (lever : Word) (s : State) : ((shape g lever s).state.group g).lastRef = (shape g lever s).ref := by
  rcases shape_cases g lever s with ⟨⟨rfl, -⟩, e⟩ | ⟨-, e⟩ <;> rw [e]
  · rw [shapeWalk, State.setGroup_same]
  · rw [shapeRest_group]

/-- Another group reacts to a COMMAND frame, and takes nothing of it else. -/
theorem reported_other {g h : Axis} (ne : h ≠ g) (lever : Word) (s : State) : GroupReacts (s.group h) ((reported g lever s).group h) := by
  have arrived := (reacts_commandArrives g s).group h
  rw [noted_other s ne] at arrived
  have taken := (shapeKept_shape g lever s).other h ne
  rw [leverTaken, takeLever_other g h _ _ ne] at taken
  exact (arrived.trans taken).trans ((reacts_report _ _).group h)

theorem reported_own (g : Axis) (lever : Word) (s : State) : ((reported g lever s).group g).note = true
    ∧ ((reported g lever s).group g).loss = 0
    ∧ ((reported g lever s).group g).lastLever = some (frameLever g lever s)
    ∧ (reported g lever s).mgu.lastLevers.get g = some (frameLever g lever s) := by
  obtain ⟨note, loss, taken⟩ := leverTaken_own g lever s
  have shaped := shapeKept_shape g lever s
  have reports := reacts_report (frameReports g (shape g lever s).state) (shape g lever s).state
  have group := reports.group g
  refine ⟨group.note.trans (shaped.note.trans note), group.loss.trans (shaped.loss.trans loss),
    group.lastLever.trans (shaped.lever.trans taken), ?_⟩
  obtain ⟨p, e⟩ := takeLever_eq g (frameLever g lever s) (commandArrives g s)
  have levers : (leverTaken g lever s).mgu.lastLevers.get g = some (frameLever g lever s) := by
    rw [leverTaken, e]
    exact PerAxis.get_set _ _ _
  rw [← levers, ← shaped.levers]
  exact congrArg (PerAxis.get · g) reports.levers

/-- The words of a REFERENCE frame as chapter 12.3 lays them out. -/
theorem referenceWords_eq (g : Axis) (r : Reference) (s : State) : referenceWords g r s
    = [packBytes g.code (if r.enable then 1 else 0), wordOf r.speed, wordOf r.motoring, wordOf r.regen,
        packBytes r.form.code (if g = .drag then s.wsq.command.code else 0),
        packBytes s.lpu.ownAddress (if g == .walk then s.wsq.state.code else 255), natWord s.lpu.lastCycle,
        if g == .walk then wordOf s.wsq.steps else 0, if g == .walk && s.wsq.offPark then 1 else 0] := by
  cases g
  case walk =>
    have park : natWord (flag s.wsq.offPark) = if s.wsq.offPark then 1 else 0 := by cases s.wsq.offPark <;> rfl
    simp only [referenceWords, park]
    rfl
  all_goals rfl

theorem referenceFrame_eq (g : Axis) (r : Reference) {s t : State} (h : t.lpu = (goodFrameSeen s).lpu) :
    referenceFrame g r t = frame kindReference broadcast s.ownByte (wordsToBytes
      [packBytes g.code (if r.enable then 1 else 0), wordOf r.speed, wordOf r.motoring, wordOf r.regen,
        packBytes r.form.code (if g = .drag then t.wsq.command.code else 0),
        packBytes s.lpu.ownAddress (if g == .walk then t.wsq.state.code else 255), natWord s.lpu.lastCycle,
        if g == .walk then wordOf t.wsq.steps else 0, if g == .walk && t.wsq.offPark then 1 else 0]) := by
  have own : t.ownByte = s.ownByte := by rw [State.ownByte, h]; rfl
  rw [referenceFrame, own, referenceWords_eq, h]
  rfl

/-! ### The activation test -/

/-- The part of the activation test that is the group's own, on a device (R91, R139). -/
def ownTest (g : Axis) (s : State) : Bool :=
  match g with
  | .walk => grantsStep s
  | _ => (s.dgu.values.get g.drive).form != .unresolved && s.wsq.state == .digging

theorem activates_eq (g : Axis) (v : Int) (s : State) : activates g v s
    = ((s.group g).state == .held && v != 0 && s.mgu.mode == .run && ownTest g s && (s.group g).neutralSeen
      && !stops (s.alu.severity.get g)) := rfl

/-- What R91, and R139 for WALK, ask of the device for a group of its own. -/
def OwnReady (g : Axis) (s : State) : Prop :=
  match g with
  | .walk => s.wsq.state = .walkReady ∧ (s.group .hoist).state = .held ∧ (s.group .swing).state = .held
      ∧ s.wsq.brake = true ∧ s.tables.t8.state = .live
  | _ => (s.dgu.values.get g.drive).form ≠ .unresolved ∧ s.wsq.state = .digging

/-- What R91 and R139 ask of a HELD group and the device besides a lever outside the deadband. -/
def ReadyToMove (g : Axis) (s : State) : Prop :=
  s.mgu.mode = .run ∧ (s.group g).neutralSeen = true ∧ stops ((commandArrives g s).alu.severity.get g) = false ∧ OwnReady g s

section
variable {g : Axis} {lever : Word} {s : State}

theorem ownTest_iff (quiet : FrameQuiet s) : ownTest g (leverTaken g lever s) = true ↔ OwnReady g s := by
  have kept := frameKept_leverTaken g lever s
  cases g
  case walk =>
    have hoist := leverTaken_held (lever := lever) quiet (g := .walk) (h := .hoist) (by decide)
    have swing := leverTaken_held (lever := lever) quiet (g := .walk) (h := .swing) (by decide)
    simp only [ownTest, OwnReady, grantsStep, Bool.and_eq_true, beq_iff_eq, hoist, swing, leverTaken_wsq quiet, kept.tables,
      Table.isLive, and_assoc]
  all_goals simp only [ownTest, OwnReady, Bool.and_eq_true, bne_iff_ne, beq_iff_eq, leverTaken_wsq quiet, kept.dgu]

/-- A HELD group is activated by a quiet frame as R91 and R139 say. -/
theorem activates_iff (quiet : FrameQuiet s) (held : (s.group g).state = .held) :
    activates g (frameLever g lever s) (leverTaken g lever s) = true ↔ frameLever g lever s ≠ 0 ∧ ReadyToMove g s := by
  have group := leverTaken_group (lever := lever) quiet (g := g) (by rw [held]; exact nofun)
  rw [activates_eq, ReadyToMove, ← ownTest_iff (lever := lever) quiet, group, leverTaken_alu, leverTaken_mode_quiet quiet]
  simp only [held, Bool.and_eq_true, beq_iff_eq, bne_iff_ne, Bool.or_eq_true, Bool.not_eq_true']
  tauto

/-! ### A HELD group's frame -/

/-- What follows the activation leaves the groups and the part mode, where the lever does not park. -/
theorem beforeRest_keeps {v : Int} {u : State} (stays : g = .walk → ¬ ParksNow v (tryActivate g v u)) :
    (∀ h, (beforeRest g v u).group h = (tryActivate g v u).group h)
      ∧ (beforeRest g v u).mgu.mode = (tryActivate g v u).mgu.mode := by
  obtain ⟨x, e⟩ := beforeRest_eq stays
  rw [e]
  exact ⟨fun _ => rfl, rfl⟩

theorem activate_group (g : Axis) (v : Int) (u : State) :
    (activate g v u).group g = { u.group g with state := .active, idle := 0 } := by
  cases g
  case walk => exact State.setGroup_same u .walk { u.group .walk with state := .active, idle := 0 }
  all_goals exact State.setGroup_same _ _ _

/-- The sequencer's record as an activation and the lever behind it leave it (R139, R140). -/
theorem activate_wsq (g : Axis) {v : Int} (moves : v ≠ 0) (u : State) : leveredWsq g v (activate g v u)
    = if g = .walk then { u.wsq with state := .stepping, dir := some (dirOf v), mismatch := 0, disagree := 0 } else u.wsq := by
  by_cases walk : g = .walk
  · subst walk
    have active : ((activate .walk v u).group .walk).state = .active := by rw [activate_group]
    rw [if_pos rfl, leveredWsq, if_pos ⟨rfl, active, rfl⟩, if_neg moves]
    rfl
  · rw [if_neg walk, leveredWsq_of_ne walk]
    cases g
    case walk => exact absurd rfl walk
    all_goals rfl

/-- A calm report leaves a group that its severity does not stop (R162). -/
theorem CalmStep.kept {u t : State} (step : CalmStep u t)
    (h : (u.group g).state = .active → stops (t.alu.severity.get g) = false) : t.group g = u.group g := by
  rcases step.group g with e | ⟨e, stop⟩
  · exact e
  · rw [e, Group.stop]
    split
    · exact absurd (stop.symm.trans (h ‹_›)) (by decide)
    · rfl

/-- A frame that activates its group leaves it ACTIVE with an enabled reference (R91, R106). -/
theorem shape_activated (quiet : FrameQuiet s) (held : (s.group g).state = .held) (moves : frameLever g lever s ≠ 0)
    (ready : ReadyToMove g s) (delay : 1 ≤ (s.items.groups.get g).brakeDelay) :
    Shapes g (leverTaken g lever s) (shape g lever s).state
      ∧ (shape g lever s).state.wsq = (if g = .walk then { s.wsq with
          state := .stepping, dir := some (dirOf (frameLever g lever s)), mismatch := 0, disagree := 0 } else s.wsq)
      ∧ ((shape g lever s).state.group g).state = .active ∧ ((shape g lever s).state.group g).idle = 0
      ∧ ((shape g lever s).state.group g).lastRef.enable = true := by
  have act : tryActivate g (frameLever g lever s) (leverTaken g lever s) = activate g (frameLever g lever s) (leverTaken g lever s) :=
    if_pos ((activates_iff quiet held).2 ⟨moves, ready⟩)
  obtain ⟨run, -, -, own⟩ := ready
  have stays : g = .walk → ¬ ParksNow (frameLever g lever s) (tryActivate g (frameLever g lever s) (leverTaken g lever s)) :=
    fun _ park => moves park.2.2.1
  obtain ⟨shapes, wsq⟩ := shapeRest_shapes stays
  obtain ⟨groups, mode⟩ := beforeRest_keeps stays
  have active : ((beforeRest g (frameLever g lever s) (leverTaken g lever s)).group g).state = .active := by
    rw [groups, act, activate_group]
  have running : (beforeRest g (frameLever g lever s) (leverTaken g lever s)).mgu.mode = .run := by
    rw [mode, (shapes_tryActivate g _ _).mode, leverTaken_mode_quiet quiet, run]
  have items : (beforeRest g (frameLever g lever s) (leverTaken g lever s)).items = s.items :=
    (shapeKept_beforeRest g _ _).items.trans (frameKept_leverTaken g lever s).items
  have zero (r : Group) (q : Int) : idleNext r (frameLever g lever s) q = 0 := if_neg fun ⟨e, _⟩ => moves e
  obtain ⟨ref, x, group⟩ := shapeRest_active active running (by rw [zero, items]; omega)
  rcases shape_cases g lever s with ⟨⟨rfl, walk⟩, -⟩ | ⟨-, e⟩
  · rw [leverTaken_wsq quiet, own.2] at walk
    exact absurd walk (by decide)
  · rw [e]
    refine ⟨shapes, by rw [wsq, act, activate_wsq g moves, leverTaken_wsq quiet], by rw [group]; exact active, ?_, by rw [group]; rfl⟩
    rw [group]
    exact zero _ _

/-- A frame that does not activate a HELD group leaves its state, and a reference of its own is disabled (R90, R91, R106). -/
theorem shape_held (quiet : FrameQuiet s) (held : (s.group g).state = .held) (stuck : ¬ (frameLever g lever s ≠ 0 ∧ ReadyToMove g s)) :
    Shapes g (leverTaken g lever s) (shape g lever s).state ∧ (shape g lever s).state.wsq = s.wsq
      ∧ ∃ x ref, (shape g lever s).state.group g = { (leverTaken g lever s).group g with tightline := x, lastRef := ref }
        ∧ (¬ (g = .drag ∧ carriesWalk s.wsq.state = true) → ∃ f, ref = .disabled f) := by
  have idle : tryActivate g (frameLever g lever s) (leverTaken g lever s) = leverTaken g lever s :=
    if_neg fun passes => stuck ((activates_iff quiet held).1 passes)
  have still : ((leverTaken g lever s).group g).state = .held := by
    rw [leverTaken_group quiet (by rw [held]; exact nofun)]
    exact held
  rcases shape_cases g lever s with ⟨⟨rfl, walk⟩, e⟩ | ⟨-, e⟩ <;> rw [e]
  · refine ⟨shapes_setGroup _ _ _, leverTaken_wsq quiet _ _, false, walkReference (leverTaken .drag lever s), ?_, fun own => ?_⟩
    · rw [shapeWalk, State.setGroup_same, walkFrame_rest _ (by rw [still]; exact nofun)]
    · exact absurd ⟨rfl, by rwa [leverTaken_wsq quiet] at walk⟩ own
  · have stays : g = .walk → ¬ ParksNow (frameLever g lever s) (tryActivate g (frameLever g lever s) (leverTaken g lever s)) := by
      rintro rfl ⟨active, -⟩
      rw [idle, still] at active
      exact nomatch active
    obtain ⟨shapes, wsq⟩ := shapeRest_shapes stays
    obtain ⟨groups, -⟩ := beforeRest_keeps stays
    have rest : ((beforeRest g (frameLever g lever s) (leverTaken g lever s)).group g).atRest = true := by
      rw [groups, idle]
      exact atRest_iff.2 (.inl still)
    obtain ⟨-, x, group⟩ := shapeRest_resting (v := frameLever g lever s) rest
    refine ⟨shapes, ?_, x, _, by rw [group, groups, idle], fun _ => ⟨_, rfl⟩⟩
    rw [wsq, idle, leveredWsq, if_neg, leverTaken_wsq quiet]
    rintro ⟨rfl, active, -⟩
    exact nomatch still.symm.trans active

end

/-! ### O21 -/

/-- A HELD group's frame with a lever outside the deadband that finds it ready (R91, R139). -/
theorem reported_activated {g : Axis} {lever : Word} {s : State} (quiet : FrameQuiet s) (held : (s.group g).state = .held)
    (moves : frameLever g lever s ≠ 0) (ready : ReadyToMove g s) (delay : 1 ≤ (s.items.groups.get g).brakeDelay) :
    ((reported g lever s).group g).state = .active ∧ ((reported g lever s).group g).idle = 0
      ∧ ((reported g lever s).group g).lastRef.enable = true ∧ (reported g lever s).mgu.mode = .run
      ∧ (g = .walk → (reported g lever s).wsq = { s.wsq with
          state := .stepping, dir := some (dirOf (frameLever g lever s)), mismatch := 0, disagree := 0 }) := by
  obtain ⟨shapes, wsq, active, idle, enable⟩ := shape_activated quiet held moves ready delay
  obtain ⟨run, -, free, own⟩ := ready
  have calm : Calm (shape g lever s).state := (leverTaken_calm quiet).shapes shapes
  have unreacting : Unreacting (shape g lever s).state := by
    by_cases walk : g = .walk
    · subst walk
      rw [if_pos rfl] at wsq
      exact ⟨fun _ => by rw [Group.moving, active]; rfl, by rw [wsq]; exact nofun⟩
    · rw [if_neg walk] at wsq
      have digging : s.wsq.state = .digging := by
        cases g
        case walk => exact absurd rfl walk
        all_goals exact own.2
      exact ⟨by rw [wsq, digging]; exact nofun, by rw [wsq, digging]; exact nofun⟩
  obtain ⟨step, severity⟩ := calmStep_reported quiet calm unreacting
  have group := step.kept (g := g) fun _ => by rw [severity, shapes.alu, leverTaken_alu]; exact free
  rw [group]
  refine ⟨active, idle, enable, ?_, fun walk => ?_⟩
  · rw [step.mode, shapes.mode, leverTaken_mode_quiet quiet, run]
  · rw [step.wsq, wsq, if_pos walk]

/-- A HELD group's frame that does not activate it (R90, R91). -/
theorem reported_held {g : Axis} {lever : Word} {s : State} (quiet : FrameQuiet s) (held : (s.group g).state = .held)
    (stuck : ¬ (frameLever g lever s ≠ 0 ∧ ReadyToMove g s)) :
    ((reported g lever s).group g).state = .held ∧ ((reported g lever s).group g).q = (s.group g).q
      ∧ ((reported g lever s).group g).idle = (s.group g).idle
      ∧ ((reported g lever s).group g).neutralSeen = ((s.group g).neutralSeen || frameLever g lever s == 0)
      ∧ (reported g lever s).mgu.mode = s.mgu.mode ∧ (reported g lever s).wsq = s.wsq
      ∧ (¬ (g = .drag ∧ carriesWalk s.wsq.state = true) →
          ((reported g lever s).group g).lastRef.enable = false ∧ ((reported g lever s).group g).lastRef.speed = 0) := by
  obtain ⟨shapes, wsq, x, ref, left, disabled⟩ := shape_held quiet held stuck
  have taken := leverTaken_group (lever := lever) quiet (g := g) (by rw [held]; exact nofun)
  have calm : Calm (shape g lever s).state := (leverTaken_calm quiet).shapes shapes
  have unreacting : Unreacting (shape g lever s).state := by
    refine (leverTaken_unreacting (g := g) (lever := lever) quiet).of_same (wsq.trans (leverTaken_wsq quiet g lever).symm) fun h => ?_
    by_cases e : h = g
    · subst e
      rw [left]
      rfl
    · rw [shapes.other h e]
  obtain ⟨step, -⟩ := calmStep_reported quiet calm unreacting
  have group := step.kept (g := g) fun active => by
    rw [left, taken] at active
    exact nomatch held.symm.trans active
  rw [group, left, taken]
  refine ⟨held, rfl, rfl, rfl, ?_, step.wsq.trans wsq, fun own => ?_⟩
  · rw [step.mode, shapes.mode, leverTaken_mode_quiet quiet]
  · obtain ⟨f, rfl⟩ := disabled own
    exact ⟨rfl, rfl⟩

/-- Settles O21: `reported_own`, `reported_other` and `referenceFrame_eq` for every frame, `reported_activated` and `reported_held` for
the activation. -/
theorem commandFrame : Obligations.CommandFrame := by
  refine ⟨fun l g lever s h f => ?_, fun l group lever s h f large => ?_, fun l g lever s h f quiet held => ⟨fun moves ready delay => ?_,
    fun stuck => ?_⟩⟩
  · have kept := frameKept_reported g lever (goodFrameSeen s)
    have shaped := (frameKept_leverTaken g lever (goodFrameSeen s)).trans (shapeKept_shape g lever _).frameKept
    have frame := referenceFrame_eq g (shape g lever (goodFrameSeen s)).ref shaped.lpu
    obtain ⟨note, loss, taken, copy⟩ := reported_own g lever (goodFrameSeen s)
    obtain ⟨x, offered⟩ := commandGroup_eq g lever (goodFrameSeen s)
    have delivered := delivered_offerForwarded
      (referenceFrame g (shape g lever (goodFrameSeen s)).ref (shape g lever (goodFrameSeen s)).state) kept.lpu
    refine ⟨_, exec_command g lever h f, ?_⟩
    rw [offered]
    refine ⟨note, loss, ⟨taken.trans (congrArg some (frameLever_eq g lever s)), copy.trans taken.symm⟩, ?_, ?_, ?_, ?_, frame,
      (reported_lastRef g lever _ g).trans (shape_lastRef g lever _), fun y ne => ?_, ⟨kept.items, kept.tables⟩,
      ⟨kept.tru, kept.dgu, kept.env⟩, kept.pending⟩
    · rw [← offered]
      exact delivered
    · rw [frame]; rfl
    · rw [frame]; rfl
    · rw [frame]; rfl
    · have reacts := reported_other ne lever (goodFrameSeen s)
      exact ⟨reacts.lastRef, reacts.lastLever, reacts.q⟩
  · refine ⟨_, congrArg Host.Outcome.next (arrival_in l 4 _ s h f), ?_⟩
    rw [takeCommand, Axis.ofCode_large large]
    exact ⟨nothingElse_offerForwarded _ s, delivered_offerForwarded _ rfl⟩
  · obtain ⟨x, e⟩ := exec_command_reported g lever h f
    exact ⟨_, e, reported_activated (s := goodFrameSeen s) quiet held moves ready delay⟩
  · obtain ⟨x, e⟩ := exec_command_reported g lever h f
    refine ⟨_, e, reported_held (s := goodFrameSeen s) quiet held fun ⟨moves, ready⟩ => ?_⟩
    rcases stuck with neutral | not
    · exact moves neutral
    · exact not ready

end Sys2Proof.Machine
end

section
/-! Curve, ramp and pullback as arithmetic (R97, R100, R104). -/

namespace Sys2Proof.Machine

/-! ### The ramp -/

theorem sign_eq (v : Int) : sign v = v.sign := by
  rcases lt_trichotomy v 0 with neg | rfl | pos
  · rw [Int.sign_eq_neg_one_of_neg neg, sign, if_neg (by omega), if_pos neg]
  · rfl
  · rw [Int.sign_eq_one_of_pos pos, sign, if_pos pos]

section
variable {accel decel t q : Int}

theorem ramp_up (hq : 0 ≤ q) (ht : q < t) : ramp accel decel t q = q + min accel (t - q) := by
  simp only [ramp, sign, mag]
  split_ifs <;> omega

theorem ramp_down (hq : q ≤ 0) (ht : t < q) : ramp accel decel t q = q - min accel (q - t) := by
  simp only [ramp, sign, mag]
  split_ifs <;> omega

theorem ramp_fall_pos (ht : 0 < t) (hq : t < q) : ramp accel decel t q = q - min decel (q - t) := by
  simp only [ramp, sign, mag]
  split_ifs <;> omega

theorem ramp_fall_neg (ht : t < 0) (hq : q < t) : ramp accel decel t q = q + min decel (t - q) := by
  simp only [ramp, sign, mag]
  split_ifs <;> omega

/-- Where the target is 0 or on the other side, Q falls toward 0 (R100). -/
theorem ramp_across (moving : q ≠ 0) (across : sign t ≠ sign q) : ramp accel decel t q = q - sign q * min decel (mag q) := by
  rw [ramp, if_neg fun e => across (congrArg sign e), if_neg, if_neg across]
  rintro (rest | ⟨same, -⟩)
  · exact moving rest
  · exact across same

theorem ramp_to_zero_pos (hq : 0 < q) (ht : t ≤ 0) : ramp accel decel t q = q - min decel q := by
  have side : sign q = 1 := if_pos hq
  rw [ramp_across hq.ne' (by rw [side, sign, if_neg (not_lt.2 ht)]; split <;> decide), side, one_mul, mag, if_neg (not_lt.2 hq.le)]

theorem ramp_to_zero_neg (hq : q < 0) (ht : 0 ≤ t) : ramp accel decel t q = q + min decel (-q) := by
  have side : sign q = -1 := by rw [sign, if_neg (not_lt.2 hq.le), if_pos hq]
  rw [ramp_across hq.ne (by rw [side, sign]; split_ifs <;> omega), side, neg_one_mul, sub_neg_eq_add, mag, if_pos hq]

/-- The rows of R100's table. -/
theorem ramp_cases (accel decel t q : Int) :
    (t = q ∧ ramp accel decel t q = q) ∨ (0 ≤ q ∧ q < t ∧ ramp accel decel t q = q + min accel (t - q))
      ∨ (q ≤ 0 ∧ t < q ∧ ramp accel decel t q = q - min accel (q - t))
      ∨ (0 < t ∧ t < q ∧ ramp accel decel t q = q - min decel (q - t))
      ∨ (t < 0 ∧ q < t ∧ ramp accel decel t q = q + min decel (t - q))
      ∨ (0 < q ∧ t ≤ 0 ∧ ramp accel decel t q = q - min decel q)
      ∨ (q < 0 ∧ 0 ≤ t ∧ ramp accel decel t q = q + min decel (-q)) := by
  rcases lt_trichotomy t q with below | rfl | above
  · rcases le_or_gt q 0 with hq | hq
    · exact .inr (.inr (.inl ⟨hq, below, ramp_down hq below⟩))
    · rcases le_or_gt t 0 with ht | ht
      · exact .inr (.inr (.inr (.inr (.inr (.inl ⟨hq, ht, ramp_to_zero_pos hq ht⟩)))))
      · exact .inr (.inr (.inr (.inl ⟨ht, below, ramp_fall_pos ht below⟩)))
  · exact .inl ⟨rfl, ramp_rest _ _ _⟩
  · rcases le_or_gt 0 q with hq | hq
    · exact .inr (.inl ⟨hq, above, ramp_up hq above⟩)
    · rcases le_or_gt 0 t with ht | ht
      · exact .inr (.inr (.inr (.inr (.inr (.inr ⟨hq, ht, ramp_to_zero_neg hq ht⟩)))))
      · exact .inr (.inr (.inr (.inr (.inl ⟨ht, above, ramp_fall_neg ht above⟩))))

/-- Q never crosses zero within one frame, its magnitude rises by at most `accel` and falls by at most `decel`, and it comes no further
from the target (R100). -/
theorem ramp_bounds (ha : 0 ≤ accel) (hd : 0 ≤ decel) :
    (0 ≤ q → 0 ≤ t → 0 ≤ ramp accel decel t q) ∧ (q ≤ 0 → t ≤ 0 → ramp accel decel t q ≤ 0)
      ∧ (0 < q → 0 ≤ ramp accel decel t q) ∧ (q < 0 → ramp accel decel t q ≤ 0)
      ∧ |ramp accel decel t q| - |q| ≤ accel ∧ |q| - |ramp accel decel t q| ≤ decel
      ∧ |ramp accel decel t q - t| ≤ |q - t| := by
  simp only [abs_eq_max_neg]
  rcases ramp_cases accel decel t q with h | h | h | h | h | h | h <;> omega

end

/-! ### Pullback -/

theorem pullback_within_limit {gain motoring : Int} {v : GroupValues} (hg : 0 ≤ gain) (h : |v.torque| ≤ motoring) (q : Int) :
    pullback gain motoring v q = q := by
  have none : pulledBack gain motoring v.torque = 0 := by
    rw [pulledBack, max_eq_left (sub_nonpos.2 h), zero_mul, Int.zero_tdiv]
  by_cases full : v.form = .full
  · exact pullback_full full
  · rcases le_total 0 q with pos | neg
    · rw [pullback_forward full hg pos, none, min_eq_right pos, sub_zero]
    · rw [pullback_backward full hg neg, none, min_eq_right (neg_nonneg.2 neg), add_zero]

theorem pullback_zero (gain motoring : Int) (v : GroupValues) : pullback gain motoring v 0 = 0 := by
  unfold pullback
  split
  · rfl
  · simp [sign]

/-! ### The curve -/

theorem curveTarget_live {t : Table} {v : Int} (moves : v ≠ 0) (live : t.state = .live) :
    curveTarget t v = v.sign * curveMagnitude t |v| := by
  rw [curveTarget, if_neg (by simp [moves, Table.isLive, live]), sign_eq, mag_eq_abs]

theorem curveTarget_idle {t : Table} {v : Int} (h : v = 0 ∨ t.state ≠ .live) : curveTarget t v = 0 :=
  if_pos (by simpa [Table.isLive] using h)

/-- On the segment of the lever's magnitude the curve interpolates (R97). -/
theorem curveMagnitude_segment {t : Table} {m : Int} {k : Nat} (exists_ : k < t.num 0) (inside : m ≤ curveX t (k + 1))
    (first : ∀ j, j < k → curveX t (j + 1) < m) : curveMagnitude t m
      = curveY t k + trunc ((curveY t (k + 1) - curveY t k) * (m - curveX t k)) (curveX t (k + 1) - curveX t k) := by
  have found : (List.range (t.num 0)).find? (fun k => decide (m ≤ curveX t (k + 1))) = some k := by
    rw [List.find?_range_eq_some]
    exact ⟨decide_eq_true inside, List.mem_range.2 exists_, fun j before => by simpa using first j before⟩
  rw [curveMagnitude, found]

/-- Beyond the last point the curve keeps its value (R97). -/
theorem curveMagnitude_beyond {t : Table} {m : Int} (h : ∀ j, j < t.num 0 → curveX t (j + 1) < m) :
    curveMagnitude t m = curveY t (t.num 0) := by
  have none : (List.range (t.num 0)).find? (fun k => decide (m ≤ curveX t (k + 1))) = none := by
    rw [List.find?_range_eq_none]
    exact fun j below => by simpa using h j below
  rw [curveMagnitude, none]

end Sys2Proof.Machine
end

section
/-! A COMMAND frame of an ACTIVE and of a STOPPING group of a quiet device (R92, R94, R97 to R101, R140), and O54. -/

namespace Sys2Proof.Machine

/-! ### The target and the ramp value of an ACTIVE group -/

/-- The target of an ACTIVE group's frame before the caps: the finish speed where the step ends, else the curve (R97, R140). -/
def frameTarget (g : Axis) (v : Int) (s : State) : Int :=
  if g = .walk ∧ (s.wsq.state = .finishing ∨ v = 0) then
    if s.wsq.dir = some .back then -s.items.finishSpeed else s.items.finishSpeed
  else curveTarget (s.table (curveTable g)) v

section
variable {g : Axis} {lever : Word} {v : Int} {s : State}

theorem frameTarget_ending (h : s.wsq.state = .finishing ∨ v = 0) : frameTarget .walk v s
    = if s.wsq.dir = some .back then -s.items.finishSpeed else s.items.finishSpeed := if_pos ⟨rfl, h⟩

theorem frameTarget_curve (h : ¬ (g = .walk ∧ (s.wsq.state = .finishing ∨ v = 0))) :
    frameTarget g v s = curveTarget (s.table (curveTable g)) v := if_neg h

theorem target_of_finishing (h : s.wsq.state = .finishing) (v : Int) : target .walk v s
    = if s.wsq.dir = some .back then -s.items.finishSpeed else s.items.finishSpeed := by
  simp only [target, h]
  rcases s.wsq.dir with _ | _ | _ <;> rfl

theorem target_of_curve (h : ¬ (g = .walk ∧ s.wsq.state = .finishing)) (v : Int) :
    target g v s = curveTarget (s.table (curveTable g)) v := by
  cases g
  case walk =>
    have state : s.wsq.state ≠ .finishing := fun e => h ⟨rfl, e⟩
    cases e : s.wsq.state <;> simp_all [target]
  all_goals rfl

/-- After the walk lever of an ACTIVE group, the target is that of its frame (R140). -/
theorem target_levered (active : g = .walk → (s.group .walk).state = .active) (walks : g = .walk → walking s.wsq.state = true) :
    target g v (s.withWsq (leveredWsq g v s)) = frameTarget g v s := by
  by_cases walk : g = .walk
  · subst walk
    cases state : s.wsq.state
    case stepping =>
      by_cases neutral : v = 0
      · have levered : leveredWsq .walk v s = { s.wsq with state := .finishing } := by
          rw [leveredWsq, if_pos ⟨rfl, active rfl, state⟩, if_pos neutral]
        rw [levered, target_of_finishing rfl, frameTarget_ending (.inr neutral)]
        rfl
      · have levered : leveredWsq .walk v s = { s.wsq with dir := some (dirOf v) } := by
          rw [leveredWsq, if_pos ⟨rfl, active rfl, state⟩, if_neg neutral]
        rw [levered, target_of_curve (by simp [state]), frameTarget_curve (by simp [state, neutral])]
        rfl
    case finishing =>
      have levered : leveredWsq .walk v s = s.wsq := if_neg (by simp [state])
      rw [levered, State.withWsq_self, target_of_finishing state, frameTarget_ending (.inl state)]
    all_goals
      have := walks rfl
      rw [state] at this
      exact absurd this (by decide)
  · rw [leveredWsq_of_ne walk, State.withWsq_self, target_of_curve fun ⟨e, _⟩ => walk e, frameTarget_curve fun ⟨e, _⟩ => walk e]

/-- The caps depend neither on the levers nor on what the lever does to a step. -/
theorem capsOf_levered (g : Axis) (v : Int) (s : State) : capsOf g (s.withWsq (leveredWsq g v s)) = capsOf g s := by
  by_cases walk : g = .walk
  · subst walk
    rw [leveredWsq]
    split
    · split <;> rfl
    · rfl
  · rw [leveredWsq_of_ne walk, State.withWsq_self]

theorem capsOf_leverTaken (g : Axis) (lever : Word) (s : State) : capsOf g (leverTaken g lever s) = capsOf g (commandArrives g s) := by
  obtain ⟨p, e⟩ := takeLever_eq g (frameLever g lever s) (commandArrives g s)
  rw [leverTaken, e]
  cases g <;> rfl

theorem walkLevered_eq (stays : g = .walk → ¬ ParksNow v s) : walkLevered g v s = s.withWsq (leveredWsq g v s) := by
  by_cases walk : g = .walk
  · subst walk
    exact walkLever_eq (stays rfl)
  · rw [leveredWsq_of_ne walk, walkLevered_of_ne walk, State.withWsq_self]

/-! ### An ACTIVE group's frame -/

/-- The ramp value of an ACTIVE group's frame: toward the clipped target, clipped (R97 to R101). -/
def frameQ (g : Axis) (lever : Word) (s : State) : Int :=
  (capsOf g (commandArrives g s)).clip (ramp (s.items.groups.get g).accel (s.items.groups.get g).decel
    ((capsOf g (commandArrives g s)).clip (frameTarget g (frameLever g lever s) s)) (s.group g).q)

/-- A COMMAND frame that finds a quiet device and its group following in RUN, in its own reference, and does not park. -/
structure Follows (g : Axis) (lever : Word) (s : State) : Prop where
  quiet : FrameQuiet s
  active : (s.group g).state = .active
  run : s.mgu.mode = .run
  free : stops ((commandArrives g s).alu.severity.get g) = false
  own : ¬ (g = .drag ∧ carriesWalk s.wsq.state = true)
  walks : g = .walk → walking s.wsq.state = true ∧ (s.wsq.state = .stepping → frameLever g lever s = 0 → s.inPark = false)

/-- A frame whose group is not HELD and that does not carry the walk reference goes to the pipeline's rest. -/
theorem shape_own (quiet : FrameQuiet s) (own : ¬ (g = .drag ∧ carriesWalk s.wsq.state = true)) :
    shape g lever s = shapeRest g (frameLever g lever s) (beforeRest g (frameLever g lever s) (leverTaken g lever s)) := by
  rcases shape_cases g lever s with ⟨walk, -⟩ | ⟨-, e⟩
  · rw [leverTaken_wsq quiet] at walk
    exact absurd walk own
  · exact e

/-- The sequencer's record depends on the WALK group's state and on itself alone. -/
theorem leveredWsq_congr {u : State} (wsq : u.wsq = s.wsq) (group : g = .walk → (u.group .walk).state = (s.group .walk).state) :
    leveredWsq g v u = leveredWsq g v s := by
  by_cases walk : g = .walk
  · rw [leveredWsq, leveredWsq, wsq, group walk]
  · rw [leveredWsq_of_ne walk, leveredWsq_of_ne walk, wsq]

/-- The lever makes the sequencer wait for no other group. -/
theorem Unreacting.levered {t : State} (k : Unreacting s) (wsq : t.wsq = leveredWsq g v s)
    (moving : ∀ h, (t.group h).moving = (s.group h).moving) : Unreacting t := by
  have state : ((leveredWsq g v s).state = s.wsq.state ∨ s.wsq.state = .stepping ∧ (leveredWsq g v s).state = .finishing)
      ∧ (leveredWsq g v s).command = s.wsq.command := by
    unfold leveredWsq
    split
    · split
      · exact ⟨.inr ⟨‹_ ∧ _ ∧ _›.2.2, rfl⟩, rfl⟩
      · exact ⟨.inl rfl, rfl⟩
    · exact ⟨.inl rfl, rfl⟩
  obtain ⟨e | ⟨stepping, finishing⟩, command⟩ := state
  · exact ⟨by rw [wsq, e, moving]; exact k.walk, by rw [wsq, e, command, moving]; exact k.drag⟩
  · refine ⟨fun _ => ?_, fun opening => ?_⟩
    · rw [moving]
      exact k.walk (by rw [stepping]; rfl)
    · rw [wsq, finishing] at opening
      exact nomatch opening

namespace Follows
variable (frame : Follows g lever s)
include frame

theorem group : (leverTaken g lever s).group g = { s.group g with
    note := true, loss := 0, lastLever := some (frameLever g lever s)
    neutralSeen := (s.group g).neutralSeen || frameLever g lever s == 0 } := leverTaken_group frame.quiet fun _ => frame.free

theorem idle : tryActivate g (frameLever g lever s) (leverTaken g lever s) = leverTaken g lever s :=
  tryActivate_not_held (by rw [frame.group, frame.active]; exact nofun)

theorem stays : g = .walk → ¬ ParksNow (frameLever g lever s) (leverTaken g lever s) := by
  rintro rfl ⟨-, stepping, neutral, park⟩
  rw [leverTaken_wsq frame.quiet] at stepping
  have off := (frame.walks rfl).2 stepping neutral
  rw [State.inPark, leverTaken_wsq frame.quiet, (frameKept_leverTaken _ lever s).tables] at park
  exact absurd (park.symm.trans off) (by decide)

/-- The pipeline's rest finds the group with its ramp value to be `frameQ`. -/
theorem before : (beforeRest g (frameLever g lever s) (leverTaken g lever s)).group g = (leverTaken g lever s).group g
    ∧ (beforeRest g (frameLever g lever s) (leverTaken g lever s)).mgu.mode = .run
    ∧ (beforeRest g (frameLever g lever s) (leverTaken g lever s)).items = s.items
    ∧ activeQ g (frameLever g lever s) (beforeRest g (frameLever g lever s) (leverTaken g lever s)) = frameQ g lever s := by
  have kept := frameKept_leverTaken g lever s
  have notHeld : ((leverTaken g lever s).group g).state ≠ .held := by rw [frame.group, frame.active]; exact nofun
  obtain ⟨groups, mode⟩ := beforeRest_keeps (v := frameLever g lever s) (u := leverTaken g lever s)
    (by rw [frame.idle]; exact frame.stays)
  have target : frameTarget g (frameLever g lever s) (leverTaken g lever s) = frameTarget g (frameLever g lever s) s := by
    rw [frameTarget, frameTarget, leverTaken_wsq frame.quiet, kept.items, State.table, State.table, kept.tables]
  refine ⟨by rw [groups, frame.idle], ?_, (shapeKept_beforeRest g _ _).items.trans kept.items, ?_⟩
  · rw [mode, frame.idle, leverTaken_mode_quiet frame.quiet, frame.run]
  · rw [(beforeRest_not_held notHeld _).2, walkLevered_eq frame.stays, activeQ, capsOf_levered, capsOf_leverTaken,
      target_levered (fun walk => by subst walk; rw [frame.group]; exact frame.active)
        (fun walk => by rw [leverTaken_wsq frame.quiet]; exact (frame.walks walk).1), target, State.withWsq_group, frame.group,
      State.withWsq_items, kept.items]
    rfl

theorem shapes : Shapes g (leverTaken g lever s) (shape g lever s).state
    ∧ (shape g lever s).state.wsq = leveredWsq g (frameLever g lever s) s := by
  obtain ⟨kept, wsq⟩ := shapeRest_shapes (v := frameLever g lever s) (s := leverTaken g lever s)
    (by rw [frame.idle]; exact frame.stays)
  rw [shape_own frame.quiet frame.own]
  refine ⟨kept, wsq.trans ?_⟩
  rw [frame.idle]
  exact leveredWsq_congr (leverTaken_wsq frame.quiet g lever) fun walk => by subst walk; rw [frame.group]

/-- An ACTIVE group that has not come to BRAKE_DELAY follows its lever (R92, R97 to R101). -/
theorem follows (early : ¬ (s.items.groups.get g).brakeDelay ≤ idleNext (s.group g) (frameLever g lever s) (frameQ g lever s)) :
    ((reported g lever s).group g).state = .active ∧ ((reported g lever s).group g).q = frameQ g lever s
      ∧ ((reported g lever s).group g).idle = idleNext (s.group g) (frameLever g lever s) (frameQ g lever s)
      ∧ ((reported g lever s).group g).lastRef.enable = true
      ∧ (frameQ g lever s = 0 → ((reported g lever s).group g).lastRef.speed = 0)
      ∧ (reported g lever s).wsq = leveredWsq g (frameLever g lever s) s := by
  obtain ⟨group, run, items, q⟩ := frame.before
  obtain ⟨shapes, wsq⟩ := frame.shapes
  have idle : idleNext ((leverTaken g lever s).group g) = idleNext (s.group g) := by rw [frame.group]; rfl
  have active : ((leverTaken g lever s).group g).state = .active := by rw [frame.group]; exact frame.active
  obtain ⟨-, x, left⟩ := shapeRest_active (by rw [group, active]) run (by rw [items, group, q, idle]; exact early)
  rw [← shape_own frame.quiet frame.own, group, q, idle] at left
  have moving (h : Axis) : ((shape g lever s).state.group h).moving = (s.group h).moving := by
    rw [← leverTaken_moving frame.quiet (g := g) (lever := lever) h]
    by_cases e : h = g
    · subst e
      rw [left]
      rfl
    · rw [shapes.other h e]
  obtain ⟨step, severity⟩ := calmStep_reported frame.quiet ((leverTaken_calm frame.quiet).shapes shapes)
    (frame.quiet.unreacting.levered wsq moving)
  have kept := step.kept (g := g) fun _ => by rw [severity, shapes.alu, leverTaken_alu]; exact frame.free
  rw [kept, left]
  refine ⟨active, rfl, rfl, rfl, fun rest => ?_, step.wsq.trans wsq⟩
  rw [rest]
  show speedSent g _ _ 0 = 0
  unfold speedSent
  split
  · rfl
  · exact pullback_zero _ _ _

/-- The frame that brings the idle count to BRAKE_DELAY takes the group to HELD (R92). -/
theorem rests (due : (s.items.groups.get g).brakeDelay ≤ idleNext (s.group g) (frameLever g lever s) (frameQ g lever s)) :
    ((reported g lever s).group g).state = .held ∧ ((reported g lever s).group g).q = 0
      ∧ ((reported g lever s).group g).idle = 0 ∧ ((reported g lever s).group g).neutralSeen = false
      ∧ ((reported g lever s).group g).lastRef.enable = false := by
  obtain ⟨group, run, items, q⟩ := frame.before
  obtain ⟨shapes, -⟩ := frame.shapes
  have idle : idleNext ((leverTaken g lever s).group g) = idleNext (s.group g) := by rw [frame.group]; rfl
  have active : ((leverTaken g lever s).group g).state = .active := by rw [frame.group]; exact frame.active
  have left := shapeRest_expires (by rw [group, active]) (by rw [items, group, q, idle]; exact due)
  rw [← shape_own frame.quiet frame.own] at left
  obtain ⟨held, rest, count, seen⟩ := reported_rests frame.quiet (by rw [frame.run]; decide) shapes
    (by rw [left]; exact fun _ => ⟨rfl, rfl, rfl, rfl⟩)
  exact ⟨held, rest, count, seen, by rw [reported_lastRef, left]; rfl⟩

end Follows

/-! ### A STOPPING group's frame -/

/-- The ramp value of a STOPPING group's frame in RUN: nearer to 0 by STOP_RATE, clipped (R94). -/
def frameStopQ (g : Axis) (s : State) : Int :=
  (capsOf g (commandArrives g s)).clip
    (if 0 ≤ (s.group g).q then (s.group g).q - min (s.items.groups.get g).stop (s.group g).q
      else (s.group g).q + min (s.items.groups.get g).stop (-(s.group g).q))

theorem ramp_stop {stop : Int} (h : 0 ≤ stop) (q : Int) :
    ramp stop stop 0 q = if 0 ≤ q then q - min stop q else q + min stop (-q) := by
  rcases lt_trichotomy q 0 with neg | rfl | pos
  · rw [ramp_to_zero_neg neg le_rfl, if_neg (not_le.2 neg)]
  · rw [ramp_rest, if_pos le_rfl, min_eq_right h, sub_zero]
  · rw [ramp_to_zero_pos pos le_rfl, if_pos pos.le]

/-- A STOPPING group's record after a frame depends on the group, the mode, the caps and the items alone. -/
theorem stopFrame_congr {u : State} (group : u.group g = s.group g) (q : stoppingQ g u = stoppingQ g s) :
    stopFrame g u = stopFrame g s := by rw [stopFrame, stopFrame, group, q]

/-- A COMMAND frame of a STOPPING group of a quiet device. -/
structure Stops (g : Axis) (s : State) : Prop where
  quiet : FrameQuiet s
  stopping : (s.group g).state = .stopping

namespace Stops
variable (lever) (frame : Stops g s)
include frame

theorem group : (leverTaken g lever s).group g = { s.group g with
    note := true, loss := 0, lastLever := some (frameLever g lever s)
    neutralSeen := (s.group g).neutralSeen || frameLever g lever s == 0 } :=
  leverTaken_group frame.quiet (by rw [frame.stopping]; exact nofun)

theorem idle : tryActivate g (frameLever g lever s) (leverTaken g lever s) = leverTaken g lever s :=
  tryActivate_not_held (by rw [frame.group, frame.stopping]; exact nofun)

theorem stays : g = .walk → ¬ ParksNow (frameLever g lever s) (leverTaken g lever s) := by
  rintro rfl ⟨active, -⟩
  rw [frame.group, frame.stopping] at active
  exact nomatch active

theorem wsq : leveredWsq g (frameLever g lever s) (leverTaken g lever s) = s.wsq := by
  rw [leveredWsq, if_neg, leverTaken_wsq frame.quiet]
  rintro ⟨rfl, active, -⟩
  rw [frame.group, frame.stopping] at active
  exact nomatch active

theorem stoppingQ_before : stoppingQ g (beforeRest g (frameLever g lever s) (leverTaken g lever s))
    = stoppingQ g (leverTaken g lever s) := by
  cases g
  case walk =>
    rw [beforeRest, frame.idle lever, walkLever_eq (frame.stays lever rfl), frame.wsq lever,
      ← leverTaken_wsq frame.quiet .walk lever, State.withWsq_self]
  case swing =>
    show stoppingQ .swing (glideSwing (tryActivate .swing _ _)) = _
    rw [frame.idle lever]
    rfl
  all_goals exact congrArg (stoppingQ _) (frame.idle lever)

/-- In RUN the ramp value is `frameStopQ` (R94). -/
theorem stoppingQ_run (run : s.mgu.mode = .run) (rate : 0 ≤ (s.items.groups.get g).stop) :
    stoppingQ g (leverTaken g lever s) = frameStopQ g s := by
  rw [stoppingQ, if_pos ((leverTaken_mode_quiet frame.quiet g lever).trans run), capsOf_leverTaken, frame.group,
    (frameKept_leverTaken g lever s).items, ramp_stop rate]
  rfl

/-- A STOPPING group's frame leaves the record of `stopFrame`, under the walk reference too (R94, assumption 34). -/
theorem shaped : Shapes g (leverTaken g lever s) (shape g lever s).state ∧ (shape g lever s).state.wsq = s.wsq
    ∧ ∃ x, (shape g lever s).state.group g
        = { stopFrame g (leverTaken g lever s) with tightline := x, lastRef := (shape g lever s).ref }
      ∧ (¬ (g = .drag ∧ carriesWalk s.wsq.state = true) → ((shape g lever s).ref.enable = true ↔
          s.mgu.mode = .run ∧ (stopFrame g (leverTaken g lever s)).moving = true)) := by
  have there : ((leverTaken g lever s).group g).state = .stopping := by rw [frame.group]; exact frame.stopping
  rcases shape_cases g lever s with ⟨⟨rfl, walk⟩, e⟩ | ⟨-, e⟩ <;> rw [e]
  · have left : walkFrame (leverTaken .drag lever s) = stopFrame .drag (leverTaken .drag lever s) := by simp only [walkFrame, there]
    refine ⟨shapes_setGroup _ _ _, leverTaken_wsq frame.quiet _ _, false, ?_, fun own => ?_⟩
    · rw [shapeWalk, State.setGroup_same, left]
    · rw [leverTaken_wsq frame.quiet] at walk
      exact absurd ⟨rfl, walk⟩ own
  · have still : g = .walk → ¬ ParksNow (frameLever g lever s) (tryActivate g (frameLever g lever s) (leverTaken g lever s)) := by
      rw [frame.idle]
      exact frame.stays lever
    obtain ⟨shapes, wsq⟩ := shapeRest_shapes still
    obtain ⟨groups, mode⟩ := beforeRest_keeps still
    have group : (beforeRest g (frameLever g lever s) (leverTaken g lever s)).group g = (leverTaken g lever s).group g := by
      rw [groups, frame.idle]
    have stop : stopFrame g (recordCaps g (beforeRest g (frameLever g lever s) (leverTaken g lever s)))
        = stopFrame g (leverTaken g lever s) :=
      stopFrame_congr ((recordCaps_group g _ g).trans group) ((stoppingQ_recordCaps g _).trans (frame.stoppingQ_before lever))
    have left : endFrame g (frameLever g lever s) (recordCaps g (beforeRest g (frameLever g lever s) (leverTaken g lever s)))
        = { stopFrame g (leverTaken g lever s) with
            tightline := tightlineField g (recordCaps g (beforeRest g (frameLever g lever s) (leverTaken g lever s))) } := by
      simp only [endFrame, recordCaps_group, group, there, stop]
    have run : (recordCaps g (beforeRest g (frameLever g lever s) (leverTaken g lever s))).mgu.mode = s.mgu.mode := by
      rw [← leverTaken_mode_quiet frame.quiet g lever, ← frame.idle lever, ← mode, frame.idle lever]
      unfold recordCaps
      split <;> rfl
    refine ⟨shapes, ?_, _, by rw [shapeRest_group, left], fun _ => ?_⟩
    · rw [wsq, frame.idle, frame.wsq]
    · rw [shapeRest_ref, frameReference_enable, left, run]
      rfl

/-- In RUN a STOPPING group whose ramp value is not 0 stays STOPPING (R94). -/
theorem keeps (run : s.mgu.mode = .run) (rate : 0 ≤ (s.items.groups.get g).stop) (moves : frameStopQ g s ≠ 0) :
    ((reported g lever s).group g).state = .stopping ∧ ((reported g lever s).group g).q = frameStopQ g s
      ∧ (¬ (g = .drag ∧ carriesWalk s.wsq.state = true) → ((reported g lever s).group g).lastRef.enable = true) := by
  obtain ⟨shapes, wsq, x, left, enable⟩ := frame.shaped lever
  have q := frame.stoppingQ_run lever run rate
  have there : ((leverTaken g lever s).group g).state = .stopping := by rw [frame.group]; exact frame.stopping
  have stop : stopFrame g (leverTaken g lever s) = { (leverTaken g lever s).group g with q := frameStopQ g s } := by
    rw [stopFrame, q]
    exact if_neg moves
  rw [stop] at left enable
  have unreacting : Unreacting (shape g lever s).state := by
    refine (leverTaken_unreacting (g := g) (lever := lever) frame.quiet).of_same
      (wsq.trans (leverTaken_wsq frame.quiet g lever).symm) fun h => ?_
    by_cases e : h = g
    · subst e
      rw [left]
      rfl
    · rw [shapes.other h e]
  obtain ⟨step, -⟩ := calmStep_reported frame.quiet ((leverTaken_calm frame.quiet).shapes shapes) unreacting
  have kept := step.kept (g := g) fun active => by
    rw [left] at active
    exact nomatch there.symm.trans active
  rw [kept, left]
  exact ⟨there, rfl, fun own => (enable own).2 ⟨run, by simp only [Group.moving, there]; decide⟩⟩

/-- The frame that brings Q to 0, or the next one outside RUN, takes the group to HELD (R94). -/
theorem rests (outside : s.mgu.mode ≠ .halted) (zero : stoppingQ g (leverTaken g lever s) = 0) :
    ((reported g lever s).group g).state = .held ∧ ((reported g lever s).group g).q = 0
      ∧ ((reported g lever s).group g).idle = 0 ∧ ((reported g lever s).group g).neutralSeen = false
      ∧ (¬ (g = .drag ∧ carriesWalk s.wsq.state = true) → ((reported g lever s).group g).lastRef.enable = false) := by
  obtain ⟨shapes, -, x, left, enable⟩ := frame.shaped lever
  have stop : stopFrame g (leverTaken g lever s) = ((leverTaken g lever s).group g).hold := if_pos zero
  rw [stop] at left enable
  obtain ⟨held, rest, count, seen⟩ := reported_rests frame.quiet outside shapes (by rw [left]; exact fun _ => ⟨rfl, rfl, rfl, rfl⟩)
  refine ⟨held, rest, count, seen, fun own => ?_⟩
  rw [reported_lastRef, left]
  exact Bool.eq_false_iff.2 fun enabled => absurd ((enable own).1 enabled).2 (by simp [Group.moving, Group.hold])

end Stops

end

/-! ### O54 -/

/-- The sequencer of a step in progress after the lever of an ACTIVE WALK group (R140). -/
theorem leveredWsq_stepping {g : Axis} {v : Int} {s t : State} (walk : g = .walk) (active : (s.group g).state = .active)
    (stepping : s.wsq.state = .stepping) (wsq : t.wsq = leveredWsq g v s) :
    t.wsq.state = (if v = 0 then .finishing else .stepping)
      ∧ (v ≠ 0 → t.wsq.dir = some (if 0 < v then .forward else .back)) := by
  subst walk
  rw [wsq, leveredWsq, if_pos ⟨rfl, active, stepping⟩]
  by_cases neutral : v = 0
  · simp only [if_pos neutral]
    exact ⟨trivial, fun moves => absurd neutral moves⟩
  · simp only [if_neg neutral]
    exact ⟨stepping, fun _ => rfl⟩

/-- Settles O54: `ramp_bounds` with the rows of the ramp, the pullback and curve lemmas, and `Follows` and `Stops` for the frames. -/
theorem rampAndPullback : Obligations.RampAndPullback := by
  refine ⟨fun accel decel t q ha hd => ?_, fun gain motoring v q hg => ?_, fun t v => ?_, fun l g lever s h f quiet => ⟨?_, ?_⟩⟩
  · obtain ⟨up, down, pos, neg, rise, fall, near⟩ := ramp_bounds (t := t) (q := q) ha hd
    exact ⟨up, down, pos, neg, rise, fall, near, ramp_rest _ _ _, ramp_up, ramp_down, ramp_fall_pos, ramp_fall_neg,
      ramp_to_zero_pos, ramp_to_zero_neg⟩
  · obtain ⟨forward, backward⟩ := pullback_between hg motoring v q
    exact ⟨forward, backward, pullback_full, fun part => pullback_forward part hg, fun part => pullback_backward part hg,
      fun light => pullback_within_limit hg light q⟩
  · refine ⟨curveTarget_idle, fun moves live => ⟨fun k known _ inside first => ?_, fun beyond => ?_⟩⟩
    · rw [curveTarget_live moves live, curveMagnitude_segment known inside first]
      rfl
    · rw [curveTarget_live moves live, curveMagnitude_beyond beyond]
      rfl
  · intro active run free own walks
    have frame : Follows g lever (goodFrameSeen s) := ⟨quiet, active, run, free, own, walks⟩
    obtain ⟨x, e⟩ := exec_command_reported (l := l) g lever h f
    refine ⟨fun moves delay => ⟨_, e, ?_⟩, fun neutral rest few early => ⟨_, e, ?_⟩, fun neutral rest few due => ⟨_, e, ?_⟩⟩
    · have count : idleNext (s.group g) (frameLever g lever s) (frameQ g lever (goodFrameSeen s)) = 0 :=
        if_neg fun ⟨neutral, rest⟩ => moves.elim (· neutral) (· rest)
      obtain ⟨follows, q, idle, enable, -, wsq⟩ := frame.follows (fun due => absurd (delay.trans (due.trans count.le)) (by decide))
      refine ⟨follows, q, idle.trans count, enable, fun walk stepping => ?_⟩
      exact leveredWsq_stepping walk active stepping wsq
    · have count : idleNext (s.group g) (frameLever g lever s) (frameQ g lever (goodFrameSeen s)) = (s.group g).idle + 1 :=
        (if_pos ⟨neutral, rest⟩).trans (if_pos few)
      obtain ⟨follows, q, idle, enable, speed, -⟩ := frame.follows (fun due => absurd (early.trans_le (due.trans count.le)) (lt_irrefl _))
      exact ⟨follows, q.trans rest, idle.trans count, enable, speed rest⟩
    · have count : idleNext (s.group g) (frameLever g lever s) (frameQ g lever (goodFrameSeen s)) = (s.group g).idle + 1 :=
        (if_pos ⟨neutral, rest⟩).trans (if_pos few)
      obtain ⟨held, q, idle, seen, enable⟩ := frame.rests (due.trans count.ge)
      exact ⟨held, q, idle, seen, fun _ => enable⟩
  · intro stopping rate
    have frame : Stops g (goodFrameSeen s) := ⟨quiet, stopping⟩
    obtain ⟨x, e⟩ := exec_command_reported (l := l) g lever h f
    refine ⟨fun run moves => ⟨_, e, frame.keeps lever run rate moves⟩, fun run zero => ⟨_, e, frame.rests lever ?_ ?_⟩,
      fun standby => ⟨_, e, frame.rests lever ?_ ?_⟩⟩
    · exact fun halted => absurd (run.symm.trans halted) (by decide)
    · exact (frame.stoppingQ_run lever run rate).trans zero
    · exact fun halted => absurd (standby.symm.trans halted) (by decide)
    · refine if_neg fun run => ?_
      rw [leverTaken_mode_quiet frame.quiet] at run
      exact absurd (standby.symm.trans run) (by decide)

end Sys2Proof.Machine
end

section
/-! The swing unit's rules (R115 to R119, R122): crossings of a mark, the inside test, the caps of one window, and the swing caps they
combine to; with them O56. -/

namespace Sys2Proof.Machine

/-! ### Crossings (R122) -/

/-- Where the shorter arc runs clockwise, a mark is crossed clockwise or not at all. -/
theorem crossing_of_near {old new : Int} (near : (new - old) % 36000 ≤ 18000) (m : Int) : crossing old new m
    = if 1 ≤ (m - old) % 36000 ∧ (m - old) % 36000 ≤ (new - old) % 36000 then some .cw else none := by
  simp only [crossing]
  by_cases still : (new - old) % 36000 = 0
  · rw [if_pos still, if_neg (by omega)]
  · rw [if_neg still, if_pos near]

/-- Where it runs counter-clockwise, a mark is crossed counter-clockwise or not at all. -/
theorem crossing_of_far {old new : Int} (far : 18000 < (new - old) % 36000) (m : Int) : crossing old new m
    = if 1 ≤ (old - m) % 36000 ∧ (old - m) % 36000 ≤ 36000 - (new - old) % 36000 then some .ccw else none := by
  simp only [crossing]
  rw [if_neg (by omega), if_neg (by omega)]

theorem crossing_cw_iff (old new m : Int) : crossing old new m = some .cw
    ↔ (new - old) % 36000 ≤ 18000 ∧ 1 ≤ (m - old) % 36000 ∧ (m - old) % 36000 ≤ (new - old) % 36000 := by
  rcases le_or_gt ((new - old) % 36000) 18000 with near | far
  · simp [crossing_of_near near, near]
  · simp [crossing_of_far far, far.not_ge]

theorem crossing_ccw_iff (old new m : Int) : crossing old new m = some .ccw
    ↔ 18000 < (new - old) % 36000 ∧ 1 ≤ (old - m) % 36000 ∧ (old - m) % 36000 ≤ 36000 - (new - old) % 36000 := by
  rcases le_or_gt ((new - old) % 36000) 18000 with near | far
  · simp [crossing_of_near near, near.not_gt]
  · simp [crossing_of_far far, far]

/-- A mark is not crossed when it lies on neither arc. -/
theorem crossing_eq_none {old new m : Int} (cw : crossing old new m ≠ some .cw) (ccw : crossing old new m ≠ some .ccw) :
    crossing old new m = none := by
  rcases h : crossing old new m with _ | _ | _
  · rfl
  · exact absurd h cw
  · exact absurd h ccw

theorem crossing_still (old m : Int) : crossing old old m = none :=
  if_pos (by rw [sub_self]; rfl)

/-- The angle a movement leaves is not crossed. -/
theorem crossing_old (old new : Int) : crossing old new old = none := by
  refine crossing_eq_none ?_ ?_
  · rw [Ne, crossing_cw_iff]
    omega
  · rw [Ne, crossing_ccw_iff]
    omega

/-- The angle a movement reaches is crossed. -/
theorem crossing_new {old new : Int} (moved : (new - old) % 36000 ≠ 0) : (crossing old new new).isSome = true := by
  rcases le_or_gt ((new - old) % 36000) 18000 with near | far
  · rw [(crossing_cw_iff old new new).2 (by omega)]
    rfl
  · rw [(crossing_ccw_iff old new new).2 (by omega)]
    rfl

/-! ### The inside test (R115) -/

theorem Window.contains_iff (w : Window) (hr : Int) :
    w.contains hr = true ↔ (hr - w.start) % 36000 < (w.stop - w.start) % 36000 := decide_eq_true_iff

/-- For angles of the circle the inside test is an interval, or the two ends of one that wraps. -/
theorem Window.contains_iff_interval {w : Window} {hr : Int} (start : 0 ≤ w.start ∧ w.start < 36000)
    (stop : 0 ≤ w.stop ∧ w.stop < 36000) (angle : 0 ≤ hr ∧ hr < 36000) (proper : w.start ≠ w.stop) : w.contains hr = true
      ↔ if w.start < w.stop then w.start ≤ hr ∧ hr < w.stop else w.start ≤ hr ∨ hr < w.stop := by
  rw [Window.contains_iff]
  split <;> omega

/-! ### The caps of one window (R116 to R118) -/

section
variable {w : Window} (vz : Int) {hr : Int}

theorem windowCaps_outside (kind : w.kind = .forbidden) (outside : w.contains hr = false) :
    windowCaps w vz hr = (taper w vz ((w.start - hr) % 36000), taper w vz ((hr - w.stop) % 36000)) := by
  simp [windowCaps, kind, outside]

theorem windowCaps_inside (kind : w.kind = .forbidden) (inside : w.contains hr = true) :
    windowCaps w vz hr
      = if (hr - w.start) % 36000 < (w.stop - hr) % 36000 then (some 0, some w.edge) else (some w.edge, some 0) := by
  simp [windowCaps, kind, inside]

theorem windowCaps_slow (kind : w.kind = .slow) :
    windowCaps w vz hr = if w.contains hr then (some w.cap, some w.cap) else (none, none) := by
  simp [windowCaps, kind]

theorem windowCaps_dump (kind : w.kind = .dump) : windowCaps w vz hr = (none, none) := by
  simp [windowCaps, kind]

end

/-! ### The least of several caps (R118) -/

/-- `r` is the least of `c` and of the caps that apply among `os`. -/
def LeastOf (c : Int) (os : List (Option Int)) (r : Int) : Prop :=
  r ≤ c ∧ (∀ x, some x ∈ os → r ≤ x) ∧ (r = c ∨ some r ∈ os)

theorem leastOf_foldl (c : Int) (os : List (Option Int)) : LeastOf c os (os.foldl least c) := by
  induction os generalizing c with
  | nil => exact ⟨le_rfl, nofun, .inl rfl⟩
  | cons o os ih =>
    obtain ⟨low, lower, attained⟩ := ih (least c o)
    simp only [List.foldl_cons]
    cases o with
    | none => exact ⟨low, fun x mem => lower x (by simpa using mem), attained.imp_right (List.mem_cons_of_mem _)⟩
    | some y =>
      have both := le_min_iff.1 low
      refine ⟨both.1, fun x mem => ?_, ?_⟩
      · rcases List.mem_cons.1 mem with e | mem
        · cases e
          exact both.2
        · exact lower x mem
      · rcases attained with e | mem
        · rcases min_choice c y with k | k
          · exact .inl (e.trans k)
          · exact .inr (List.mem_cons.2 (.inl (congrArg some (e.trans k))))
        · exact .inr (List.mem_cons_of_mem _ mem)

theorem least_leastCap (c : Int) (x y : Option Int) : least c (leastCap x y) = least (least c x) y := by
  match x, y with
  | none, _ => rfl
  | some _, none => rfl
  | some a, some b => exact (min_assoc c a b).symm

theorem least_foldl (c : Int) (acc : Option Int) (os : List (Option Int)) :
    least c (os.foldl leastCap acc) = os.foldl least (least c acc) := by
  induction os generalizing acc with
  | nil => rfl
  | cons o os ih => rw [List.foldl_cons, List.foldl_cons, ih, least_leastCap]

/-- The caps of a frame are taken for each direction alone (R118). -/
theorem leastCaps_eq (cs : List (Nat × Option Int × Option Int)) :
    leastCaps cs = ((cs.map (·.2.1)).foldl leastCap none, (cs.map (·.2.2)).foldl leastCap none) := by
  have fold (cs : List (Nat × Option Int × Option Int)) (acc : Option Int × Option Int) :
      cs.foldl (fun acc c => (leastCap acc.1 c.2.1, leastCap acc.2 c.2.2)) acc
        = ((cs.map (·.2.1)).foldl leastCap acc.1, (cs.map (·.2.2)).foldl leastCap acc.2) := by
    induction cs generalizing acc with
    | nil => rfl
    | cons c cs ih => exact ih _
  exact fold cs _

/-- A cap and the least of the windows' is the least of them all. -/
theorem least_leastCaps (c : Int) (cs : List (Nat × Option Int × Option Int)) :
    LeastOf c (cs.map (·.2.1)) (least c (leastCaps cs).1) ∧ LeastOf c (cs.map (·.2.2)) (least c (leastCaps cs).2) := by
  rw [leastCaps_eq, least_foldl, least_foldl]
  exact ⟨leastOf_foldl c _, leastOf_foldl c _⟩

/-! ### The swing caps (R115, R119) -/

theorem mem_windowIndices (t6 : Table) (k : Nat) : k ∈ windowIndices t6 ↔ t6.state = .live ∧ k < t6.num 0 := by
  simpa using any_windowIndices t6 (· == k)

section
variable (s : State)

theorem swingVz_eq : swingVz s = (let p := s.profile .swingCap
    let p := if s.alu.severity.get .swing = some .limit then min p s.items.limitCreep else p
    if s.swu.heldHeading then p else min p s.items.headingCreep) := by
  rw [swingVz, least_capIf, least_limitCap]
  cases s.swu.heldHeading <;> rfl

theorem swingCaps_doubt (h : s.swu.heldDoubt = true) :
    swingCaps s = ⟨min (swingVz s) s.items.doubtCreep, min (swingVz s) s.items.doubtCreep⟩ := if_pos h

/-- Under suspension no window gives a cap (R119). -/
theorem swingWindows_doubt (h : s.swu.heldDoubt = true) : swingWindows s = [] := if_pos h

theorem swingWindows_sure (h : s.swu.heldDoubt = false) : swingWindows s
    = (windowIndices s.tables.t6).map (fun k => (k, windowCaps (window s.tables.t6 k) (swingVz s) s.swu.heldHr)) := by
  simp [swingWindows, capsByWindow, h]

/-- A cap that a window gives in one direction, `side`, is that of an existing window (R112, R118). -/
theorem mem_swingWindows (h : s.swu.heldDoubt = false) (side : Option Int × Option Int → Option Int) (x : Int) :
    some x ∈ (swingWindows s).map (fun c => side c.2) ↔ ∃ k, (s.tables.t6.state = .live ∧ k < s.tables.t6.num 0)
      ∧ side (windowCaps (window s.tables.t6 k) (swingVz s) s.swu.heldHr) = some x := by
  simp only [swingWindows_sure s h, List.map_map, List.mem_map, mem_windowIndices, Function.comp_apply]

end

/-- The least cap of one direction, over the existing windows (R118). -/
theorem leastOf_swingWindows {s : State} (h : s.swu.heldDoubt = false) {side : Option Int × Option Int → Option Int} {c : Int}
    (caps : LeastOf (swingVz s) ((swingWindows s).map (fun c => side c.2)) c) :
    c ≤ swingVz s
      ∧ (∀ k x, s.tables.t6.state = .live ∧ k < s.tables.t6.num 0 →
          side (windowCaps (window s.tables.t6 k) (swingVz s) s.swu.heldHr) = some x → c ≤ x)
      ∧ (c = swingVz s ∨ ∃ k, (s.tables.t6.state = .live ∧ k < s.tables.t6.num 0)
          ∧ side (windowCaps (window s.tables.t6 k) (swingVz s) s.swu.heldHr) = some c) := by
  obtain ⟨low, lower, attained⟩ := caps
  exact ⟨low, fun k x stands cap => lower x ((mem_swingWindows s h side x).2 ⟨k, stands, cap⟩),
    attained.imp_right (mem_swingWindows s h side c).1⟩

/-! ### What a SWING frame records (R115, R119) -/

/-- The recorded window caps, clockwise and counter-clockwise (R109). -/
def recordedCaps (s : State) : Option Int × Option Int := (s.swu.capCw, s.swu.capCcw)

theorem Reacts.recordedCaps {s t : State} (h : Reacts s t) : recordedCaps t = recordedCaps s := by
  simp only [Machine.recordedCaps]
  rw [h.swu]

theorem stop_cut {r : Group} : r.stop.state = .cut ↔ r.state = .cut := by
  cases h : r.state <;> simp [Group.stop, h]

/-- What becomes of a frame's arrival before its caps: the recorded caps and the windows' own stand, and so does whether SWING is CUT. -/
structure CapsKept (s t : State) : Prop where
  recorded : recordedCaps t = recordedCaps s
  windows : swingWindows t = swingWindows s
  cut : (t.group .swing).state = .cut ↔ (s.group .swing).state = .cut

theorem CapsKept.trans {a b c : State} (h : CapsKept a b) (k : CapsKept b c) : CapsKept a c :=
  ⟨k.recorded.trans h.recorded, k.windows.trans h.windows, k.cut.trans h.cut⟩

theorem capsKept_takeLever (v : Int) (s : State) : CapsKept s (takeLever .swing v s) := by
  have cut := takeLever_group .swing v s
  obtain ⟨p, e⟩ := takeLever_eq .swing v s
  exact ⟨by rw [e]; rfl, by rw [e]; rfl, by rw [cut]⟩

theorem capsKept_tryActivate (v : Int) (s : State) : CapsKept s (tryActivate .swing v s) := by
  unfold tryActivate
  split
  · have held : (s.group .swing).state = .held := by simp_all [activates]
    exact ⟨rfl, rfl, by simp [activate, held]⟩
  · exact ⟨rfl, rfl, .rfl⟩

/-- The glide sets the computed and the applied limit alone (R126). -/
theorem capsKept_glideSwing (s : State) : CapsKept s (glideSwing s) := ⟨rfl, rfl, .rfl⟩

theorem capsKept_beforeRest (lever : Word) (s : State) :
    CapsKept (commandArrives .swing s) (beforeRest .swing (frameLever .swing lever s) (leverTaken .swing lever s)) :=
  ((capsKept_takeLever _ _).trans (capsKept_tryActivate _ _)).trans (capsKept_glideSwing _)

/-- A SWING frame in CUT keeps the recorded caps, any other records the windows' own (R115). -/
theorem shapeRest_recordedCaps (v : Int) (s : State) : recordedCaps (shapeRest .swing v s).state
    = if (s.group .swing).state = .cut then recordedCaps s else leastCaps (swingWindows s) := by
  show recordedCaps (recordCaps .swing s) = _
  unfold recordCaps
  split
  · rw [if_neg (by simp_all)]
    rfl
  · rw [if_pos (by simp_all)]

theorem commandArrives_recordedCaps (g : Axis) (s : State) : recordedCaps (commandArrives g s) = recordedCaps s :=
  (reacts_commandArrives g s).recordedCaps

/-- A quiet frame's arrival neither cuts a group nor takes it out of CUT. -/
theorem commandArrives_cut {s : State} (quiet : FrameQuiet s) (g : Axis) :
    ((commandArrives g s).group g).state = .cut ↔ (s.group g).state = .cut := by
  have arrived : ((noted g s).group g).state = (s.group g).state := by rw [noted_group]
  rw [← arrived]
  rcases (calmStep_commandArrives quiet g).group g with e | ⟨e, -⟩ <;> rw [e]
  exact stop_cut

/-- What a quiet SWING frame leaves recorded, its own reports included (R115). -/
theorem reported_recordedCaps {s : State} (quiet : FrameQuiet s) (lever : Word) : recordedCaps (reported .swing lever s)
    = if (s.group .swing).state = .cut then recordedCaps s else leastCaps (swingWindows (commandArrives .swing s)) := by
  have kept := capsKept_beforeRest lever s
  have shaped : shape .swing lever s
      = shapeRest .swing (frameLever .swing lever s) (beforeRest .swing (frameLever .swing lever s) (leverTaken .swing lever s)) := by
    rcases shape_cases .swing lever s with ⟨⟨drag, -⟩, -⟩ | ⟨-, e⟩
    · exact nomatch drag
    · exact e
  calc recordedCaps (reported .swing lever s)
      = recordedCaps (shape .swing lever s).state := (reacts_report _ _).recordedCaps
    _ = if (s.group .swing).state = .cut then recordedCaps s else leastCaps (swingWindows (commandArrives .swing s)) := by
      rw [shaped, shapeRest_recordedCaps, kept.recorded, kept.windows, commandArrives_recordedCaps]
      exact if_congr (kept.cut.trans (commandArrives_cut quiet .swing)) rfl rfl

/-- A SWING command records what its quiet frame does (R115, R169). -/
theorem exec_swing_recordedCaps {l : Link} (lever : Word) {s : State} (h : s.lpu.bypass = .off) (f : fits l 4 = true)
    (quiet : FrameQuiet s) : ∃ t, exec (.command l (natWord Axis.swing.code) lever) s = .next t
      ∧ recordedCaps t = if (s.group .swing).state = .cut then recordedCaps s
        else leastCaps (swingWindows (commandArrives .swing (goodFrameSeen s))) := by
  obtain ⟨x, e⟩ := exec_command_reported .swing lever h f
  have port : recordedCaps ((reported .swing lever (goodFrameSeen s)).withLpu x)
      = recordedCaps (reported .swing lever (goodFrameSeen s)) := by
    rw [recordedCaps, State.withLpu_swu, recordedCaps]
  refine ⟨_, e, ?_⟩
  rw [port, reported_recordedCaps (s := goodFrameSeen s) quiet]
  rfl

/-! ### O56 -/

/-- Settles O56: the arcs of a crossing, the inside test, the caps of each kind of window, their least (`least_leastCaps`), and what a
frame records (`reported_recordedCaps`). -/
theorem crossingsAndWindows : Obligations.CrossingsAndWindows := by
  refine ⟨fun old new m _ _ _ _ _ _ => ?_, fun w start startTop stop stopTop proper => ?_, fun w vz hr => ?_,
    fun s => ?_, fun l lever s h f quiet => ?_⟩
  · exact ⟨crossing_still old m, crossing_old old new, fun moved => crossing_new (by omega), crossing_cw_iff old new m,
      crossing_ccw_iff old new m⟩
  · refine ⟨?_, ?_, w.contains_iff, fun hr low high => ?_⟩
    · rw [Window.contains_iff]
      omega
    · rw [Bool.eq_false_iff, Ne, Window.contains_iff]
      exact lt_irrefl _
    · exact Window.contains_iff_interval ⟨start, startTop⟩ ⟨stop, stopTop⟩ ⟨low, high⟩ proper
  · exact ⟨windowCaps_outside vz, windowCaps_inside vz, windowCaps_slow vz, windowCaps_dump vz⟩
  · refine ⟨swingVz_eq s, fun doubt => ?_, fun sure => ?_⟩
    · rw [swingWindows_doubt s doubt, capsOf, swingCaps_doubt s doubt]
      exact ⟨rfl, rfl, rfl⟩
    · obtain ⟨cw, ccw⟩ := least_leastCaps (swingVz s) (swingWindows s)
      have caps : capsOf .swing s
          = ⟨least (swingVz s) (leastCaps (swingWindows s)).1, least (swingVz s) (leastCaps (swingWindows s)).2⟩ :=
        if_neg (Bool.eq_false_iff.1 sure)
      rw [caps]
      exact ⟨leastOf_swingWindows sure (side := Prod.fst) cw, leastOf_swingWindows sure (side := Prod.snd) ccw⟩
  · obtain ⟨t, e, recorded⟩ := exec_swing_recordedCaps lever h f quiet
    refine ⟨t, e, ?_⟩
    split at recorded
    · rw [if_pos ‹_›]
      exact Prod.ext_iff.1 recorded
    · rw [if_neg ‹_›]
      exact recorded

end Sys2Proof.Machine
end

section
/-! The write of CROSSING_FLAGS (R123): which marks it clears, and O38. -/

namespace Sys2Proof.Machine

theorem mem_markIndices (t7 : Table) (k : Nat) : k ∈ markIndices t7 ↔ t7.state = .live ∧ k < t7.num 0 := by
  unfold markIndices
  split <;> simp_all [Table.isLive]

/-- The test of `clearLatched`: a named mark that exists and is not a PULSE mark (R123). -/
theorem cleared_iff (t7 : Table) (v : Word) (k : Nat) :
    (v.getLsbD (15 - 4 * k) && (markIndices t7).contains k && !markPulse t7 k) = true
      ↔ v.getLsbD (15 - 4 * k) = true ∧ t7.state = .live ∧ k < t7.num 0 ∧ t7.num (2 + 2 * k) ≠ 1 := by
  simp only [Bool.and_eq_true, Bool.not_eq_true', List.contains_iff_mem, mem_markIndices, markPulse, beq_eq_false_iff_ne, and_assoc]

/-- A mark within the record keeps its direction and its PULSE flag, and loses its latched flag where the write clears it (R123). -/
theorem clearLatched_getD (t7 : Table) (v : Word) {ms : List Mark} {k : Nat} (h : k < ms.length) :
    (clearLatched t7 v ms).getD k .reset = { ms.getD k .reset with
      latched := if v.getLsbD (15 - 4 * k) = true ∧ t7.state = .live ∧ k < t7.num 0 ∧ t7.num (2 + 2 * k) ≠ 1 then false
        else (ms.getD k .reset).latched } := by
  have there : k < (clearLatched t7 v ms).length := by rwa [clearLatched, List.length_mapIdx]
  rw [List.getD_eq_getElem _ _ there, List.getD_eq_getElem _ _ h]
  simp only [clearLatched, List.getElem_mapIdx, cleared_iff]
  split <;> rfl

/-- A write of CROSSING_FLAGS is accepted in every part mode (R123, R185). -/
theorem serveWrite_crossingFlags (w : Word) (s : State) : serveWrite 96 0 [w] s
    = ⟨s.withSwu { s.swu with marks := clearLatched s.tables.t7 w s.swu.marks }, .ok, []⟩ := by
  have named : namedItem (96 : Word).toNat (0 : Word).toNat = some ⟨92, 96, .part, .run⟩ := rfl
  have allowed : writeRefused 96 .run s = false := by simp [writeRefused]
  simp only [serveWrite, named]
  rw [if_neg (by decide)]
  exact if_neg (Bool.eq_false_iff.1 allowed)

/-- Settles O38: the write comes to `clearLatched` alone. -/
theorem crossingFlagsWrite : Obligations.CrossingFlagsWrite := by
  intro r w s h four
  obtain ⟨t, e, left, answer⟩ := serve_answered (r := r) (code := 2) h (serveWrite_crossingFlags w (goodFrameSeen s))
    rfl (Nat.zero_le _)
  have marks : t.swu.marks = clearLatched s.tables.t7 w s.swu.marks := congrArg (·.swu.marks) left
  refine ⟨t, e, ?_, fun k known => ?_, answer⟩
  · rw [marks]
    exact left
  · rw [marks]
    exact clearLatched_getD s.tables.t7 w (four.symm ▸ known)

end Sys2Proof.Machine
end

section
/-! SUPPORT. The two interlocks of the sequencer (R136, R146) through reports, moves of the sequencer and hand-offs: a step that leaves
DIGGING forces HOIST, DRAG and SWING, and each entry into a state sets the contactor command that the state may give. -/

namespace Sys2Proof.Machine

/-- What work on the device keeps of the sequencer's interlocks: the digging interlock and the contactor command. -/
structure Interlocks (s t : State) : Prop where
  digging : DiggingOk s → DiggingOk t
  command : CommandOk s → CommandOk t

theorem Interlocks.none {s : State} : Interlocks s s := ⟨id, id⟩

theorem Interlocks.trans {s t u : State} (h : Interlocks s t) (k : Interlocks t u) : Interlocks s u :=
  ⟨fun ok => k.digging (h.digging ok), fun ok => k.command (h.command ok)⟩

/-- Work that makes no group ACTIVE and leaves the sequencer's state, and its command but for one other than WALK. -/
theorem interlocks_of_active {s t : State} (active : ∀ g, g ≠ .walk → (t.group g).state = .active → (s.group g).state = .active)
    (state : t.wsq.state = s.wsq.state) (command : t.wsq.command = .walk → s.wsq.command = .walk) : Interlocks s t :=
  ⟨fun ok g dig moves => state ▸ ok g dig (active g dig moves), fun ok walk => by rw [state]; exact ok (command walk)⟩

/-- Work apart from the groups and the sequencer's state and command. -/
theorem Interlocks.apart {s t u : State} (k : Interlocks s t) (groups : u.groups = t.groups)
    (state : u.wsq.state = t.wsq.state) (command : u.wsq.command = t.wsq.command) : Interlocks s u :=
  k.trans (interlocks_of_active (fun g _ => by simp only [State.group, groups, imp_self]) state (by rw [command]; exact id))

/-- Stopping, cutting and clearing of groups with the sequencer's record left alone. -/
theorem Interlocks.reacted {s t u : State} (k : Interlocks s t) (reacts : Reacts t u) (wsq : u.wsq = t.wsq) : Interlocks s u :=
  k.trans (interlocks_of_active (fun g _ => (reacts.group g).active) (by rw [wsq]) (by rw [wsq]; exact id))

/-- One group's record changed and not made ACTIVE, or WALK's. -/
theorem Interlocks.setGroup {s t : State} {r : Group} (g : Axis) (k : Interlocks s t)
    (active : r.state = .active → (t.group g).state = .active) : Interlocks s (t.setGroup g r) := by
  refine k.trans (interlocks_of_active (fun x _ moves => ?_) rfl id)
  by_cases e : x = g
  · subst e
    rw [State.setGroup_same] at moves
    exact active moves
  · rwa [State.setGroup_other t r e] at moves

/-- In DIGGING with command DRAG both interlocks hold, whatever the groups do. -/
theorem interlocks_of_digging {s t : State} (state : t.wsq.state = .digging) (command : t.wsq.command = .drag) : Interlocks s t :=
  ⟨fun _ _ _ _ => state, fun _ walk => absurd (command.symm.trans walk) (by decide)⟩

/-- The contactor command a sequencer record gives is WALK only in the four states that may give it (R136). -/
def Wsq.commandFits (w : Wsq) : Prop :=
  w.command = .walk → w.state = .closingWalk ∨ w.state = .walkReady ∨ w.state = .stepping ∨ w.state = .finishing

theorem commandOk_iff (s : State) : CommandOk s ↔ s.wsq.commandFits := Iff.rfl

theorem force_inactive (s : State) {g : Axis} (dig : g ≠ .walk) : ((force s).group g).state ≠ .active := by
  have forced : g ∈ [Axis.hoist, .drag, .swing] := by
    revert dig
    cases g <;> decide
  rw [force, stopGroups_group, if_pos forced]
  exact stop_not_active _

/-- After an entry that forces, HOIST, DRAG and SWING are not ACTIVE, so any state may follow (R146). -/
theorem interlocks_forced {s u : State} (w : Wsq) (fits : w.commandFits) : Interlocks s (force (u.withWsq w)) := by
  refine ⟨fun _ g dig moves => absurd moves (force_inactive _ dig), fun _ => ?_⟩
  rw [commandOk_iff, force_wsq]
  exact fits

section
variable {s u : State}

/-! ### The sequencer's moves -/

theorem interlocks_enterDigging : Interlocks s (enterDigging u) := interlocks_of_digging rfl rfl

theorem interlocks_enterClosingDrag : Interlocks s (enterClosingDrag u) := by
  simp only [enterClosingDrag]
  split
  · exact interlocks_enterDigging
  · exact interlocks_forced _ nofun

theorem interlocks_startClosingDrag : Interlocks s (startClosingDrag u) := interlocks_enterClosingDrag

theorem interlocks_enterOpeningWalk : Interlocks s (enterOpeningWalk u) := by
  simp only [enterOpeningWalk]
  split
  · exact interlocks_enterClosingDrag
  · exact interlocks_forced _ nofun

theorem interlocks_enterWalkReady : Interlocks s (enterWalkReady u).1 := interlocks_forced _ fun _ => .inr (.inl rfl)

theorem interlocks_readyFromClosing : Interlocks s (readyFromClosing u).1 :=
  interlocks_enterWalkReady.setGroup .walk id

theorem interlocks_enterClosingWalk : Interlocks s (enterClosingWalk u).1 := by
  simp only [enterClosingWalk]
  split
  · exact interlocks_readyFromClosing
  · exact interlocks_forced _ fun _ => .inl rfl

theorem interlocks_beginReturn : Interlocks s (beginReturn u).1 := by
  simp only [beginReturn]
  split <;> exact interlocks_enterOpeningWalk

theorem interlocks_openDrag (k : Interlocks s u) : Interlocks s (openDrag u).1 := by
  simp only [openDrag]
  split
  · exact interlocks_enterClosingWalk
  · exact k.trans (interlocks_of_active (fun _ _ => id) rfl nofun)

theorem interlocks_endOffPark : Interlocks s (endOffPark u).1 := by
  simp only [endOffPark]
  split
  · split
    · exact interlocks_enterWalkReady.apart rfl rfl rfl
    · exact interlocks_beginReturn
  · exact interlocks_enterWalkReady

theorem interlocks_reactToGroups (k : Interlocks s u) : Interlocks s (reactToGroups u).1 := by
  unfold reactToGroups
  split
  · split
    · exact interlocks_openDrag k
    · exact k
  · split
    · exact interlocks_endOffPark
    · exact k
  · split
    · exact interlocks_endOffPark
    · exact k
  · exact k

/-! ### Reports -/

theorem interlocks_stopGroups (gs : List Axis) (k : Interlocks s u) : Interlocks s (u.stopGroups gs) := by
  refine k.reacted (reacts_stopGroups gs u) ?_
  obtain ⟨p, e⟩ := stopGroups_eq gs u
  rw [e]
  rfl

theorem interlocks_aluTake (rs : List Report) (k : Interlocks s u) : Interlocks s (aluTake rs u) :=
  k.reacted (reacts_aluTake rs u) (aluTake_wsq rs u)

theorem interlocks_report (rs : List Report) (k : Interlocks s u) : Interlocks s (report rs u) := by
  have reacted := interlocks_reactToGroups (interlocks_aluTake rs k)
  simp only [report]
  split
  · exact reacted
  · exact interlocks_aluTake _ reacted

theorem interlocks_settleMove {m : Move} (k : Interlocks s m.1) : Interlocks s (settleMove m) := interlocks_report m.2 k

/-! ### The summary, the cam and the inputs -/

theorem interlocks_reactToSummary (k : Interlocks s u) : Interlocks s (reactToSummary u).1 := by
  unfold reactToSummary
  split
  · unfold settle
    split
    · exact interlocks_of_digging rfl rfl
    · exact interlocks_enterWalkReady
    · exact interlocks_startClosingDrag
    all_goals exact k
  · split
    · exact interlocks_enterClosingWalk
    · exact k
  · split
    · exact interlocks_readyFromClosing
    · exact k
  · split
    · exact interlocks_enterClosingDrag
    · exact k
  · split
    · exact interlocks_enterDigging
    · exact k
  all_goals exact k

theorem interlocks_park : Interlocks s (park u).1 := by
  simp only [park]
  split
  · exact interlocks_beginReturn
  · exact interlocks_enterWalkReady.apart rfl rfl rfl

theorem interlocks_takeCam (c : Int) (ch : ChanState) (k : Interlocks s u) : Interlocks s (takeCam c ch u).1 := by
  simp only [takeCam]
  split
  · exact interlocks_park
  · exact k.apart rfl rfl rfl

theorem interlocks_takeInputs (inputs : BitVec 32) (k : Interlocks s u) : Interlocks s (takeInputs inputs u).1 := by
  simp only [takeInputs]
  split
  · exact k.apart rfl rfl rfl
  · split
    · exact interlocks_stopGroups [.walk] (k.apart rfl rfl rfl)
    · exact k.apart rfl rfl rfl

/-! ### CAB -/

theorem interlocks_digEdge (k : Interlocks s u) : Interlocks s (digEdge u).1 := by
  unfold digEdge
  split
  case h_5 => exact interlocks_startClosingDrag
  case h_6 | h_7 => exact interlocks_enterOpeningWalk
  case h_8 =>
    split
    · exact k
    · exact interlocks_beginReturn
  case h_9 | h_10 => exact k.apart rfl rfl rfl
  all_goals exact k

/-- The transfer begins with the groups forced, so that none is ACTIVE as the sequencer leaves DIGGING (R136, R146). -/
theorem interlocks_walkRequest (k : Interlocks s u) : Interlocks s (walkRequest u).1 := by
  simp only [walkRequest]
  split
  · exact k
  · split
    · exact interlocks_openDrag (interlocks_forced _ nofun)
    · exact interlocks_forced _ nofun

theorem interlocks_walkEdge (k : Interlocks s u) : Interlocks s (walkEdge u).1 := by
  unfold walkEdge
  split
  · exact interlocks_walkRequest k
  · exact k.apart rfl rfl rfl
  · exact k.apart rfl rfl rfl
  · exact k

theorem interlocks_takeSelector (sel : Selector) (k : Interlocks s u) : Interlocks s (takeSelector sel u).1 := by
  have held : Interlocks s (u.withWsq { u.wsq with selector := some sel }) := k.apart rfl rfl rfl
  simp only [takeSelector]
  split
  · exact interlocks_walkEdge held
  · exact interlocks_digEdge held
  · exact held

theorem interlocks_takeConfirm (pressed : Bool) (k : Interlocks s u) : Interlocks s (takeConfirm pressed u) := by
  simp only [takeConfirm]
  split
  · exact interlocks_report _ (k.apart rfl rfl rfl)
  · exact k.apart rfl rfl rfl

theorem interlocks_acknowledged (ns : List Nat) (k : Interlocks s u) : Interlocks s (acknowledged ns u) :=
  interlocks_report [] (k.apart rfl rfl rfl)

theorem interlocks_takeAckPush (pressed : Bool) (k : Interlocks s u) : Interlocks s (takeAckPush pressed u) := by
  simp only [takeAckPush]
  split
  · exact interlocks_acknowledged _ (k.apart rfl rfl rfl)
  · exact k.apart rfl rfl rfl

/-- A reset edge leaves every group HELD (R183). -/
theorem interlocks_takeResetPush (pressed : Bool) (k : Interlocks s u) : Interlocks s (takeResetPush pressed u) := by
  simp only [takeResetPush]
  split
  · refine k.trans (interlocks_of_active (fun g _ active => ?_) rfl id)
    have held : ((u.groups.map Group.hold).get g).state = .active := active
    rw [PerAxis.get_map] at held
    exact nomatch held
  · exact k.apart rfl rfl rfl

theorem interlocks_takeCab (selector pushes : Word) (k : Interlocks s u) : Interlocks s (takeCab selector pushes u) :=
  interlocks_takeResetPush _ (interlocks_takeAckPush _ (interlocks_settleMove (interlocks_takeSelector _
    (interlocks_takeConfirm _ k))))

/-! ### The position unit -/

theorem interlocks_updateAxis (a : Axis) (c : HrCause) (k : Interlocks s u) : Interlocks s (updateAxis a c u) := by
  cases a
  case hoist | drag => exact interlocks_report _ (k.apart rfl rfl rfl)
  case swing => exact interlocks_report _ (interlocks_report _ (k.apart rfl rfl rfl))
  case walk => exact interlocks_settleMove (interlocks_takeCam _ _ (k.apart rfl rfl rfl))

theorem interlocks_handOff (a : Axis) (recovered : Bool) (k : Interlocks s u) : Interlocks s (handOff a recovered u) :=
  interlocks_updateAxis a .movement (k.apart rfl rfl rfl)

theorem interlocks_zeroAxis (a : Axis) (v : Int) (k : Interlocks s u) : Interlocks s (zeroAxis a v u) := by
  cases a
  case hoist => exact interlocks_updateAxis .hoist .datum (k.apart rfl rfl rfl)
  case drag => exact interlocks_updateAxis .drag .datum (k.apart rfl rfl rfl)
  case swing => exact interlocks_updateAxis .swing .datum (k.apart rfl rfl rfl)
  case walk => exact interlocks_updateAxis .walk .datum (k.apart rfl rfl rfl)

theorem interlocks_takeMark (i : BitVec 32) (d : Drive) (k : Interlocks s u) : Interlocks s (takeMark i u d) := by
  simp only [takeMark]
  split
  · exact interlocks_zeroAxis d.axis _ (k.apart rfl rfl rfl)
  · exact k.apart rfl rfl rfl

theorem interlocks_takeMarks (i : BitVec 32) (k : Interlocks s u) : Interlocks s (takeMarks i u) :=
  interlocks_takeMark i .swing (interlocks_takeMark i .drag (interlocks_takeMark i .hoist k))

/-! ### The drive group unit and the marker -/

theorem interlocks_handDrives (extra : List Report) (k : Interlocks s u) : Interlocks s (handDrives extra u) := by
  have handed : Interlocks s ((u.withDgu u.dgu.recompute).withSwu
      { u.swu with heldTorque := u.dgu.recompute.values.hoist.torque }) := k.apart rfl rfl rfl
  simp only [handDrives]
  refine interlocks_report _ ?_
  split
  · exact handed
  · exact interlocks_settleMove (interlocks_reactToSummary handed)

theorem interlocks_takeNumber (number : Word) (k : Interlocks s u) : Interlocks s (takeNumber number u) := by
  simp only [takeNumber]
  split
  · exact interlocks_report _ (k.apart rfl rfl rfl)
  · exact k.apart rfl rfl rfl

theorem interlocks_channelMarker (a : Axis) (k : Interlocks s u) : Interlocks s (channelMarker u a) := by
  simp only [channelMarker]
  split
  · split
    · exact interlocks_report _ (k.apart rfl rfl rfl)
    · exact interlocks_handOff a false (interlocks_report _ (k.apart rfl rfl rfl))
  · exact k.apart rfl rfl rfl

theorem interlocks_channelMarkers (as : List Axis) (k : Interlocks s u) : Interlocks s (as.foldl channelMarker u) := by
  induction as generalizing u with
  | nil => exact k
  | cons a as ih => exact ih (interlocks_channelMarker a k)

theorem interlocks_driveMarker (k : Interlocks s u) : Interlocks s (driveMarker u) := by
  rw [driveMarker_eq]
  exact interlocks_handDrives _ (k.apart rfl rfl rfl)

theorem interlocks_lossMarker (g : Axis) (k : Interlocks s u) : Interlocks s (lossMarker g u) := by
  have counted : Interlocks s (u.setGroup g { u.group g with loss := lossNext (u.group g), note := false }) := k.setGroup g id
  simp only [lossMarker]
  split
  · refine interlocks_report _ (interlocks_stopGroups [g] ?_)
    exact Interlocks.apart (counted.setGroup g (r := { (u.setGroup g _).group g with lastLever := .none }) id) rfl rfl rfl
  · exact counted

theorem interlocks_lossMarkers (gs : List Axis) (k : Interlocks s u) :
    Interlocks s (gs.foldl (fun s g => lossMarker g s) u) := by
  induction gs generalizing u with
  | nil => exact k
  | cons g gs ih => exact ih (interlocks_lossMarker g k)

theorem interlocks_transferMarker (k : Interlocks s u) : Interlocks s (transferMarker u).1 := by
  simp only [transferMarker]
  split
  · split
    · split
      · exact interlocks_startClosingDrag
      · exact interlocks_enterOpeningWalk
      · exact interlocks_forced _ nofun
    · exact k.apart rfl rfl rfl
  · exact k

theorem interlocks_shoeMarker (k : Interlocks s u) : Interlocks s (shoeMarker u).1 := by
  simp only [shoeMarker]
  split
  · exact k.apart rfl rfl rfl
  · exact k

theorem interlocks_seqMarker (k : Interlocks s u) : Interlocks s (seqMarker u) :=
  interlocks_report _ (interlocks_shoeMarker (interlocks_transferMarker k))

theorem interlocks_offerForwarded (bs : Bytes) (k : Interlocks s u) : Interlocks s (offerForwarded bs u) := by
  rw [offerForwarded_lpu]
  exact k.apart rfl rfl rfl

theorem interlocks_offerInserted (bs : Bytes) (k : Interlocks s u) : Interlocks s (offerInserted bs u) := by
  rw [offerInserted_lpu]
  exact k.apart rfl rfl rfl

theorem interlocks_offerState (k : Interlocks s u) : Interlocks s (offerState u) := by
  have offered := interlocks_offerInserted (stateFrame u) k
  simp only [offerState]
  split
  · exact offered.apart rfl rfl rfl
  · exact offered

theorem interlocks_withSwu (x : Swu) (k : Interlocks s u) : Interlocks s (u.withSwu x) := k.apart rfl rfl rfl

theorem interlocks_takeCycle (l : Link) (number : Word) (k : Interlocks s u) : Interlocks s (takeCycle l number u) := by
  have driven := interlocks_driveMarker (interlocks_channelMarkers Axis.all (interlocks_takeNumber number k))
  have marked : Interlocks s (markBeforeSeq number u) := by
    simp only [markBeforeSeq]
    exact interlocks_withSwu _ (interlocks_lossMarkers Axis.all driven)
  simp only [takeCycle]
  exact interlocks_offerState (interlocks_offerForwarded _ (interlocks_seqMarker marked))

/-! ### Tables -/

theorem interlocks_enteredLive (i : TableId) (old : Table) (k : Interlocks s u) : Interlocks s (enteredLive i old u) := by
  cases i
  case t6 | t10 => exact interlocks_report _ (k.apart rfl rfl rfl)
  case t8 =>
    simp only [enteredLive, camTableChanged]
    split <;> exact k.apart rfl rfl rfl
  case t9 => exact interlocks_handDrives [] (k.apart rfl rfl rfl)
  all_goals exact k.apart rfl rfl rfl

theorem interlocks_leftLive (i : TableId) (old : Table) (k : Interlocks s u) : Interlocks s (leftLive i old u) := by
  cases i
  case t6 => exact interlocks_enteredLive .t6 old k
  case t8 => exact interlocks_enteredLive .t8 old k
  case t10 => exact interlocks_enteredLive .t10 old k
  all_goals exact k.apart rfl rfl rfl

theorem interlocks_dropTable (i : TableId) (new : Table) (k : Interlocks s u) : Interlocks s (dropTable i new u) := by
  simp only [dropTable]
  split
  · exact interlocks_leftLive i _ (k.apart rfl rfl rfl)
  · exact k.apart rfl rfl rfl

theorem interlocks_dropT0With (i : TableId) (k : Interlocks s u) : Interlocks s (dropT0With i u) := by
  unfold dropT0With
  split
  · exact interlocks_dropTable _ _ k
  · exact k

theorem interlocks_abandonMembers (i : TableId) (k : Interlocks s u) : Interlocks s (abandonMembers i u) := by
  cases i
  case t9 =>
    simp only [abandonMembers, emptyT9]
    exact interlocks_handDrives [] (k.apart rfl rfl rfl)
  all_goals exact k

end

end Sys2Proof.Machine
end

section
/-! Every command keeps the sequencer's interlocks (R136, R146): the shapers' work, where HOIST, DRAG and SWING become ACTIVE in DIGGING
alone, the requests and the resets, then the whole dispatch, and from it O7 and O8. -/

namespace Sys2Proof.Machine

section
variable {s u : State}

/-! ### The shapers -/

theorem interlocks_setLastLever (g : Axis) (v : Option Int) (k : Interlocks s u) : Interlocks s (setLastLever g v u) :=
  Interlocks.apart (k.setGroup g (r := { u.group g with lastLever := v }) id) rfl rfl rfl

theorem interlocks_commandArrives (g : Axis) (k : Interlocks s u) : Interlocks s (commandArrives g u) := by
  have noted : Interlocks s (u.setGroup g { u.group g with note := true, loss := 0 }) := k.setGroup g id
  simp only [commandArrives]
  split
  · exact interlocks_report _ noted
  · exact noted

theorem interlocks_takeLever (g : Axis) (v : Int) (k : Interlocks s u) : Interlocks s (takeLever g v u) := by
  have taken := interlocks_setLastLever g (some v) k
  simp only [takeLever]
  split
  · exact taken.setGroup g id
  · exact taken

/-- The activation test of a digging group asks for DIGGING (R91). -/
theorem activates_digging {g : Axis} {v : Int} {s : State} (dig : g ≠ .walk) (passes : activates g v s = true) :
    s.wsq.state = .digging := by
  cases g
  case walk => exact absurd rfl dig
  all_goals
    simp only [activates, Bool.and_eq_true, beq_iff_eq] at passes
    tauto

/-- WALK becomes ACTIVE with the grant of a step, which WALK_READY alone gives (R139). -/
theorem activates_walkReady {v : Int} {s : State} (passes : activates .walk v s = true) : s.wsq.state = .walkReady := by
  simp only [activates, grantsStep, Bool.and_eq_true, beq_iff_eq] at passes
  tauto

/-- A digging group becomes ACTIVE in DIGGING; a granted step passes from WALK_READY, where no digging group is ACTIVE, to STEPPING
(R91, R139, R146). -/
theorem interlocks_tryActivate (g : Axis) (v : Int) (k : Interlocks s u) : Interlocks s (tryActivate g v u) := by
  refine k.trans ?_
  unfold tryActivate
  split
  · rename_i passes
    have other (x : Axis) (e : x ≠ g) : ((u.setGroup g { u.group g with state := .active, idle := 0 }).group x) = u.group x :=
      State.setGroup_other u _ e
    by_cases dig : g = .walk
    · subst dig
      have ready := activates_walkReady passes
      refine ⟨fun ok x dig moves => ?_, fun _ _ => .inr (.inr (.inl rfl))⟩
      have was : (u.group x).state = .active := by
        rw [← other x dig]
        exact moves
      exact absurd ((ok x dig was).symm.trans ready) (by decide)
    · have digging := activates_digging dig passes
      have same : (activate g v u).wsq = u.wsq := by
        cases g
        case walk => exact absurd rfl dig
        all_goals rfl
      refine ⟨fun _ _ _ _ => by rw [same]; exact digging, fun ok => ?_⟩
      rw [commandOk_iff, same]
      exact ok
  · exact .none

theorem interlocks_walkLever (v : Int) (k : Interlocks s u) : Interlocks s (walkLever v u) := by
  refine k.trans ?_
  simp only [walkLever]
  split
  · rename_i stepping
    have leaves : Interlocks u (u.withWsq { u.wsq with state := .finishing }) :=
      ⟨fun ok g dig moves => absurd ((ok g dig moves).symm.trans stepping.2) (by decide), fun _ _ => .inr (.inr (.inr rfl))⟩
    split
    · split
      · exact interlocks_settleMove interlocks_park
      · exact leaves
    · exact Interlocks.none.apart rfl rfl rfl
  · exact .none

/-- The end of a frame makes no group ACTIVE (R92, R94). -/
theorem stopFrame_active {g : Axis} {s : State} (active : (stopFrame g s).state = .active) : (s.group g).state = .active := by
  rcases stopFrame_cases g s with ⟨-, e⟩ | ⟨-, e⟩ <;> rw [e] at active
  · exact nomatch active
  · exact active

theorem interlocks_shapeRest (g : Axis) (v : Int) (k : Interlocks s u) : Interlocks s (shapeRest g v u).state := by
  have recorded : Interlocks s (recordCaps g u) := by
    unfold recordCaps
    split
    · exact k.apart rfl rfl rfl
    · exact k
  refine recorded.setGroup g fun active => ?_
  have ended : (endFrame g v (recordCaps g u)).state = .active := active
  simp only [endFrame] at ended
  split at ended
  · assumption
  · exact stopFrame_active ended
  · exact ended
  · exact ended

theorem interlocks_shapeOwn (g : Axis) (v : Int) (k : Interlocks s u) : Interlocks s (shapeOwn g v u).state := by
  have active := interlocks_tryActivate g v k
  cases g
  case hoist => exact interlocks_shapeRest .hoist v active
  case drag => exact interlocks_shapeRest .drag v active
  case swing => exact interlocks_shapeRest .swing v (interlocks_withSwu _ active)
  case walk => exact interlocks_shapeRest .walk v (interlocks_walkLever v active)

theorem interlocks_shapeWalk (k : Interlocks s u) : Interlocks s (shapeWalk u).state := by
  refine k.setGroup .drag fun active => ?_
  have framed : (walkFrame u).state = .active := active
  by_cases stopping : (u.group .drag).state = .stopping
  · simp only [walkFrame, stopping] at framed
    exact stopFrame_active framed
  · rwa [walkFrame_rest u stopping] at framed

theorem interlocks_shape (g : Axis) (lever : Word) (k : Interlocks s u) : Interlocks s (shape g lever u).state := by
  have taken := interlocks_takeLever g (frameLever g lever u) (interlocks_commandArrives g k)
  simp only [shape]
  split
  · exact interlocks_shapeWalk taken
  · exact interlocks_shapeOwn g _ taken

/-! ### Frames -/

theorem interlocks_takeCommand (l : Link) (group lever : Word) (k : Interlocks s u) :
    Interlocks s (takeCommand l group lever u) := by
  unfold takeCommand
  split
  · exact interlocks_offerForwarded _ (interlocks_report _ (interlocks_shape _ lever k))
  · exact interlocks_offerForwarded _ k

theorem interlocks_takeSampleFrame (src : Byte) (d : SampleData) (k : Interlocks s u) :
    Interlocks s (takeSampleFrame src d u) := by
  simp only [takeSampleFrame]
  split
  · exact k
  · split
    · exact k
    · exact interlocks_handOff _ _ (interlocks_report _ (k.apart rfl rfl rfl))

theorem interlocks_takeDiscreteFrame (src : Byte) (low high : Word) (k : Interlocks s u) :
    Interlocks s (takeDiscreteFrame src low high u) := by
  simp only [takeDiscreteFrame, takeDiscrete]
  split
  · exact interlocks_report _ (interlocks_takeMarks _ (interlocks_settleMove (interlocks_takeInputs _ (k.apart rfl rfl rfl))))
  · exact k

theorem interlocks_takeDriveStatus (src : Nat) (x : DriveData) (k : Interlocks s u) : Interlocks s (takeDriveStatus src x u) := by
  simp only [takeDriveStatus]
  split
  · exact interlocks_handDrives [] (k.apart rfl rfl rfl)
  · exact k

theorem interlocks_takeBad (reason : Nat) (bs : Bytes) (k : Interlocks s u) : Interlocks s (takeBad reason bs u) := by
  simp only [takeBad]
  refine interlocks_offerForwarded _ (interlocks_report _ ?_)
  split
  · exact k.apart rfl rfl rfl
  · exact k

theorem interlocks_expireTimer (k : Interlocks s u) : Interlocks s (expireTimer u) := by
  simp only [expireTimer]
  split
  · exact k.apart rfl rfl rfl
  · exact interlocks_report _ (k.apart rfl rfl rfl)

theorem interlocks_completeReset (straps : BitVec 5) (k : Interlocks s u) : Interlocks s (completeReset straps u) := by
  simp only [completeReset]
  split <;> exact k.apart rfl rfl rfl

/-- A reset leaves every group HELD and the contactor command KEEP, and the owners' reports keep the interlocks (R86, R129). -/
theorem interlocks_afterReset {t : State} (groups : t.groups = .all .reset) (command : t.wsq.command = .keep) :
    Interlocks s (ownersReport t) := by
  have fresh : Interlocks s t := by
    refine ⟨fun _ g _ active => ?_, fun _ walk => absurd (command.symm.trans walk) (by decide)⟩
    rw [State.group, groups, PerAxis.get_all] at active
    exact nomatch active
  unfold ownersReport
  split <;> exact interlocks_report _ (interlocks_report _ fresh)

/-! ### Requests -/

theorem interlocks_serveOpen (table : Word) (k : Interlocks s u) : Interlocks s (serveOpen table u).state := by
  unfold serveOpen
  split
  · exact k
  · split
    · exact k
    · split
      · exact k
      · exact interlocks_dropTable _ _ (interlocks_dropT0With _ k)

theorem interlocks_serveAbandon (table : Word) (k : Interlocks s u) : Interlocks s (serveAbandon table u).state := by
  unfold serveAbandon
  split
  · exact k
  · split
    · exact k
    · exact interlocks_abandonMembers _ (interlocks_dropTable _ _ (interlocks_dropT0With _ k))

theorem interlocks_serveClose (table : Word) (k : Interlocks s u) : Interlocks s (serveClose table u).state := by
  unfold serveClose
  split
  · exact k
  · split
    · exact k
    · split
      · exact k
      · split
        · exact k
        · exact interlocks_enteredLive _ _ (k.apart rfl rfl rfl)

theorem interlocks_serveLoad (table first : Word) (mode : Byte) (words : List Word) (k : Interlocks s u) :
    Interlocks s (serveLoad table first mode words u).state := by
  unfold serveLoad
  split
  · exact k
  · split
    · exact k
    · split
      · exact k
      · split
        · exact k
        · simp only
          split <;> exact k.apart rfl rfl rfl

theorem interlocks_serveReadTable (table first : Word) (count : Byte) (k : Interlocks s u) :
    Interlocks s (serveReadTable table first count u).state := by
  unfold serveReadTable
  split
  · exact k
  · simp only
    split <;> exact k

theorem interlocks_serveRead (item index : Word) (count : Byte) (k : Interlocks s u) :
    Interlocks s (serveRead item index count u).state := by
  simp only [serveRead]
  split
  · exact k
  · split
    · exact k
    · simp only
      split <;> exact k.apart rfl rfl rfl

theorem interlocks_serveStart (k : Interlocks s u) : Interlocks s (serveStart u).state := by
  unfold serveStart
  split
  · exact k
  · exact k
  · split
    · exact k
    · exact k.apart rfl rfl rfl

theorem interlocks_serveStop (k : Interlocks s u) : Interlocks s (serveStop u).state := by
  unfold serveStop
  split
  · exact interlocks_stopGroups Axis.all (k.apart rfl rfl rfl)
  · exact k
  · exact k

theorem interlocks_serveLearn (channel : Word) (k : Interlocks s u) : Interlocks s (serveLearn channel u).state := by
  unfold serveLearn
  split
  · exact k
  · split
    · exact k.apart rfl rfl rfl
    · exact k

theorem interlocks_serveZero (channel : Word) (values : List Word) (k : Interlocks s u) :
    Interlocks s (serveZero channel values u).state := by
  unfold serveZero
  split
  · exact k
  · split
    · exact k
    · split
      · exact k
      · split
        · exact k
        · exact interlocks_zeroAxis _ _ k

theorem interlocks_aluAct (e : Effect) (k : Interlocks s u) : Interlocks s (aluAct e u) := by
  have stopped : Interlocks s ((handSeverities u).stopGroups e.stops) :=
    interlocks_stopGroups _ (interlocks_stopGroups _ (k.apart rfl rfl rfl))
  simp only [aluAct]
  split
  · refine stopped.reacted (reacts_haltPart _) ?_
    unfold haltPart
    split <;> rfl
  · exact stopped

theorem interlocks_serveForce (condition : Word) (k : Interlocks s u) : Interlocks s (serveForce condition u).state := by
  simp only [serveForce]
  split
  · exact k
  · split
    · exact k
    · exact k
    · split
      · exact k
      · exact interlocks_settleMove (interlocks_reactToGroups (interlocks_aluAct _ (k.apart rfl rfl rfl)))

theorem interlocks_serveAck (target : Word) (k : Interlocks s u) : Interlocks s (serveAck target u).state := by
  simp only [serveAck]
  split
  · exact interlocks_acknowledged _ k
  · split
    · exact interlocks_acknowledged _ k
    · exact k

theorem interlocks_serveReadAlarms (position : Word) (count : Byte) (k : Interlocks s u) :
    Interlocks s (serveReadAlarms position count u).state := by
  simp only [serveReadAlarms]
  split
  · exact k
  · simp only
    split
    · exact k
    · exact interlocks_acknowledged _ k

/-! ### Writes -/

/-- Whatever item it writes, a WRITE reaches the sequencer through the recomputes of the POS and through reports alone (R186). -/
theorem interlocks_writeItem (sc : Scope) (n index : Nat) (w : Word) (s : State) : Interlocks s (writeItem sc n index w s).1 := by
  have stored {u : State} (groups : u.groups = s.groups) (wsq : u.wsq = s.wsq) : Interlocks s u :=
    Interlocks.none.apart groups (by rw [wsq]) (by rw [wsq])
  have part : Interlocks s (writePart n w s).1 := by
    simp only [writePart]
    split
    case h_4 =>
      simp only [setSwingGear]
      split
      · exact .none
      · exact interlocks_updateAxis .swing .datum (stored rfl rfl)
    case h_5 =>
      simp only [setRopeK]
      split
      · exact .none
      · exact interlocks_updateAxis .hoist .datum (stored rfl rfl)
    case h_6 =>
      simp only [setRopeK]
      split
      · exact .none
      · exact interlocks_updateAxis .drag .datum (stored rfl rfl)
    case h_10 => exact interlocks_updateAxis .walk .datum (stored rfl rfl)
    case h_11 => exact interlocks_updateAxis .swing .datum (interlocks_report _ (stored rfl rfl))
    all_goals exact stored rfl rfl
  have channel (a : Axis) : Interlocks s (writeChannel n a w s).1 := by
    have fixed (it : ChannelItems) : Interlocks s (applyFixed a it s) := by
      rw [applyFixed_eq]
      exact stored rfl rfl
    simp only [writeChannel]
    split
    case h_5 | h_6 | h_7 => exact fixed _
    case h_11 => exact interlocks_report _ (stored rfl rfl)
    case h_12 =>
      rw [applyGainMode_eq]
      exact stored rfl rfl
    all_goals exact stored rfl rfl
  have group (g : Axis) : Interlocks s (writeGroup n g w s).1 := by
    simp only [writeGroup]
    split <;> exact stored rfl rfl
  unfold writeItem
  split
  · exact part
  · split
    · exact channel _
    · exact .none
  · split
    · exact group _
    · exact .none
  all_goals exact .none

theorem interlocks_serveWrite (item index : Word) (values : List Word) (k : Interlocks s u) :
    Interlocks s (serveWrite item index values u).state := by
  unfold serveWrite
  split
  · exact k
  · split
    · exact k
    · split
      · split
        · exact k
        · exact k.trans (interlocks_writeItem _ _ _ _ u)
      · exact k

end

/-! ### Every command -/

section
variable {s t : State}

theorem interlocks_next {u : State} (e : (.next u : Result) = .next t) (k : Interlocks s u) : Interlocks s t :=
  Host.Outcome.next.inj e ▸ k

theorem interlocks_arrival {body : State → State} (l : Link) (size : Nat) (h : ∀ u, Interlocks s u → Interlocks s (body u)) :
    Interlocks s (arrival l size body s) := by
  unfold arrival
  split
  · exact h _ (Interlocks.none.apart rfl rfl rfl)
  · exact .none

theorem interlocks_delivered {body : State → State} (kind : Byte) (l : Link) (ws : List Word)
    (h : ∀ u, Interlocks s u → Interlocks s (body u)) : Interlocks s (delivered kind l ws body s) :=
  interlocks_arrival l _ fun u k => interlocks_offerForwarded _ (h u k)

theorem interlocks_serve {r : Req} {code : Nat} {body : State → Reply} (e : serve r code body s = .next t)
    (h : ∀ u, Interlocks s u → Interlocks s (body u).state) : Interlocks s t := by
  unfold serve at e
  split at e
  · exact interlocks_next e (interlocks_offerInserted _ (h _ (Interlocks.none.apart rfl rfl rfl)))
  · exact interlocks_next e .none

theorem interlocks_cycleEvent {due : Bool} {l : Link} {number : Word} (e : cycleEvent due l number s = .next t) :
    Interlocks s t := by
  unfold cycleEvent at e
  split at e
  · exact interlocks_next e (interlocks_arrival l 2 fun _ => interlocks_takeCycle l number)
  · exact interlocks_next e .none

theorem interlocks_sampleEvent {due : Bool} {l : Link} {d : SampleData} (e : sampleEvent due l d s = .next t) :
    Interlocks s t := by
  unfold sampleEvent at e
  split at e
  · exact interlocks_next e (interlocks_delivered _ l _ fun _ => interlocks_takeSampleFrame l.src d)
  · exact interlocks_next e .none

/-- Every command keeps the sequencer's interlocks. -/
theorem interlocks_exec {c : Instr} (e : exec c s = .next t) : Interlocks s t := by
  cases c
  case powerOnReset | pinReset => exact interlocks_next e (interlocks_afterReset rfl rfl)
  case resetComplete straps =>
    simp only [exec, execResetComplete] at e
    split at e
    · exact interlocks_next e (interlocks_completeReset straps .none)
    all_goals exact interlocks_next e .none
  case bypassStart =>
    simp only [exec, execBypassStart] at e
    split at e
    · exact interlocks_next e (Interlocks.none.apart rfl rfl rfl)
    · exact interlocks_next e .none
  case softReset =>
    simp only [exec, execSoftReset] at e
    split at e
    · exact interlocks_next e (interlocks_afterReset rfl rfl)
    all_goals exact interlocks_next e .none
  case cycle l number => exact interlocks_next e (interlocks_arrival l 2 fun _ => interlocks_takeCycle l number)
  case cab l selector pushes => exact interlocks_next e (interlocks_delivered _ l _ fun _ => interlocks_takeCab selector pushes)
  case command l group lever => exact interlocks_next e (interlocks_arrival l 4 fun _ => interlocks_takeCommand l group lever)
  case sample l d => exact interlocks_next e (interlocks_delivered _ l _ fun _ => interlocks_takeSampleFrame l.src d)
  case discrete l low high =>
    exact interlocks_next e (interlocks_delivered _ l _ fun _ => interlocks_takeDiscreteFrame l.src low high)
  case driveStatus l d =>
    exact interlocks_next e (interlocks_delivered _ l _ fun _ => interlocks_takeDriveStatus l.src.toNat d)
  case forwardedFrame bytes =>
    simp only [exec, execForwardedFrame] at e
    split at e
    · exact interlocks_next e (interlocks_offerForwarded _ (Interlocks.none.apart rfl rfl rfl))
    · exact interlocks_next e .none
  case ownFrameRemoval bytes =>
    simp only [exec, execOwnFrameRemoval] at e
    split at e
    · exact interlocks_next e (Interlocks.none.apart rfl rfl rfl)
    · exact interlocks_next e .none
  case badFrame bytes =>
    simp only [exec, execBadFrame] at e
    split at e
    · split at e
      · exact interlocks_next e (interlocks_takeBad _ bytes .none)
      · exact interlocks_next e .none
    · exact interlocks_next e .none
  case frameTransmitted => exact interlocks_next e (Interlocks.none.apart rfl rfl rfl)
  case loopSilent =>
    simp only [exec, execLoopSilent] at e
    split at e
    · exact interlocks_next e (interlocks_expireTimer .none)
    · exact interlocks_next e .none
  case read | discardCountRead => exact interlocks_serve e fun _ => interlocks_serveRead _ _ _
  case openTable => exact interlocks_serve e fun _ => interlocks_serveOpen _
  case loadTable => exact interlocks_serve e fun _ => interlocks_serveLoad _ _ _ _
  case closeTable => exact interlocks_serve e fun _ => interlocks_serveClose _
  case abandonTable => exact interlocks_serve e fun _ => interlocks_serveAbandon _
  case readTable => exact interlocks_serve e fun _ => interlocks_serveReadTable _ _ _
  case start => exact interlocks_serve e fun _ => interlocks_serveStart
  case stop => exact interlocks_serve e fun _ => interlocks_serveStop
  case learn => exact interlocks_serve e fun _ => interlocks_serveLearn _
  case zero => exact interlocks_serve e fun _ => interlocks_serveZero _ _
  case force => exact interlocks_serve e fun _ => interlocks_serveForce _
  case ack => exact interlocks_serve e fun _ => interlocks_serveAck _
  case readAlarms => exact interlocks_serve e fun _ => interlocks_serveReadAlarms _ _
  case reset => exact interlocks_serve e fun _ k => k.apart rfl rfl rfl
  case unknownCode r code =>
    simp only [exec, execUnknownCode] at e
    split at e
    · exact interlocks_next e .none
    · exact interlocks_serve e fun _ => id
  case write | crossingFlags | pitHeading | correctionMode | speedLimit | offsetLimit | gainLimit | gainMode | gainLow
      | gainHigh | swingGear | hoistRopeK | dragRopeK | camZero | fixedItems =>
    exact interlocks_serve e fun _ => interlocks_serveWrite _ _ _
  case channelStale | memberAbsent | discreteStale | cmdLost | transferTimeout | shoeMismatch | shoeDisagree =>
    simp only [exec, execChannelStale, execMemberAbsent, execDiscreteStale, execCmdLost, execTransferTimeout,
      execShoeMismatch, execShoeDisagree] at e
    exact interlocks_cycleEvent e
  case brakeDelayExpiry l group lever =>
    simp only [exec, execBrakeDelayExpiry] at e
    split at e
    · exact interlocks_next e (interlocks_arrival l 4 fun _ => interlocks_takeCommand l _ lever)
    · exact interlocks_next e .none
  case stuck | settled =>
    simp only [exec, execStuck, execSettled] at e
    exact interlocks_sampleEvent e

/-- Every step keeps the sequencer's interlocks: its front command runs on the same groups and the same sequencer. -/
theorem interlocks_step (e : step s = .next t) : Interlocks s t := by
  unfold step at e
  split at e
  · exact interlocks_next e .none
  · rename_i rest _
    exact (Interlocks.none.apart (t := s) (u := s.withPending rest) rfl rfl rfl).trans (interlocks_exec e)

end

/-- Settles O7: a step keeps HOIST, DRAG and SWING out of ACTIVE outside DIGGING (`interlocks_step`). -/
theorem stepKeepsDiggingInterlock : Obligations.StepKeepsDiggingInterlock := fun _ _ ok e => (interlocks_step e).digging ok

/-- Settles O8: a step keeps the contactor command WALK in its four states (`interlocks_step`). -/
theorem stepKeepsContactorCommand : Obligations.StepKeepsContactorCommand := fun _ _ ok e => (interlocks_step e).command ok

end Sys2Proof.Machine
end

section
/-! SUPPORT. The sequencer's record after each of its entries and moves (R136, R137, R142 to R144, R147). -/

namespace Sys2Proof.Machine

section
variable (s : State)

theorem enterDigging_wsq : (enterDigging s).wsq = { s.wsq with state := .digging, command := .drag, transfer := 0 } := rfl

/-- CLOSING_DRAG passes to DIGGING at once where the summary is DRAG (R147). -/
theorem enterClosingDrag_wsq : (enterClosingDrag s).wsq = { s.wsq with
    state := if s.dgu.summary = .drag then .digging else .closingDrag
    command := .drag
    transfer := if s.dgu.summary = .drag then 0 else s.wsq.transfer } := by
  simp only [enterClosingDrag, force_dgu, State.withWsq_dgu]
  split
  · rw [enterDigging_wsq, force_wsq]
    rfl
  · rw [force_wsq]
    rfl

theorem startClosingDrag_wsq : (startClosingDrag s).wsq = { s.wsq with
    state := if s.dgu.summary = .drag then .digging else .closingDrag, command := .drag, transfer := 0 } := by
  rw [startClosingDrag, enterClosingDrag_wsq]
  by_cases drag : s.dgu.summary = .drag <;> simp [drag]

/-- OPENING_WALK passes to CLOSING_DRAG at once where the summary is NONE (R147). -/
theorem enterOpeningWalk_wsq : (enterOpeningWalk s).wsq = { s.wsq with
    state := if s.dgu.summary = .none then .closingDrag else .openingWalk
    command := if s.dgu.summary = .none then .drag else .none
    transfer := 0 } := by
  simp only [enterOpeningWalk, force_dgu, State.withWsq_dgu]
  split
  · rename_i none
    rw [enterClosingDrag_wsq, force_wsq, force_dgu, State.withWsq_dgu, none]
    rfl
  · rw [force_wsq]
    rfl

theorem enterWalkReady_wsq : (enterWalkReady s).1.wsq = { s.wsq with
    state := .walkReady, command := .walk, transfer := 0, offPark := !s.inPark, dir := none, mismatch := 0, disagree := 0 } :=
  force_wsq _

/-- The return begins with OPENING_WALK (R147). -/
theorem beginReturn_wsq : (beginReturn s).1.wsq = { s.wsq with
    returnPending := false
    state := if s.dgu.summary = .none then .closingDrag else .openingWalk
    command := if s.dgu.summary = .none then .drag else .none
    transfer := 0 } := by
  simp only [beginReturn]
  split <;> rw [enterOpeningWalk_wsq] <;> rfl

end

/-! ### Parking -/

theorem holdWalk_atRest (s : State) : ((holdWalk s).group .walk).atRest = true := by
  unfold holdWalk
  split
  case h_3 held => simp [Group.atRest, held]
  case h_4 cut => simp [Group.atRest, cut]
  all_goals
    rw [State.setGroup_same]
    rfl

theorem holdWalk_wsq (s : State) : (holdWalk s).wsq = s.wsq := by
  unfold holdWalk
  split <;> rfl

/-- Parking leaves WALK at rest (R142). -/
theorem park_atRest (s : State) : ((park s).1.group .walk).atRest = true := by
  have ready : ((enterWalkReady (holdWalk s)).1.group .walk).atRest = true :=
    ((reacts_enterWalkReady _).group .walk).rest (holdWalk_atRest s)
  simp only [park]
  split
  · exact ((reacts_beginReturn _).group .walk).rest ready
  · exact ready

/-- Parking ends the step: no direction, no off-park flag, and WALK_READY unless the return begins (R142). -/
theorem park_wsq (s : State) : (park s).1.wsq.dir = none ∧ (park s).1.wsq.offPark = false
    ∧ (s.wsq.returnPending = false → (park s).1.wsq.state = .walkReady) := by
  simp only [park]
  split
  · rename_i pending
    rw [beginReturn_wsq]
    refine ⟨congrArg Wsq.dir (enterWalkReady_wsq (holdWalk s)), rfl, fun none => absurd (pending.symm.trans none) (by decide)⟩
  · exact ⟨congrArg Wsq.dir (enterWalkReady_wsq (holdWalk s)), rfl, fun _ => enterWalkReady_state (holdWalk s)⟩

end Sys2Proof.Machine
end

section
/-! Hand-offs of the cam angle that enter the park sector (R142, R143), and O59. -/

namespace Sys2Proof.Machine

/-- The sequencer's record as a hand-off of the cam leaves it before any parking, with the step count given (R133). -/
def camTaken (c : Int) (chan : ChanState) (steps : Int) (s : State) : State :=
  s.withWsq { s.wsq with heldCam := c, heldSector := sectorOf s.tables.t8 c, heldWalk := chan, steps := steps }

/-- Outside STEPPING and FINISHING a hand-off counts no entry and parks nothing (R143). -/
theorem takeCam_resting (c : Int) (chan : ChanState) {s : State} (h : walking s.wsq.state = false) :
    takeCam c chan s = (camTaken c chan s.wsq.steps s, []) := by
  have stepping : (s.wsq.state == .stepping) = false := by cases e : s.wsq.state <;> simp_all [walking]
  have finishing : s.wsq.state ≠ .finishing := by rintro e; simp [walking, e] at h
  have finished : (s.wsq.state == .finishing) = false := beq_eq_false_iff_ne.2 finishing
  simp only [takeCam, stepping, finished, Bool.or_self, Bool.and_false, Bool.false_eq_true, if_false]
  exact if_neg fun parks => finishing parks.2

theorem sectorOf_live {t8 : Table} {c : Int} {j : Nat} (h : sectorOf t8 c = some j) : t8.isLive = true := by
  unfold sectorOf at h
  split at h
  · assumption
  · exact nomatch h

/-- In STEPPING and FINISHING a hand-off that enters the park sector is counted, and parks in FINISHING (R142, R143). -/
theorem takeCam_entry {c : Int} {chan : ChanState} {s : State} {k j : Nat} (walks : walking s.wsq.state = true)
    (held : s.wsq.heldSector = some k) (sector : sectorOf s.tables.t8 c = some j) (outside : sectorPark s.tables.t8 k = false)
    (inside : sectorPark s.tables.t8 j = true) (tracked : chan ≠ .acquire) :
    takeCam c chan s = if s.wsq.state = .finishing then park (camTaken c chan (countEntry s.wsq.heldCam c s.wsq.steps) s)
      else (camTaken c chan (countEntry s.wsq.heldCam c s.wsq.steps) s, []) := by
  have live := sectorOf_live sector
  have counted : (s.wsq.state == .stepping || s.wsq.state == .finishing) = true := by
    cases e : s.wsq.state <;> simp_all [walking]
  simp [takeCam, camTaken, isPark, held, sector, outside, inside, tracked, live, counted]

/-- Settles O59: `takeCam_resting`, and `takeCam_entry` with what parking leaves (`park_atRest`, `park_wsq`). -/
theorem parkEntries : Obligations.ParkEntries := by
  intro c chan s
  refine ⟨fun rests => ?_, fun k j walks held sector outside inside tracked _ _ => ?_⟩
  · rw [takeCam_resting c chan rests]
    exact ⟨rfl, rfl⟩
  · rw [takeCam_entry walks held sector outside inside tracked]
    by_cases finishing : s.wsq.state = .finishing
    · rw [if_pos finishing]
      obtain ⟨dir, offPark, ready⟩ := park_wsq (camTaken c chan (countEntry s.wsq.heldCam c s.wsq.steps) s)
      exact ⟨(reacts_park _).steps, fun stepping => absurd (finishing.symm.trans stepping) (by decide),
        fun _ => ⟨park_atRest _, dir, offPark, ready⟩⟩
    · rw [if_neg finishing]
      exact ⟨rfl, fun stepping => ⟨stepping, rfl⟩, fun e => absurd e finishing⟩

end Sys2Proof.Machine
end

section
/-! SUPPORT. A marker where it reaches the sequencer (R171), and a report of one event: its entry, its detail and the groups it stops (R150,
R154, R162). -/

namespace Sys2Proof.Machine

/-! ### One event reported -/

section
variable {ctx : AluCtx} {n : Nat} {a : Alu}

/-- An occasion leaves the detail it brings, masked or not (R150). -/
theorem occasion_detail (ctx : AluCtx) (d : Option Nat) (forced : Bool) (within : n < a.conds.length) :
    ((a.occasion ctx n d forced).cond n).detail = d := by
  by_cases mask : effMask ctx.t10 n = true
  · rw [Alu.occasion, if_pos mask, Alu.cond_setCond_same a _ within]
  · exact (occasion_cond ctx n d forced a within (Bool.eq_false_iff.2 mask)).1

/-- An unmasked occasion of a QUIET condition stands last in a list that has a place for it, its condition GONE_NEW (R154, R155). -/
theorem occasion_new (d : Option Nat) (forced : Bool) (within : n < a.conds.length) (mask : effMask ctx.t10 n = false)
    (quiet : (a.cond n).listing = .quiet) (room : a.list.length < 32) :
    (a.occasion ctx n d forced).list = a.list ++ [⟨n, 1, a.seq, ctx.cycle⟩]
      ∧ ((a.occasion ctx n d forced).cond n).listing = .goneNew := by
  let b := a.setCond n { a.cond n with detail := d, forced := forced }
  have bLength : n < b.conds.length := by simpa [b] using within
  have raised : b.raiseListing ctx n = b.append ctx n := by
    have listing : (b.cond n).listing = .quiet := by
      rw [Alu.cond_setCond_same a _ within]
      exact quiet
    simp only [Alu.raiseListing, listing]
    exact if_pos room
  have appended : ((b.append ctx n).cond n).listing = .activeNew :=
    congrArg Cond.listing (Alu.cond_setCond_same b { b.cond n with listing := .activeNew } bLength)
  have aLength : n < (b.append ctx n).conds.length := by
    rw [(listingOnly_append ctx n b).length]
    exact bLength
  have fallen : a.occasion ctx n d forced = (b.append ctx n).setListing n .goneNew := by
    rw [Alu.occasion, if_neg (by rw [mask]; decide)]
    show (b.raiseListing ctx n).fallListing ctx n = _
    rw [raised]
    simp only [Alu.fallListing, appended]
  rw [fallen]
  exact ⟨rfl, congrArg Cond.listing (Alu.cond_setCond_same _ _ aLength)⟩

theorem take_event (ctx : AluCtx) (n : Nat) (d : Option Nat) (a : Alu) : (a.take ctx [.event n d]).1 = a.occasion ctx n d false := rfl

/-- An unmasked event of severity STOP or more stops the groups it affects (R162). -/
theorem take_event_stops (d : Option Nat) {g : Axis} (mask : effMask ctx.t10 n = false) (severe : 3 ≤ (effSeverity ctx.t10 n).code)
    (affected : g ∈ (condSpec n).affects) : g ∈ (a.take ctx [.event n d]).2.stops := by
  show g ∈ (if effMask ctx.t10 n then Effect.none else Effect.none.ofEvent ctx.t10 n).stops
  rw [if_neg (by rw [mask]; decide)]
  simp [Effect.ofEvent, Effect.none, show Severity.stop.code = 3 from rfl, severe, affected]

end

/-- A group that a report stops is not ACTIVE after the ALU's work (R162). -/
theorem aluTake_stopped {rs : List Report} {s : State} {g : Axis} (h : g ∈ (s.alu.take s.aluCtx rs).2.stops) :
    ((aluTake rs s).group g).state ≠ .active := by
  let e := (s.alu.take s.aluCtx rs).2
  let v := handSeverities (s.withAlu (s.alu.take s.aluCtx rs).1)
  have stopped : ((v.stopGroups e.stops).group g).state ≠ .active := by
    rw [stopGroups_group, if_pos h]
    exact stop_not_active _
  have act : Reacts (v.stopGroups e.stops) (aluTake rs s) := by
    simp only [aluTake, aluAct]
    split
    · exact reacts_haltPart _
    · exact .refl _
  exact fun active => stopped ((act.group g).active active)

/-! ### The marker at the sequencer -/

theorem offerState_block {α : Type} (view : State → α) (lpu : ∀ s x, view (s.withLpu x) = view s)
    (swu : ∀ s x, view (s.withSwu x) = view s) (s : State) : view (offerState s) = view s := by
  have offered : view (offerInserted (stateFrame s) s) = view s := by
    rw [offerInserted_lpu]
    exact lpu s _
  simp only [offerState]
  split
  · exact (swu _ _).trans offered
  · exact offered

/-- What neither the port nor the SWU holds stands after a marker as the sequencer's work left it (R171). -/
theorem takeCycle_block {α : Type} (view : State → α) (lpu : ∀ s x, view (s.withLpu x) = view s)
    (swu : ∀ s x, view (s.withSwu x) = view s) (l : Link) (n : Word) (s : State) :
    view (takeCycle l n s) = view (seqMarker (markBeforeSeq n s)) :=
  (offerState_block view lpu swu _).trans (offerForwarded_block _ _ view (lpu _))

section
variable (l : Link) (n : Word) (s : State)

theorem takeCycle_wsq : (takeCycle l n s).wsq = (seqMarker (markBeforeSeq n s)).wsq :=
  takeCycle_block State.wsq (fun _ _ => rfl) (fun _ _ => rfl) l n s

theorem takeCycle_alu : (takeCycle l n s).alu = (seqMarker (markBeforeSeq n s)).alu :=
  takeCycle_block State.alu (fun _ _ => rfl) (fun _ _ => rfl) l n s

theorem takeCycle_group (g : Axis) : (takeCycle l n s).group g = (seqMarker (markBeforeSeq n s)).group g :=
  takeCycle_block (fun s => s.group g) (fun _ _ => rfl) (fun _ _ => rfl) l n s

theorem takeCycle_config : SameConfig s (takeCycle l n s) := ⟨takeCycle_items s l n, (steady_takeCycle l n s).tables⟩

/-- The marker work before the sequencer's takes the number and keeps the condition records' number (R171). -/
theorem markBeforeSeq_kept : (markBeforeSeq n s).lpu.lastCycle = n.toNat
    ∧ (markBeforeSeq n s).alu.conds.length = s.alu.conds.length := by
  have before := dguStands_channelMarkers Axis.all (dguStands_takeNumber n s)
  have driven := handsOff_driveMarker (Axis.all.foldl channelMarker (takeNumber n s))
  have behind : DguStands (driveMarker (Axis.all.foldl channelMarker (takeNumber n s))) (markBeforeSeq n s) := by
    simp only [markBeforeSeq]
    exact dguStands_withSwu _ (dguStands_lossMarkers Axis.all (.refl _))
  exact ⟨behind.lastCycle.trans ((congrArg Lpu.lastCycle driven.lpu).trans before.lastCycle),
    behind.length.trans (driven.length.trans before.length)⟩

end

end Sys2Proof.Machine
end

section
/-! The transfer's timeout (R137), and O46. -/

namespace Sys2Proof.Machine

section
variable {u : State}

theorem transferDue_of_limit (transfers : transferring u.wsq.state = true) (limit : u.items.transferLimit ≤ u.wsq.transfer + 1)
    (small : u.wsq.transfer < 255) : transferDue u = true := by
  simp [transferDue, transfers, satInc, small, limit]

/-- At the limit OPENING_DRAG turns back (R137). -/
theorem transferMarker_openingDrag (due : transferDue u = true) (state : u.wsq.state = .openingDrag) :
    transferMarker u = (startClosingDrag (u.withWsq { u.wsq with transfer := 0 }),
      [.event cTransferTimeout (some u.wsq.state.code)]) := by
  simp only [transferMarker, transferring, due, if_true, State.withWsq_wsq, state]

/-- At the limit CLOSING_WALK turns back (R137). -/
theorem transferMarker_closingWalk (due : transferDue u = true) (state : u.wsq.state = .closingWalk) :
    transferMarker u = (enterOpeningWalk (u.withWsq { u.wsq with transfer := 0 }),
      [.event cTransferTimeout (some u.wsq.state.code)]) := by
  simp only [transferMarker, transferring, due, if_true, State.withWsq_wsq, state]

/-- At the limit the states of the return enter TRANSFER_FAULT (R137). -/
theorem transferMarker_fault (due : transferDue u = true) (state : u.wsq.state = .openingWalk ∨ u.wsq.state = .closingDrag) :
    transferMarker u = (force (u.withWsq { u.wsq with state := .transferFault, command := .none, transfer := 0 }),
      [.event cTransferTimeout (some u.wsq.state.code)]) := by
  rcases state with e | e <;>
    simp only [transferMarker, transferring, due, if_true, State.withWsq_wsq, State.withWsq_withWsq, e]

/-- Where the transfer's marker work leaves a sequencer that reacts to no group, the ALU's work ends the marker. -/
theorem seqMarker_idle {m : Move} (marked : transferMarker u = m) (idle : SequencerIdle m.1) :
    seqMarker u = aluTake m.2 m.1 := by
  have shoes : shoeMarker m.1 = (m.1, []) := if_neg (by rw [idle.2]; decide)
  simp only [seqMarker, marked, shoes, settleMove, List.append_nil]
  exact report_idle _ _ idle.1 idle.2

end

theorem transferTimeout_unmasked (t10 : Table) : effMask t10 cTransferTimeout = false := effMask_hard t10 (by decide)

/-- What a marker that brings the timeout leaves of the event and of the groups it stops (R137, R162). -/
theorem aluTake_timeout {u v : State} (code : Nat) (alu : v.alu = u.alu) (length : u.alu.conds.length = 60) :
    let t := aluTake [.event cTransferTimeout (some code)] v
    (t.alu.cond cTransferTimeout).detail = some code ∧ (t.group .drag).state ≠ .active ∧ (t.group .walk).state ≠ .active
      ∧ ((u.alu.cond cTransferTimeout).listing = .quiet → u.alu.list.length < 32 →
          (t.alu.cond cTransferTimeout).listing = .goneNew
            ∧ t.alu.list = u.alu.list ++ [⟨cTransferTimeout, 1, u.alu.seq, v.lpu.lastCycle⟩]) := by
  have mask : effMask v.aluCtx.t10 cTransferTimeout = false := transferTimeout_unmasked _
  have severe : 3 ≤ (effSeverity v.aluCtx.t10 cTransferTimeout).code := effSeverity_stop _ (by decide) (by decide)
  have within : cTransferTimeout < v.alu.conds.length := by
    rw [alu, length]
    decide
  refine ⟨?_, aluTake_stopped (take_event_stops _ mask severe (by decide)),
    aluTake_stopped (take_event_stops _ mask severe (by decide)), fun quiet room => ?_⟩
  · rw [aluTake_cond]
    exact occasion_detail _ _ false within
  · rw [← alu] at quiet room ⊢
    obtain ⟨list, listing⟩ := occasion_new (ctx := v.aluCtx) (some code) false within mask quiet room
    rw [aluTake_cond, aluTake_alu]
    exact ⟨listing, list⟩

/-- The state a due marker leaves: the whole marker, its sequencer as the transfer's own move left it (R137). -/
theorem exec_transferTimeout {l : Link} {n : Word} {s u : State} {m : Move} (h : s.lpu.bypass = .off) (f : fits l 2 = true)
    (reached : atSeq n s = u) (due : transferDue u = true) (marked : transferMarker u = m) (idle : SequencerIdle m.1) :
    ∃ t, exec (.transferTimeout l n) s = .next t ∧ t.wsq = m.1.wsq ∧ SameConfig s t
      ∧ t.alu = (aluTake m.2 m.1).alu ∧ ∀ g, t.group g = (aluTake m.2 m.1).group g := by
  subst reached
  have ends : seqMarker (markBeforeSeq n (goodFrameSeen s)) = aluTake m.2 m.1 := seqMarker_idle marked idle
  have whole : exec (.transferTimeout l n) s = cycleEvent (transferDue (atSeq n s)) l n s := rfl
  refine ⟨takeCycle l n (goodFrameSeen s), whole.trans (cycleEvent_in h f n due), ?_, takeCycle_config l n (goodFrameSeen s), ?_,
    fun g => ?_⟩
  · rw [takeCycle_wsq, ends, aluTake_wsq]
  · rw [takeCycle_alu, ends]
  · rw [takeCycle_group, ends]

/-- Settles O46: at the limit `transferMarker` moves as its three lemmas say, and `aluTake_timeout` gives the event. -/
theorem transferTimeout : Obligations.TransferTimeout := by
  intro l n s h f u raises limit small
  have reached : atSeq n s = u := rfl
  obtain ⟨last, length⟩ : u.lpu.lastCycle = n.toNat ∧ u.alu.conds.length = s.alu.conds.length := markBeforeSeq_kept n (goodFrameSeen s)
  clear_value u
  have due (transfers : transferring u.wsq.state = true) : transferDue u = true := transferDue_of_limit transfers limit small
  have event {m : Move} (marked : transferMarker u = m) (reports : m.2 = [.event cTransferTimeout (some u.wsq.state.code)])
      {t : State} (alu : t.alu = (aluTake m.2 m.1).alu) (group : ∀ g, t.group g = (aluTake m.2 m.1).group g) : raises t := by
    intro ok
    have reacts : Reacts u m.1 := marked ▸ reacts_transferMarker u
    have taken := aluTake_timeout (u := u) (v := m.1) u.wsq.state.code (marked ▸ transferMarker_alu u) (length.trans ok.1)
    rw [alu, group, group, reports]
    rwa [reacts.lpu, last] at taken
  refine ⟨fun state => ?_, fun state => ?_, fun state => ?_⟩
  · have marked := transferMarker_fault (due (by rcases state with e | e <;> rw [e] <;> rfl)) state
    have wsq := force_wsq (u.withWsq { u.wsq with state := .transferFault, command := .none, transfer := 0 })
    obtain ⟨t, e, left, config, alu, group⟩ := exec_transferTimeout h f reached
      (due (by rcases state with e | e <;> rw [e] <;> rfl)) marked (by rw [SequencerIdle, wsq]; exact ⟨nofun, rfl⟩)
    have wsq := left.trans wsq
    exact ⟨t, e, congrArg Wsq.state wsq, congrArg Wsq.command wsq, congrArg Wsq.transfer wsq, by rw [wsq]; rfl, config,
      event marked rfl alu group⟩
  · have marked := transferMarker_openingDrag (due (by rw [state]; rfl)) state
    have wsq := startClosingDrag_wsq (u.withWsq { u.wsq with transfer := 0 })
    obtain ⟨t, e, left, config, alu, group⟩ := exec_transferTimeout h f reached (due (by rw [state]; rfl)) marked
      (by rw [SequencerIdle, wsq]; split <;> exact ⟨nofun, rfl⟩)
    have wsq := left.trans wsq
    exact ⟨t, e, congrArg Wsq.command wsq, congrArg Wsq.transfer wsq, congrArg Wsq.state wsq, config,
      event marked rfl alu group⟩
  · have marked := transferMarker_closingWalk (due (by rw [state]; rfl)) state
    have wsq := enterOpeningWalk_wsq (u.withWsq { u.wsq with transfer := 0 })
    obtain ⟨t, e, left, config, alu, group⟩ := exec_transferTimeout h f reached (due (by rw [state]; rfl)) marked
      (by rw [SequencerIdle, wsq]; split <;> exact ⟨nofun, rfl⟩)
    have wsq := left.trans wsq
    exact ⟨t, e, congrArg Wsq.transfer wsq, congrArg Wsq.state wsq, config, event marked rfl alu group⟩

end Sys2Proof.Machine
end

section
/-! SHOE_LIMIT 0 and O47. -/

namespace Sys2Proof.Machine

/-- Stepping with WALK ACTIVE, shoes that match the sector and agree, no condition raised, and SHOE_LIMIT 0: the item's range is 1 to 255
(R130), but the statement does not ask for it. -/
def matchedAtLimitZero : State :=
  { Tests.sShoes.withWsq { Tests.sShoes.wsq with right := .seated, mismatch := 0, disagree := 0 } with
    items := { Items.reset with shoeLimit := 0 } }

/-- Its marker finds matching shoes and leaves the count 0, which reaches the limit 0, so SHOE_MISMATCH stands raised. -/
theorem matchedAtLimitZero_marker :
    walking (markBeforeSeq 7 (goodFrameSeen matchedAtLimitZero)).wsq.state = true
      ∧ shoesMatch (markBeforeSeq 7 (goodFrameSeen matchedAtLimitZero)) = true
      ∧ (Tests.after (exec (.cycle (Tests.lk 1) 7) matchedAtLimitZero)).alu.raised cShoeMismatch = true := by
  decide +kernel

/-- Refutes O47: where the item SHOE_LIMIT is 0, a marker raises SHOE_MISMATCH though the shoes match. -/
theorem not_shoeSupervision : ¬ Obligations.ShoeSupervision := by
  intro holds
  obtain ⟨walks, matched, raised⟩ := matchedAtLimitZero_marker
  obtain ⟨-, -, -, fallen, -⟩ := holds (Tests.lk 1) 7 matchedAtLimitZero rfl (by decide) ⟨rfl, Nat.zero_le _⟩ walks
  obtain ⟨t, run, fell, -⟩ := fallen matched
  rw [run] at raised
  exact absurd (raised.symm.trans fell) (by decide)

end Sys2Proof.Machine
end

section
/-! SUPPORT. CAB frames through the device (R49, R131, R158, R179): what the pushes and the selector leave of the other blocks, and the
ALU's work where what it handed on is up to date (R162, R163). -/

namespace Sys2Proof.Machine

/-! ### What every CAB frame leaves -/

/-- Items, tables, channels, DGU, ENV, port and waiting commands stand. -/
structure CabKept (s t : State) : Prop where
  items : t.items = s.items
  tables : t.tables = s.tables
  tru : t.tru = s.tru
  dgu : t.dgu = s.dgu
  env : t.env = s.env
  lpu : t.lpu = s.lpu
  pending : t.pending = s.pending

theorem CabKept.trans {a b c : State} (h : CabKept a b) (k : CabKept b c) : CabKept a c :=
  ⟨k.items.trans h.items, k.tables.trans h.tables, k.tru.trans h.tru, k.dgu.trans h.dgu, k.env.trans h.env,
    k.lpu.trans h.lpu, k.pending.trans h.pending⟩

theorem Reacts.cabKept {s t : State} (h : Reacts s t) : CabKept s t :=
  ⟨h.items, h.tables, h.tru, h.dgu, h.env, h.lpu, h.pending⟩

/-- The confirm push is held as last seen; beyond that the frame's reports react (R49). -/
theorem takeConfirm_reacts (pressed : Bool) (s : State) :
    ∃ p x, Reacts ((s.withPos p).withSwu x) (takeConfirm pressed s) ∧ p.lastConfirm = some pressed := by
  simp only [takeConfirm]
  split
  · exact ⟨{ s.pos with lastConfirm := some pressed, headingConfirmed := true }, _, reacts_report _ _, rfl⟩
  · exact ⟨{ s.pos with lastConfirm := some pressed }, s.swu, .refl _, rfl⟩

theorem walkEdge_reacts (s : State) : ∃ w, Reacts (s.withWsq w) (walkEdge s).1 ∧ w.selector = s.wsq.selector := by
  unfold walkEdge
  split
  · simp only [walkRequest]
    split
    · exact ⟨s.wsq, .refl s, rfl⟩
    · split
      · exact ⟨_, (reacts_force _).trans (reacts_openDrag _), rfl⟩
      · exact ⟨_, reacts_force _, rfl⟩
  · exact ⟨_, .refl _, rfl⟩
  · exact ⟨_, .refl _, rfl⟩
  · exact ⟨s.wsq, .refl s, rfl⟩

/-- The selector is held as last seen; beyond its edge the moves react (R131). -/
theorem takeSelector_reacts (sel : Selector) (s : State) :
    ∃ w, Reacts (s.withWsq w) (settleMove (takeSelector sel s)) ∧ w.selector = some sel := by
  have moved : ∃ w, Reacts (s.withWsq w) (takeSelector sel s).1 ∧ w.selector = some sel := by
    simp only [takeSelector]
    split
    · exact walkEdge_reacts (s.withWsq { s.wsq with selector := some .walk })
    · exact ⟨_, reacts_digEdge _, rfl⟩
    · exact ⟨_, .refl _, rfl⟩
  obtain ⟨w, reacts, held⟩ := moved
  exact ⟨w, reacts_settleMove _ _ reacts, held⟩

theorem takeAckPush_reacts (pressed : Bool) (s : State) : Reacts s (takeAckPush pressed s) := by
  have noted := reacts_withAlu s { s.alu with lastAck := some pressed }
  simp only [takeAckPush]
  split
  · exact (noted.trans (reacts_withAlu _ _)).trans (reacts_report [] _)
  · exact noted

theorem takeAckPush_lastAck (pressed : Bool) (s : State) : (takeAckPush pressed s).alu.lastAck = some pressed := by
  simp only [takeAckPush]
  split
  · exact (report_lastAck [] _).trans (listingOnly_acknowledgeAll _ _ _).lastAck
  · rfl

/-- A reset push reaches the MGU and the groups alone (R179, R183). -/
theorem takeResetPush_eq (pressed : Bool) (s : State) :
    ∃ m p, takeResetPush pressed s = (s.withMgu m).withGroups p ∧ m.lastReset = some pressed := by
  simp only [takeResetPush]
  split
  · exact ⟨{ s.mgu with lastReset := some pressed, mode := .standby }, _, rfl, rfl⟩
  · exact ⟨{ s.mgu with lastReset := some pressed }, s.groups, rfl, rfl⟩

/-- A CAB frame holds the selector and the pushes as last seen and leaves configuration, measurements and port (R49, R131, R158, R179). -/
theorem takeCab_kept (selector pushes : Word) (s : State) :
    CabKept s (takeCab selector pushes s) ∧ (takeCab selector pushes s).wsq.selector = some (selectorOf selector)
      ∧ (takeCab selector pushes s).pos.lastConfirm = some (bit pushes 2)
      ∧ (takeCab selector pushes s).alu.lastAck = some (bit pushes 0)
      ∧ (takeCab selector pushes s).mgu.lastReset = some (bit pushes 1) := by
  obtain ⟨p, x, confirmed, confirm⟩ := takeConfirm_reacts (bit pushes 2) s
  obtain ⟨w, moved, held⟩ := takeSelector_reacts (selectorOf selector) (takeConfirm (bit pushes 2) s)
  let v := settleMove (takeSelector (selectorOf selector) (takeConfirm (bit pushes 2) s))
  have acked := takeAckPush_reacts (bit pushes 0) v
  obtain ⟨m, q, reset, push⟩ := takeResetPush_eq (bit pushes 1) (takeAckPush (bit pushes 0) v)
  have blocks : CabKept s v := CabKept.trans
    (CabKept.trans (b := (s.withPos p).withSwu x) ⟨rfl, rfl, rfl, rfl, rfl, rfl, rfl⟩ confirmed.cabKept)
    (CabKept.trans (b := (takeConfirm (bit pushes 2) s).withWsq w) ⟨rfl, rfl, rfl, rfl, rfl, rfl, rfl⟩ moved.cabKept)
  have whole : takeCab selector pushes s = ((takeAckPush (bit pushes 0) v).withMgu m).withGroups q := reset
  rw [whole]
  refine ⟨blocks.trans (acked.cabKept.trans ⟨rfl, rfl, rfl, rfl, rfl, rfl, rfl⟩), (acked.selector.trans moved.selector).trans held,
    ?_, takeAckPush_lastAck _ _, push⟩
  have pos : (takeAckPush (bit pushes 0) v).pos.lastConfirm = some (bit pushes 2) := by
    rw [acked.pos, moved.pos, State.withWsq_pos, confirmed.pos]
    exact confirm
  exact pos

/-! ### The ALU up to date -/

theorem HandedOk.of_same {s t : State} (h : HandedOk s) (alu : t.alu = s.alu) (tables : t.tables = s.tables)
    (mgu : t.mgu = s.mgu) : HandedOk t := by
  unfold HandedOk
  rw [alu, tables, mgu]
  exact h

/-- The groups whose severity stops them (R162). -/
def stoppedBySeverity (s : State) : List Axis := Axis.all.filter fun g => stops (s.alu.severity.get g)

theorem handSeverities_handed {s : State} (h : HandedOk s) : handSeverities s = s.stopGroups (stoppedBySeverity s) := by
  obtain ⟨severity, trip, -⟩ := h
  have alu : s.withAlu { s.alu with severity := s.alu.groupSeverities s.tables.t10 } = s := by
    rw [← severity]
    rfl
  have mgu : s.withMgu { s.mgu with tripStanding := s.alu.tripStanding s.tables.t10 } = s := by
    rw [← trip]
    rfl
  simp only [handSeverities, alu, mgu]
  rw [← severity]
  rfl

/-- An empty report to an ALU that is up to date stops the groups its severities stop, and nothing else (R162, R163). -/
theorem aluTake_nil {s : State} (h : HandedOk s) : aluTake [] s = s.stopGroups (stoppedBySeverity s) := by
  have handed := handSeverities_handed h
  obtain ⟨p, stopped⟩ := stopGroups_eq (stoppedBySeverity s) s
  show aluAct Effect.none s = _
  simp only [aluAct, handed]
  show (if (false || (s.stopGroups (stoppedBySeverity s)).mgu.tripStanding) = true
    then haltPart (s.stopGroups (stoppedBySeverity s)) else s.stopGroups (stoppedBySeverity s)) = _
  split
  · rename_i trip
    rw [stopped] at trip ⊢
    exact haltPart_halted (h.2.2 trip)
  · rfl

theorem Unreacting.stopGroups {s : State} (k : Unreacting s) (gs : List Axis) : Unreacting (s.stopGroups gs) := by
  obtain ⟨p, stopped⟩ := stopGroups_eq gs s
  refine k.of_same (by rw [stopped]; rfl) fun g => ?_
  rw [stopGroups_group]
  split
  · exact stop_moving _
  · rfl

/-- A move without reports, where the ALU is up to date and the sequencer waits for no group at rest. -/
theorem settleMove_nil {s : State} (h : HandedOk s) (k : Unreacting s) :
    settleMove (s, []) = s.stopGroups (stoppedBySeverity s) := by
  simp only [settleMove, report, aluTake_nil h, reactToGroups_unreacting (k.stopGroups _)]

/-- After the ALU's work what it handed on is up to date (R162, R163, R182). -/
theorem handedOk_aluTake (rs : List Report) (s : State) : HandedOk (aluTake rs s) := by
  let v := s.withAlu (s.alu.take s.aluCtx rs).1
  obtain ⟨p, hand⟩ := handSeverities_eq v
  obtain ⟨q, stopped⟩ := stopGroups_eq (s.alu.take s.aluCtx rs).2.stops (handSeverities v)
  let w := (handSeverities v).stopGroups (s.alu.take s.aluCtx rs).2.stops
  have once : w = ((v.withAlu { v.alu with severity := v.alu.groupSeverities v.tables.t10 }).withMgu
          { v.mgu with tripStanding := v.alu.tripStanding v.tables.t10 }).withGroups q := by
    refine stopped.trans ?_
    rw [hand]
    rfl
  simp only [aluTake, aluAct]
  show HandedOk (if ((s.alu.take s.aluCtx rs).2.trip || w.mgu.tripStanding) = true then haltPart w else w)
  rw [once]
  split
  · unfold haltPart
    split
    · exact ⟨rfl, rfl, fun _ => ‹_›⟩
    · exact ⟨rfl, rfl, fun _ => rfl⟩
  · rename_i calm
    exact ⟨rfl, rfl, fun trip => absurd (Bool.or_eq_true_iff.2 (.inr trip)) calm⟩

end Sys2Proof.Machine
end

section
/-! SUPPORT. The edges of a CAB frame (R131, R135, R136, R138, R183): what a selector edge leaves of a sequencer in each state, and what a
reset push leaves of a part in HALTED. -/

namespace Sys2Proof.Machine

/-! ### The frame -/

/-- In the loop a CAB frame is taken and forwarded behind it. -/
theorem cab_in {l : Link} {s : State} (h : s.lpu.bypass = .off) (f : fits l 4 = true) (selector pushes : Word) :
    exec (.cab l selector pushes) s = .next (offerForwarded (received kindCab l [selector, pushes])
      (takeCab selector pushes (goodFrameSeen s))) :=
  congrArg Host.Outcome.next (delivered_in kindCab l [selector, pushes] _ s h f)

/-- The device as a frame without pushes has the selector find it: the confirm push seen open (R49). -/
def confirmOpen (s : State) : State := (goodFrameSeen s).withPos { s.pos with lastConfirm := some false }

/-- A frame without pushes does what its selector does, and holds the pushes as open (R49, R158, R179). -/
theorem takeCab_open (selector : Word) (s : State) :
    ∃ m, takeCab selector 0 (goodFrameSeen s)
      = ((settleMove (takeSelector (selectorOf selector) (confirmOpen s))).withAlu
          { (settleMove (takeSelector (selectorOf selector) (confirmOpen s))).alu with lastAck := some false }).withMgu m := by
  have none (k : Nat) : bit 0 k = false := by simp [bit]
  refine ⟨{ (settleMove (takeSelector (selectorOf selector) (confirmOpen s))).mgu with lastReset := some false }, ?_⟩
  simp only [takeCab, takeConfirm, takeAckPush, takeResetPush, none, pushEdge, Bool.and_false, Bool.false_and, Bool.false_eq_true,
    if_false]
  rfl

/-- A frame without pushes leaves the blocks as its selector's move leaves them, but for the push last seen (R131). -/
theorem exec_cab_open {l : Link} {s v : State} (h : s.lpu.bypass = .off) (f : fits l 4 = true) (selector : Word)
    (moved : settleMove (takeSelector (selectorOf selector) (confirmOpen s)) = v) :
    ∃ t, exec (.cab l selector 0) s = .next t ∧ t.wsq = v.wsq ∧ (∀ g, t.group g = v.group g)
      ∧ t.alu = { v.alu with lastAck := some false } ∧ t.pos = v.pos ∧ t.swu = v.swu := by
  obtain ⟨m, taken⟩ := takeCab_open selector s
  rw [moved] at taken
  refine ⟨_, cab_in h f selector 0, ?_⟩
  rw [taken, offerForwarded_lpu]
  exact ⟨rfl, fun _ => rfl, rfl, rfl, rfl⟩

/-! ### A WALK edge in DIGGING (R135, R136) -/

theorem profile_flags (s : State) : s.profile .flags % 2 = 0 ↔ ¬ WalkCheck s 2 := by
  have odd (r : Nat) : s.tables.t1.int (1 + 13 * r + ProfileField.flags.index) % 2 = 0
      ↔ ¬ s.tables.t1.num (1 + 13 * r + 12) % 2 = 1 := by
    simp only [Table.int, ProfileField.index]
    omega
  unfold State.profile
  cases e : s.env.selected with
  | none => simp [WalkCheck, e]
  | some r => simpa [WalkCheck, e] using odd r

theorem dragMembers_absent (s : State) :
    (s.dgu.members.drag.isEmpty || s.dgu.members.drag.any (fun m => m.presence == .absent)) = true ↔ ¬ WalkCheck s 8 := by
  simp only [WalkCheck, Bool.or_eq_true, List.isEmpty_iff, List.any_eq_true, beq_iff_eq]
  push Not
  tauto

/-- A walk request is refused by the first of its eight checks that fails (R135). -/
theorem walkCheck_eq (s : State) [∀ n, Decidable (WalkCheck s n)] : walkCheck s
    = if ¬ WalkCheck s 1 then some 1 else if ¬ WalkCheck s 2 then some 2 else if ¬ WalkCheck s 3 then some 3
      else if ¬ WalkCheck s 4 then some 4 else if ¬ WalkCheck s 5 then some 5 else if ¬ WalkCheck s 6 then some 6
      else if ¬ WalkCheck s 7 then some 7 else if ¬ WalkCheck s 8 then some 8 else none := by
  have brake : (!s.wsq.brake) = true ↔ ¬ WalkCheck s 5 := by simp [WalkCheck]
  exact if_congr Iff.rfl rfl (if_congr (profile_flags s) rfl (if_congr Iff.rfl rfl (if_congr Iff.rfl rfl (if_congr brake rfl
    (if_congr Iff.rfl rfl (if_congr Iff.rfl rfl (if_congr (dragMembers_absent s) rfl rfl)))))))

theorem walkCheck_none {s : State} (h : ∀ n, WalkCheck s n) : walkCheck s = none := by
  classical
  rw [walkCheck_eq]
  simp [h]

theorem walkCheck_some {s : State} {n : Nat} (first : 1 ≤ n) (last : n ≤ 8) (fails : ¬ WalkCheck s n)
    (passes : ∀ k, k < n → WalkCheck s k) : walkCheck s = some n := by
  classical
  rw [walkCheck_eq]
  interval_cases n <;> simp [fails, passes]

/-- What a walk request that passes makes of the sequencer before DRAG is looked at: the transfer begins, the groups forced (R136). -/
def transferBegun (s : State) : State :=
  force (s.withWsq { s.wsq with
    state := .openingDrag, command := .drag, transfer := 0, steps := 0, returnPending := false, dir := none })

theorem walkRequest_passes {s : State} (h : walkCheck s = none) : walkRequest s
    = if (s.group .drag).moving = true then (transferBegun s, []) else openDrag (transferBegun s) := by
  have rest : ((transferBegun s).group .drag).atRest = true ↔ ¬ (s.group .drag).moving = true := by
    have forced : (transferBegun s).group .drag = (s.group .drag).stop := by
      rw [transferBegun, force, stopGroups_group, if_pos (by decide)]
      rfl
    rw [forced, ← stop_moving]
    cases e : (s.group .drag).stop.state <;> simp [Group.atRest, Group.moving, e]
  simp only [walkRequest, h]
  show (if ((transferBegun s).group .drag).atRest = true then openDrag (transferBegun s) else (transferBegun s, [])) = _
  by_cases moving : (s.group .drag).moving = true
  · rw [if_neg (fun r => rest.1 r moving), if_pos moving]
  · rw [if_pos (rest.2 moving), if_neg moving]

end Sys2Proof.Machine
end

section
/-! CAB frames whose selector changes (R131, R135, R136, R138): what each edge leaves of the sequencer, settled with the ALU. -/

namespace Sys2Proof.Machine

/-! ### Moves settled with the ALU -/

/-- The sequencer's record stands where a move without reports is settled (R162). -/
theorem settleMove_nil_wsq {s : State} (h : HandedOk s) (k : Unreacting s) : (settleMove (s, [])).wsq = s.wsq := by
  obtain ⟨p, e⟩ := stopGroups_eq (stoppedBySeverity s) s
  rw [settleMove_nil h k, e]
  rfl

theorem settleMove_idle {m : Move} (idle : SequencerIdle m.1) : settleMove m = aluTake m.2 m.1 :=
  report_idle _ _ idle.1 idle.2

theorem unreacting_of_idle {s : State} (idle : SequencerIdle s) : Unreacting s :=
  ⟨fun walks => absurd (idle.2.symm.trans walks) (by decide), fun opening => absurd opening idle.1⟩

/-! ### The transfer begun (R136) -/

/-- With DRAG at rest the contactors are tested at once (R136). -/
theorem openDrag_eq (u : State) : openDrag u
    = if u.dgu.summary = .none then (force (u.withWsq { u.wsq with state := .closingWalk, command := .walk }), [])
      else (u.withWsq { u.wsq with command := .none }, []) := by
  simp only [openDrag, enterClosingWalk]
  by_cases none : u.dgu.summary = .none
  · simp [none, force_dgu]
  · simp [none]

/-- The sequencer's record as a walk request that passes leaves it: waiting for DRAG to rest, or with its contactor told to open, or
already closing WALK (R136). -/
def transferWsq (s : State) : Wsq :=
  let w : Wsq := { s.wsq with
    state := .openingDrag, command := .drag, transfer := 0, steps := 0, returnPending := false, dir := none }
  if (s.group .drag).moving = true then w
  else if s.dgu.summary = .none then { w with state := .closingWalk, command := .walk }
  else { w with command := .none }

/-- What a walk request that passes leaves, and that it makes no report (R135, R136). -/
structure TransferBegins (s t : State) : Prop where
  alu : t.alu = s.alu
  tables : t.tables = s.tables
  mgu : t.mgu = s.mgu
  wsq : t.wsq = transferWsq s
  reacts : Reacts (transferBegun s) t
  unreacting : Unreacting t

theorem transferBegun_drag (s : State) : (transferBegun s).group .drag = (s.group .drag).stop := by
  rw [transferBegun, force, stopGroups_group, if_pos (by decide)]
  rfl

theorem walkRequest_begins {s : State} (h : walkCheck s = none) :
    ∃ t, walkRequest s = (t, []) ∧ TransferBegins s t := by
  have begun : (transferBegun s).alu = s.alu ∧ (transferBegun s).mgu = s.mgu := ⟨force_alu _, force_mgu _⟩
  have tables : (transferBegun s).tables = s.tables := (reacts_force _).tables
  have wsq : (transferBegun s).wsq = _ := force_wsq _
  have dgu : (transferBegun s).dgu = s.dgu := force_dgu _
  rw [walkRequest_passes h, openDrag_eq, dgu]
  by_cases moving : (s.group .drag).moving = true
  · refine ⟨_, if_pos moving, begun.1, tables, begun.2, ?_, .refl _, ?_⟩
    · rw [transferWsq, if_pos moving, wsq]
      rfl
    · refine ⟨fun walks => ?_, fun _ _ => ?_⟩
      · rw [wsq] at walks
        exact nomatch walks
      · rw [transferBegun_drag, stop_moving, moving]
  · rw [if_neg moving]
    by_cases none : s.dgu.summary = .none
    · refine ⟨_, if_pos none, (force_alu _).trans begun.1, (reacts_force _).tables.trans tables, (force_mgu _).trans begun.2,
        ?_, ?_, ?_⟩
      · rw [transferWsq, if_neg moving, if_pos none, force_wsq, wsq]
        rfl
      · exact (reacts_withWsq _ _ (by simp)).trans (reacts_force _)
      · refine unreacting_of_idle ?_
        rw [SequencerIdle, force_wsq]
        exact ⟨nofun, rfl⟩
    · refine ⟨_, if_neg none, begun.1, tables, begun.2, ?_, reacts_withWsq _ _ (by simp), ?_⟩
      · rw [transferWsq, if_neg moving, if_neg none, wsq]
        rfl
      · refine ⟨fun walks => ?_, fun _ command => nomatch command⟩
        rw [State.withWsq_wsq, wsq] at walks
        exact nomatch walks

/-- A walk request that passes, settled: HOIST, DRAG and SWING are not ACTIVE, and a moving DRAG is STOPPING (R136, R146). -/
theorem walkRequest_settled {s : State} (h : walkCheck s = none) (handed : HandedOk s) :
    (settleMove (walkRequest s)).alu = s.alu ∧ (settleMove (walkRequest s)).wsq = transferWsq s
      ∧ (∀ g, g ≠ .walk → ((settleMove (walkRequest s)).group g).state ≠ .active)
      ∧ ((s.group .drag).moving = true → ((settleMove (walkRequest s)).group .drag).state = .stopping) := by
  obtain ⟨t, passed, begins⟩ := walkRequest_begins h
  have up : HandedOk t := handed.of_same begins.alu begins.tables begins.mgu
  have inactive (g : Axis) (dig : g ≠ .walk) : ((t.stopGroups (stoppedBySeverity t)).group g).state ≠ .active := fun active =>
    force_inactive _ dig ((begins.reacts.group g).active (((reacts_stopGroups _ t).group g).active active))
  rw [passed, settleMove_nil up begins.unreacting]
  refine ⟨(stopGroups_alu _ t).trans begins.alu, ?_, inactive, fun moving => ?_⟩
  · rw [← settleMove_nil up begins.unreacting, settleMove_nil_wsq up begins.unreacting, begins.wsq]
  · have opening : t.wsq.state = .openingDrag ∧ t.wsq.command = .drag := by
      rw [begins.wsq, transferWsq, if_pos moving]
      exact ⟨rfl, rfl⟩
    have moves := (begins.unreacting.stopGroups (stoppedBySeverity t)).drag
    obtain ⟨p, e⟩ := stopGroups_eq (stoppedBySeverity t) t
    have still : (t.stopGroups (stoppedBySeverity t)).wsq = t.wsq := by
      rw [e]
      rfl
    rw [still] at moves
    have dragMoves := moves opening.1 opening.2
    have dragRests := inactive .drag (by decide)
    cases k : ((t.stopGroups (stoppedBySeverity t)).group .drag).state <;> simp_all [Group.moving]

/-! ### The selector's edges -/

/-- The device as an edge of the selector finds it (R131). -/
def selected (sel : Selector) (s : State) : State := (confirmOpen s).withWsq { s.wsq with selector := some sel }

theorem selected_handed {s : State} (h : HandedOk s) (sel : Selector) : HandedOk (selected sel s) := h

theorem selectorOf_walk {w : Word} (h : w ≠ 0#16) : selectorOf w = .walk := if_neg h

theorem takeSelector_walk {s : State} (held : s.wsq.selector = some .dig) :
    takeSelector .walk (confirmOpen s) = walkEdge (selected .walk s) := by
  have old : (confirmOpen s).wsq.selector = some .dig := held
  simp only [takeSelector, old]
  rfl

theorem takeSelector_dig {s : State} (held : s.wsq.selector = some .walk) :
    takeSelector .dig (confirmOpen s) = digEdge (selected .dig s) := by
  have old : (confirmOpen s).wsq.selector = some .walk := held
  simp only [takeSelector, old]
  rfl

/-- A WALK edge elsewhere than in DIGGING ends a pending return of a walk, and does nothing else (R131). -/
theorem walkEdge_elsewhere {s : State} (h : s.wsq.state ≠ .digging) : walkEdge s
    = (s.withWsq { s.wsq with returnPending := if walking s.wsq.state then false else s.wsq.returnPending }, []) := by
  unfold walkEdge
  split
  case h_1 e => exact absurd e h
  case h_2 e | h_3 e => rw [e]; rfl
  case h_4 stepping finishing =>
    have rests : walking s.wsq.state = false := by cases e : s.wsq.state <;> simp_all [walking]
    rw [rests]
    rfl

theorem still_enterDigging (s : State) : Still s (enterDigging s) := ⟨rfl, rfl, by rw [enterDigging_wsq]; rfl⟩

theorem still_enterClosingDrag (s : State) : Still s (enterClosingDrag s) := by
  have forced := still_force s { s.wsq with state := .closingDrag, command := .drag } rfl
  simp only [enterClosingDrag]
  split
  · exact forced.trans (still_enterDigging _)
  · exact forced

theorem still_enterOpeningWalk (s : State) : Still s (enterOpeningWalk s) := by
  have forced := still_force s { s.wsq with state := .openingWalk, command := .none, transfer := 0 } rfl
  simp only [enterOpeningWalk]
  split
  · exact forced.trans (still_enterClosingDrag _)
  · exact forced

/-- The return takes the heading back exactly where steps were counted, and reports that (R50, R147). -/
theorem beginReturn_heading (s : State) :
    (beginReturn s).1.pos.headingConfirmed = (s.pos.headingConfirmed && s.wsq.steps == 0)
      ∧ (beginReturn s).1.swu.heldHeading = (s.swu.heldHeading && s.wsq.steps == 0)
      ∧ (beginReturn s).2 = if s.wsq.steps = 0 then [] else [.level cHeadingUnconfirmed true none] := by
  by_cases steps : s.wsq.steps = 0
  · simp [beginReturn, steps, (still_enterOpeningWalk _).pos, (still_enterOpeningWalk _).swu]
  · simp [beginReturn, steps, (still_enterOpeningWalk _).pos, (still_enterOpeningWalk _).swu]

theorem beginReturn_idle (s : State) : SequencerIdle (beginReturn s).1 := by
  rw [SequencerIdle, beginReturn_wsq]
  split <;> exact ⟨nofun, rfl⟩

/-! ### The DIG edge, settled (R138, R147) -/

section
variable {x : State}

/-- A move without reports that leaves the ALU up to date and waits for no group. -/
theorem settleMove_wsq {m : State} (handed : HandedOk x) (alu : m.alu = x.alu) (mgu : m.mgu = x.mgu) (tables : m.tables = x.tables)
    (quiet : Unreacting m) : (settleMove (m, [])).wsq = m.wsq :=
  settleMove_nil_wsq (handed.of_same alu tables mgu) quiet

theorem digEdge_stays (h : x.wsq.state = .unsettled ∨ x.wsq.state = .digging ∨ x.wsq.state = .openingWalk
    ∨ x.wsq.state = .closingDrag) : digEdge x = (x, []) := by
  rcases h with e | e | e | e <;> simp only [digEdge, e]

theorem settled_startClosingDrag (handed : HandedOk x) : (settleMove (startClosingDrag x, [])).wsq = { x.wsq with
    state := if x.dgu.summary = .drag then .digging else .closingDrag, command := .drag, transfer := 0 } := by
  refine (settleMove_wsq (m := startClosingDrag x) handed (enterClosingDrag_alu _) (enterClosingDrag_mgu _)
    (reacts_startClosingDrag x).tables (unreacting_of_idle ?_)).trans (startClosingDrag_wsq x)
  rw [SequencerIdle, startClosingDrag_wsq]
  split <;> exact ⟨nofun, rfl⟩

theorem settled_enterOpeningWalk (handed : HandedOk x) : (settleMove (enterOpeningWalk x, [])).wsq = { x.wsq with
    state := if x.dgu.summary = .none then .closingDrag else .openingWalk
    command := if x.dgu.summary = .none then .drag else .none
    transfer := 0 } := by
  refine (settleMove_wsq handed (enterOpeningWalk_alu _) (enterOpeningWalk_mgu _) (reacts_enterOpeningWalk x).tables
    (unreacting_of_idle ?_)).trans (enterOpeningWalk_wsq x)
  rw [SequencerIdle, enterOpeningWalk_wsq]
  split <;> exact ⟨nofun, rfl⟩

/-- In WALK_READY off the park sector a DIG edge is denied, with detail 9 (R138). -/
theorem settled_digDenied (length : x.alu.conds.length = Config.conditionCount) (ready : x.wsq.state = .walkReady)
    (off : x.wsq.offPark = true) :
    (settleMove (digEdge x)).wsq = x.wsq ∧ ((settleMove (digEdge x)).alu.cond cWalkDenied).detail = some 9 := by
  have edge : digEdge x = (x, [.event cWalkDenied (some 9)]) := by
    simp only [digEdge, ready, off, if_true]
  have idle : SequencerIdle x := by
    rw [SequencerIdle, ready]
    exact ⟨nofun, rfl⟩
  have within : cWalkDenied < x.alu.conds.length := by
    rw [length]
    decide
  rw [edge, settleMove_idle (m := (x, _)) idle]
  refine ⟨aluTake_wsq _ _, ?_⟩
  rw [aluTake_cond]
  exact occasion_detail _ _ false within

/-- The ALU's work leaves POS and SWU. -/
theorem aluTake_heading (rs : List Report) (s : State) : (aluTake rs s).pos = s.pos ∧ (aluTake rs s).swu = s.swu := by
  obtain ⟨a, m, p, e⟩ := aluTake_eq rs s
  rw [e]
  exact ⟨rfl, rfl⟩

/-- In WALK_READY in the park sector a DIG edge begins the return (R138, R147). -/
theorem settled_beginReturn (length : x.alu.conds.length = Config.conditionCount) :
    (settleMove (beginReturn x)).wsq = (beginReturn x).1.wsq
      ∧ (settleMove (beginReturn x)).pos.headingConfirmed = (x.pos.headingConfirmed && x.wsq.steps == 0)
      ∧ (settleMove (beginReturn x)).swu.heldHeading = (x.swu.heldHeading && x.wsq.steps == 0)
      ∧ (x.wsq.steps ≠ 0 → (settleMove (beginReturn x)).alu.raised cHeadingUnconfirmed = true) := by
  obtain ⟨confirmed, held, reports⟩ := beginReturn_heading x
  rw [settleMove_idle (beginReturn_idle x)]
  obtain ⟨pos, swu⟩ := aluTake_heading (beginReturn x).2 (beginReturn x).1
  refine ⟨aluTake_wsq _ _, (congrArg Pos.headingConfirmed pos).trans confirmed, (congrArg Swu.heldHeading swu).trans held,
    fun steps => ?_⟩
  rw [Alu.raised, aluTake_cond, reports, if_neg steps, beginReturn_alu]
  refine (take_level _ _ _ _ true none ?_ (by simp) (by simp)).1
  rw [length]
  decide

end

/-! ### The clauses -/

section
variable {l : Link} {s : State}

/-- A WALK edge in DIGGING that fails a check is denied with that check's number (R135). -/
theorem cab_walkDenied {n : Nat} {selector : Word} (h : s.lpu.bypass = .off) (f : fits l 4 = true) (ok : AlarmsOk s)
    (held : s.wsq.selector = some .dig) (walk : selector ≠ 0#16) (digging : s.wsq.state = .digging)
    (refused : walkCheck s = some n) :
    ∃ t, exec (.cab l selector 0) s = .next t ∧ t.wsq = { s.wsq with selector := some .walk }
      ∧ (t.alu.cond cWalkDenied).detail = some n
      ∧ (effMask s.tables.t10 cWalkDenied = false → (s.alu.cond cWalkDenied).listing = .quiet → s.alu.list.length < 32 →
          t.alu.list = s.alu.list ++ [⟨cWalkDenied, 1, s.alu.seq, s.lpu.lastCycle⟩]) := by
  have request : walkEdge (selected .walk s) = (selected .walk s, [.event cWalkDenied (some n)]) := by
    have state : (selected .walk s).wsq.state = .digging := digging
    have check : walkCheck (selected .walk s) = some n := refused
    simp only [walkEdge, state, walkRequest, check]
  have idle : SequencerIdle (selected .walk s) := by
    show s.wsq.state ≠ .openingDrag ∧ walking s.wsq.state = false
    rw [digging]
    exact ⟨nofun, rfl⟩
  have moved : settleMove (takeSelector (selectorOf selector) (confirmOpen s))
      = aluTake [.event cWalkDenied (some n)] (selected .walk s) := by
    rw [selectorOf_walk walk, takeSelector_walk held, request]
    exact settleMove_idle (m := (selected .walk s, [.event cWalkDenied (some n)])) idle
  have within : cWalkDenied < s.alu.conds.length := by
    rw [ok.1]
    decide
  obtain ⟨t, run, wsq, -, alu, -, -⟩ := exec_cab_open h f selector moved
  refine ⟨t, run, wsq.trans (aluTake_wsq _ _), ?_, fun mask quiet room => ?_⟩
  · rw [alu, aluTake_alu]
    exact occasion_detail _ _ false within
  · rw [alu, aluTake_alu]
    exact (occasion_new (ctx := s.aluCtx) (some n) false within mask quiet room).1

/-- A WALK edge in DIGGING that passes every check begins the transfer (R136). -/
theorem cab_transfer {selector : Word} (h : s.lpu.bypass = .off) (f : fits l 4 = true) (handed : HandedOk s)
    (held : s.wsq.selector = some .dig) (walk : selector ≠ 0#16) (digging : s.wsq.state = .digging)
    (passes : walkCheck s = none) :
    ∃ t, exec (.cab l selector 0) s = .next t ∧ t.alu.list = s.alu.list ∧ t.wsq = transferWsq (selected .walk s)
      ∧ (∀ g, g ≠ .walk → (t.group g).state ≠ .active)
      ∧ ((s.group .drag).moving = true → (t.group .drag).state = .stopping) := by
  have request : walkEdge (selected .walk s) = walkRequest (selected .walk s) := by
    have state : (selected .walk s).wsq.state = .digging := digging
    simp only [walkEdge, state]
  have moved : settleMove (takeSelector (selectorOf selector) (confirmOpen s)) = settleMove (walkRequest (selected .walk s)) := by
    rw [selectorOf_walk walk, takeSelector_walk held, request]
  obtain ⟨settled, wsq, inactive, stopping⟩ := walkRequest_settled (s := selected .walk s) passes handed
  obtain ⟨t, run, left, group, alu, -, -⟩ := exec_cab_open h f selector moved
  refine ⟨t, run, ?_, left.trans wsq, fun g dig => ?_, fun moving => ?_⟩
  · rw [alu, settled]
    rfl
  · rw [group]
    exact inactive g dig
  · rw [group]
    exact stopping moving

/-- A WALK edge elsewhere ends a pending return (R131). -/
theorem cab_walkEdge {selector : Word} (h : s.lpu.bypass = .off) (f : fits l 4 = true) (handed : HandedOk s)
    (held : s.wsq.selector = some .dig) (walk : selector ≠ 0#16) (digging : s.wsq.state ≠ .digging)
    (quiet : Unreacting s) :
    ∃ t, exec (.cab l selector 0) s = .next t ∧ t.wsq = { s.wsq with
      selector := some .walk, returnPending := if walking s.wsq.state then false else s.wsq.returnPending } := by
  obtain ⟨t, run, wsq, -⟩ := exec_cab_open (v := settleMove (walkEdge (selected .walk s))) h f selector (by
    rw [selectorOf_walk walk, takeSelector_walk held])
  refine ⟨t, run, ?_⟩
  rw [wsq, walkEdge_elsewhere (s := selected .walk s) digging]
  exact settleMove_nil_wsq (selected_handed handed .walk) ⟨quiet.walk, quiet.drag⟩

/-- A DIG edge acts by the state of the sequencer (R138, R147). -/
theorem cab_digEdge (h : s.lpu.bypass = .off) (f : fits l 4 = true) (ok : AlarmsOk s) (handed : HandedOk s)
    (held : s.wsq.selector = some .walk) :
    ∃ t, exec (.cab l 0 0) s = .next t
      ∧ (s.wsq.state = .unsettled ∨ s.wsq.state = .digging ∨ s.wsq.state = .openingWalk ∨ s.wsq.state = .closingDrag →
          t.wsq = { s.wsq with selector := some .dig })
      ∧ (s.wsq.state = .openingDrag →
          t.wsq = { s.wsq with
            selector := some .dig, command := .drag, transfer := 0
            state := if s.dgu.summary = .drag then .digging else .closingDrag })
      ∧ (s.wsq.state = .closingWalk ∨ s.wsq.state = .transferFault →
          t.wsq = { s.wsq with
            selector := some .dig, transfer := 0
            command := if s.dgu.summary = .none then .drag else .none
            state := if s.dgu.summary = .none then .closingDrag else .openingWalk })
      ∧ (s.wsq.state = .walkReady → s.wsq.offPark = true →
          t.wsq = { s.wsq with selector := some .dig } ∧ (t.alu.cond cWalkDenied).detail = some 9)
      ∧ (s.wsq.state = .walkReady → s.wsq.offPark = false →
          t.wsq = { s.wsq with
            selector := some .dig, transfer := 0, returnPending := false
            command := if s.dgu.summary = .none then .drag else .none
            state := if s.dgu.summary = .none then .closingDrag else .openingWalk }
          ∧ t.pos.headingConfirmed = (s.pos.headingConfirmed && s.wsq.steps == 0)
          ∧ t.swu.heldHeading = (s.swu.heldHeading && s.wsq.steps == 0)
          ∧ (s.wsq.steps ≠ 0 → t.alu.raised cHeadingUnconfirmed = true))
      ∧ (walking s.wsq.state = true → s.mgu.mode ≠ .halted → (s.group .walk).moving = true →
          t.wsq = { s.wsq with selector := some .dig, returnPending := true }) := by
  obtain ⟨t, run, wsq, -, alu, pos, swu⟩ := exec_cab_open (v := settleMove (digEdge (selected .dig s))) h f 0
    (congrArg settleMove (takeSelector_dig held))
  have up : HandedOk (selected .dig s) := selected_handed handed .dig
  have length : (selected .dig s).alu.conds.length = Config.conditionCount := ok.1
  have detail (n : Nat) : t.alu.cond n = (settleMove (digEdge (selected .dig s))).alu.cond n := by
    rw [alu]
    rfl
  refine ⟨t, run, fun state => ?_, fun state => ?_, fun state => ?_, fun state off => ?_, fun state on => ?_,
    fun walks _ moving => ?_⟩
  · have rests : SequencerIdle (selected .dig s) := by
      show s.wsq.state ≠ .openingDrag ∧ walking s.wsq.state = false
      rcases state with e | e | e | e <;> rw [e] <;> exact ⟨nofun, rfl⟩
    rw [wsq, digEdge_stays (x := selected .dig s) state, settleMove_nil_wsq up (unreacting_of_idle rests)]
    rfl
  · have edge : digEdge (selected .dig s) = (startClosingDrag (selected .dig s), []) := by
      have here : (selected .dig s).wsq.state = .openingDrag := state
      simp only [digEdge, here]
    rw [wsq, edge, settled_startClosingDrag up]
    rfl
  · have edge : digEdge (selected .dig s) = (enterOpeningWalk (selected .dig s), []) := by
      have here : (selected .dig s).wsq.state = .closingWalk ∨ (selected .dig s).wsq.state = .transferFault := state
      rcases here with e | e <;> simp only [digEdge, e]
    rw [wsq, edge, settled_enterOpeningWalk up]
    rfl
  · obtain ⟨stays, nine⟩ := settled_digDenied length (x := selected .dig s) state off
    exact ⟨wsq.trans stays, (congrArg Cond.detail (detail _)).trans nine⟩
  · have edge : digEdge (selected .dig s) = beginReturn (selected .dig s) := by
      have here : (selected .dig s).wsq.state = .walkReady := state
      have park : (selected .dig s).wsq.offPark = false := on
      simp only [digEdge, here, park, Bool.false_eq_true, if_false]
    obtain ⟨returns, confirmed, heading, raised⟩ := settled_beginReturn length
    rw [edge] at wsq pos swu detail
    refine ⟨?_, (congrArg Pos.headingConfirmed pos).trans confirmed, (congrArg Swu.heldHeading swu).trans heading,
      fun steps => (congrArg Cond.raised (detail _)).trans (raised steps)⟩
    rw [wsq, returns, beginReturn_wsq]
    rfl
  · have edge : digEdge (selected .dig s)
        = ((selected .dig s).withWsq { (selected .dig s).wsq with returnPending := true }, []) := by
      have here : walking (selected .dig s).wsq.state = true := walks
      unfold digEdge
      cases e : (selected .dig s).wsq.state <;> simp_all [walking]
    have opens : s.wsq.state ≠ .openingDrag := fun e => by simp [e, walking] at walks
    rw [wsq, edge]
    exact settleMove_nil_wsq up ⟨fun _ => moving, fun e => absurd e opens⟩

end

end Sys2Proof.Machine
end

section
/-! SUPPORT. Acknowledging entries of the alarm list (R154, R157, R158): which UNLISTED condition a removal relists, and what a run of
acknowledgements leaves of the list and the records. -/

namespace Sys2Proof.Machine

/-! ### The UNLISTED condition a removal relists (R157) -/

/-- Condition `n` is relisted before condition `m`: higher effective severity, then lower number (R157). -/
def Outranks (t10 : Table) (n m : Nat) : Prop :=
  (effSeverity t10 m).code < (effSeverity t10 n).code
    ∨ ((effSeverity t10 m).code = (effSeverity t10 n).code ∧ n < m)

theorem Outranks.trans {t10 : Table} {k n m : Nat} (h : Outranks t10 k n) (j : Outranks t10 n m) : Outranks t10 k m := by
  unfold Outranks at *
  omega

/-- Of a run of conditions in ascending order the fold keeps the one that outranks the others. -/
theorem foldl_betterUnlisted (t10 : Table) (xs : List Nat) (b : Nat) (asc : (b :: xs).Pairwise (· < ·)) :
    ∃ n, xs.foldl (betterUnlisted t10) (some b) = some n ∧ n ∈ b :: xs ∧ ∀ m ∈ b :: xs, m ≠ n → Outranks t10 n m := by
  induction xs generalizing b with
  | nil => exact ⟨b, rfl, List.mem_cons_self, fun m mem other => absurd (List.mem_singleton.1 mem) other⟩
  | cons x xs ih =>
    obtain ⟨above, asc'⟩ := List.pairwise_cons.1 asc
    have lower : b < x := above x List.mem_cons_self
    by_cases better : (effSeverity t10 b).code < (effSeverity t10 x).code
    · obtain ⟨n, found, mem, best⟩ := ih x asc'
      have beats : Outranks t10 x b := .inl better
      refine ⟨n, by rw [List.foldl_cons, betterUnlisted, if_pos better, found], List.mem_cons_of_mem b mem, fun m hm other => ?_⟩
      rcases List.mem_cons.1 hm with e | later
      · subst e
        by_cases same : x = n
        · exact same ▸ beats
        · exact (best x List.mem_cons_self same).trans beats
      · exact best m later other
    · have asc'' : (b :: xs).Pairwise (· < ·) :=
        List.pairwise_cons.2 ⟨fun y hy => above y (List.mem_cons_of_mem x hy), (List.pairwise_cons.1 asc').2⟩
      obtain ⟨n, found, mem, best⟩ := ih b asc''
      have beats : Outranks t10 b x := by
        unfold Outranks
        omega
      refine ⟨n, by rw [List.foldl_cons, betterUnlisted, if_neg better, found], ?_, fun m hm other => ?_⟩
      · rcases List.mem_cons.1 mem with e | later
        · exact e ▸ List.mem_cons_self
        · exact List.mem_cons_of_mem b (List.mem_cons_of_mem x later)
      · rcases List.mem_cons.1 hm with e | hm
        · exact best m (e ▸ List.mem_cons_self) other
        · rcases List.mem_cons.1 hm with e | later
          · subst e
            by_cases same : b = n
            · exact same ▸ beats
            · exact (best b List.mem_cons_self same).trans beats
          · exact best m (List.mem_cons_of_mem b later) other

/-- The UNLISTED conditions in ascending order. -/
def Alu.unlisted (a : Alu) : List Nat := (List.range Config.conditionCount).filter (fun n => (a.cond n).listing == .unlisted)

theorem Alu.mem_unlisted {a : Alu} {n : Nat} : n ∈ a.unlisted ↔ n < 60 ∧ (a.cond n).listing = .unlisted := by
  simp [Alu.unlisted, Config.conditionCount]

theorem Alu.unlisted_ascending (a : Alu) : a.unlisted.Pairwise (· < ·) := List.pairwise_lt_range.filter _

theorem Alu.unlistedCount_eq (a : Alu) : a.unlistedCount = a.unlisted.length := rfl

theorem nextUnlisted_eq (t10 : Table) (a : Alu) : (a.unlisted = [] ∧ a.nextUnlisted t10 = none)
    ∨ ∃ n, a.nextUnlisted t10 = some n ∧ n ∈ a.unlisted ∧ ∀ m ∈ a.unlisted, m ≠ n → Outranks t10 n m := by
  have next : a.nextUnlisted t10 = a.unlisted.foldl (betterUnlisted t10) none := rfl
  have asc := a.unlisted_ascending
  rw [next]
  cases e : a.unlisted with
  | nil => exact .inl ⟨rfl, rfl⟩
  | cons b xs => exact .inr (foldl_betterUnlisted t10 xs b (e ▸ asc))

/-! ### The list and its records -/

/-- One entry, and no more, for each condition whose listing state has one, within the list's capacity (R154, R155). -/
structure Alu.Listed (a : Alu) : Prop where
  length : a.conds.length = 60
  fits : a.fitting
  numbered : a.seq < 65536
  nodup : (a.list.map Entry.cond).Nodup
  known : ∀ e ∈ a.list, e.cond < 60
  entry : ∀ n, n < 60 → ((a.cond n).listing.listed = true ↔ ∃ e ∈ a.list, e.cond = n)

theorem listed_of_listingOk {s : State} (alarms : AlarmsOk s) (h : ListingOk s) : s.alu.Listed :=
  ⟨alarms.1, alarms.2, h.2.2.1, h.1, fun e mem => (h.2.1 e mem).1, fun n within => (h.2.2.2 n within).1⟩

theorem Alu.setListing_cond {a : Alu} (length : a.conds.length = 60) (l : Listing) {n m : Nat} (within : m < 60) :
    (a.setListing n l).cond m = if m = n then { a.cond m with listing := l } else a.cond m := by
  rw [Alu.setListing, Alu.cond_setCond]
  by_cases same : m = n
  · subst same
    rw [if_pos ⟨rfl, by omega⟩, if_pos rfl]
  · rw [if_neg (fun e => same e.1), if_neg same]

/-- Taking one of the differing keys out of a list makes it shorter by one. -/
theorem length_filter_ne {es : List Entry} {n : Nat} (nodup : (es.map Entry.cond).Nodup) (mem : ∃ e ∈ es, e.cond = n) :
    (es.filter (fun e => e.cond != n)).length + 1 = es.length := by
  have once : (es.map Entry.cond).count n = 1 := List.count_eq_one_of_mem nodup (List.mem_map.2 mem)
  have split := List.length_eq_countP_add_countP (fun e : Entry => e.cond == n) (l := es)
  rw [List.count, List.countP_map] at once
  have these : es.countP (fun e => e.cond == n) = 1 := once
  rw [split, these, List.countP_eq_length_filter, Nat.add_comm]
  congr 2
  refine List.filter_congr fun e _ => ?_
  cases k : e.cond == n <;> simp [bne, k]

/-! ### A run of acknowledgements -/

section
variable (a : Alu) (ns : List Nat)

/-- Whether acknowledging `ns` takes the entry of condition `n` out of the list (R154). -/
def Alu.gone (n : Nat) : Bool := ns.contains n && (a.cond n).listing == .goneNew

/-- The entries that acknowledging `ns` leaves where they are. -/
def Alu.kept : List Entry := a.list.filter (fun e => !a.gone ns e.cond)

/-- The listing state after `ns` are acknowledged and the entries `new` relisted (R154, R157). -/
def Alu.listingAfter (new : List Entry) (n : Nat) : Listing :=
  match (a.cond n).listing with
  | .activeNew => if ns.contains n then .activeSeen else .activeNew
  | .goneNew => if ns.contains n then .quiet else .goneNew
  | .unlisted => if new.any (fun e => e.cond == n) then .activeNew else .unlisted
  | x => x

/-- `new` are entries relisted one after another, each the UNLISTED condition that outranks those not yet relisted (R157). -/
def Alu.Relists (ctx : AluCtx) (new : List Entry) : Prop :=
  ∀ k (h : k < new.length), new[k].count = 1 ∧ new[k].seq = (a.seq + k) % 65536 ∧ new[k].cycle = ctx.cycle
    ∧ (a.cond new[k].cond).listing = .unlisted ∧ new[k].cond < 60
    ∧ ∀ m, m < 60 → (a.cond m).listing = .unlisted → (∀ j (h' : j < new.length), j ≤ k → new[j].cond ≠ m) →
        Outranks ctx.t10 new[k].cond m

/-- `b` is `a` after the entries of `ns` are acknowledged, with the entries `new` relisted (R154, R157, R158). -/
structure Alu.AckedAs (ctx : AluCtx) (new : List Entry) (b : Alu) : Prop where
  length : b.conds.length = 60
  fits : b.fitting
  list : b.list = a.kept ns ++ new
  relists : a.Relists ctx new
  fresh : (new.map Entry.cond).Nodup
  count : new.length = min (a.list.length - (a.kept ns).length) a.unlistedCount
  seq : b.seq = (a.seq + new.length) % 65536
  cond : ∀ n, n < 60 → b.cond n = { a.cond n with listing := a.listingAfter ns new n }

end

section
variable {ctx : AluCtx} {a b : Alu} {ns : List Nat} {new : List Entry} {n : Nat}

theorem Alu.Relists.mem_unlisted (h : a.Relists ctx new) {e : Entry} (mem : e ∈ new) : e.cond ∈ a.unlisted := by
  obtain ⟨k, within, rfl⟩ := List.mem_iff_getElem.1 mem
  obtain ⟨-, -, -, unlisted, known, -⟩ := h k within
  exact Alu.mem_unlisted.2 ⟨known, unlisted⟩

/-- Relisted entries are no more than the UNLISTED conditions. -/
theorem length_le_unlisted (h : a.Relists ctx new) (fresh : (new.map Entry.cond).Nodup) : new.length ≤ a.unlistedCount := by
  have sub : new.map Entry.cond ⊆ a.unlisted := fun m mem => by
    obtain ⟨e, inNew, rfl⟩ := List.mem_map.1 mem
    exact h.mem_unlisted inNew
  simpa [Alu.unlistedCount_eq] using (fresh.subperm sub).length_le

/-- Another entry relisted: the condition that outranks those still UNLISTED. -/
theorem Alu.Relists.snoc (h : a.Relists ctx new) {e : Entry} (once : e.count = 1) (seq : e.seq = (a.seq + new.length) % 65536)
    (cycle : e.cycle = ctx.cycle) (unlisted : e.cond ∈ a.unlisted)
    (best : ∀ m ∈ a.unlisted, m ∉ new.map Entry.cond → m ≠ e.cond → Outranks ctx.t10 e.cond m) :
    a.Relists ctx (new ++ [e]) := by
  intro k within
  have last : (new ++ [e])[new.length]'(by simp) = e := by simp
  have early (j : Nat) (hj : j < new.length) : (new ++ [e])[j]'(by simp; omega) = new[j] := List.getElem_append_left hj
  by_cases old : k < new.length
  · obtain ⟨one, number, marker, un, known, outranks⟩ := h k old
    rw [early k old]
    refine ⟨one, number, marker, un, known, fun m hm um others => outranks m hm um fun j hj le => ?_⟩
    rw [← early j hj]
    exact others j (by simp; omega) le
  · obtain rfl : k = new.length := by
      simp only [List.length_append, List.length_singleton] at within
      omega
    obtain ⟨known, un⟩ := Alu.mem_unlisted.1 unlisted
    rw [last]
    refine ⟨once, seq, cycle, un, known, fun m hm um others => best m (Alu.mem_unlisted.2 ⟨hm, um⟩) (fun mem => ?_) fun same => ?_⟩
    · obtain ⟨f, inNew, cond⟩ := List.mem_map.1 mem
      obtain ⟨j, hj, rfl⟩ := List.mem_iff_getElem.1 inNew
      refine others j (by simp; omega) hj.le ?_
      rw [early j hj, cond]
    · refine others new.length (by simp) le_rfl ?_
      rw [last, same]

/-- A condition that is not GONE_NEW takes no entry out of the list. -/
theorem Alu.kept_stays (stays : (a.cond n).listing ≠ .goneNew) : a.kept (ns ++ [n]) = a.kept ns := by
  refine List.filter_congr fun e _ => ?_
  by_cases same : e.cond = n
  · simp [Alu.gone, same, stays]
  · simp [Alu.gone, same]

theorem Alu.kept_goes (goes : (a.cond n).listing = .goneNew) : a.kept (ns ++ [n]) = (a.kept ns).filter (fun e => e.cond != n) := by
  rw [Alu.kept, Alu.kept, List.filter_filter]
  refine List.filter_congr fun e _ => ?_
  by_cases same : e.cond = n
  · simp [Alu.gone, same, goes]
  · simp [Alu.gone, same]

theorem Alu.kept_length (listed : a.Listed) (within : n < 60) (goes : (a.cond n).listing = .goneNew) (fresh : n ∉ ns) :
    (a.kept (ns ++ [n])).length + 1 = (a.kept ns).length := by
  have part : (a.kept ns).Sublist a.list := List.filter_sublist
  obtain ⟨e, mem, cond⟩ := (listed.entry n within).1 (by rw [goes]; rfl)
  rw [Alu.kept_goes goes]
  exact length_filter_ne (listed.nodup.sublist (part.map _))
    ⟨e, List.mem_filter.2 ⟨mem, by simp [Alu.gone, cond, fresh]⟩, cond⟩

/-- Acknowledging `n` too moves its own state alone (R154). -/
theorem Alu.listingAfter_other {m : Nat} (other : m ≠ n) : a.listingAfter (ns ++ [n]) new m = a.listingAfter ns new m := by
  simp [Alu.listingAfter, other]

/-- Relisting moves the state of an UNLISTED condition alone (R157). -/
theorem Alu.listingAfter_relisted {e : Entry} {m : Nat} (unlisted : (a.cond e.cond).listing = .unlisted) :
    a.listingAfter ns (new ++ [e]) m = if m = e.cond then .activeNew else a.listingAfter ns new m := by
  by_cases same : m = e.cond
  · subst same
    simp [Alu.listingAfter, unlisted]
  · have other : ¬ e.cond = m := fun k => same k.symm
    simp [Alu.listingAfter, same, other]

end

end Sys2Proof.Machine
end

section
/-! SUPPORT. A run of acknowledgements (R157, R158): each step keeps the account of what is gone, seen and relisted. -/

namespace Sys2Proof.Machine

section
variable {ctx : AluCtx} {a b : Alu} {ns : List Nat} {new : List Entry} {n : Nat}

theorem Alu.AckedAs.nil (listed : a.Listed) : a.AckedAs [] ctx [] a where
  length := listed.length
  fits := listed.fits
  list := by simp [Alu.kept, Alu.gone]
  relists := fun k within => absurd within (by simp)
  fresh := List.nodup_nil
  count := by simp [Alu.kept, Alu.gone]
  seq := (Nat.mod_eq_of_lt listed.numbered).symm
  cond := fun m _ => by
    have same : a.listingAfter [] [] m = (a.cond m).listing := by
      unfold Alu.listingAfter
      cases (a.cond m).listing <;> rfl
    rw [same]

/-- An acknowledgement that takes no entry out moves the state of its own condition alone. -/
theorem Alu.AckedAs.stays (h : a.AckedAs ns ctx new b) (stays : (a.cond n).listing ≠ .goneNew) {c : Alu}
    (length : c.conds.length = 60) (list : c.list = b.list) (seq : c.seq = b.seq)
    (own : c.cond n = { a.cond n with listing := a.listingAfter (ns ++ [n]) new n })
    (other : ∀ m, m < 60 → m ≠ n → c.cond m = b.cond m) : a.AckedAs (ns ++ [n]) ctx new c where
  length := length
  fits := by
    unfold Alu.fitting
    rw [list]
    exact h.fits
  list := by rw [list, h.list, Alu.kept_stays stays]
  relists := h.relists
  fresh := h.fresh
  count := by rw [Alu.kept_stays stays]; exact h.count
  seq := seq.trans h.seq
  cond := fun m within => by
    by_cases same : m = n
    · exact same ▸ own
    · rw [other m within same, h.cond m within, Alu.listingAfter_other same]

/-- What taking an entry out leaves before the relisting. -/
def Alu.takenOut (b : Alu) (n : Nat) : Alu := (b.remove n).setListing n .quiet

theorem Alu.AckedAs.takenOut_list (h : a.AckedAs ns ctx new b) (goes : (a.cond n).listing = .goneNew) :
    (b.takenOut n).list = a.kept (ns ++ [n]) ++ new := by
  have others : new.filter (fun e => e.cond != n) = new := by
    refine List.filter_eq_self.2 fun e mem => ?_
    have unlisted := (Alu.mem_unlisted.1 (h.relists.mem_unlisted mem)).2
    simp only [bne_iff_ne, ne_eq]
    intro same
    rw [same, goes] at unlisted
    exact nomatch unlisted
  show b.list.filter (fun e => e.cond != n) = _
  rw [h.list, List.filter_append, others, Alu.kept_goes goes]

theorem Alu.AckedAs.takenOut_cond (h : a.AckedAs ns ctx new b) (goes : (a.cond n).listing = .goneNew) {m : Nat} (within : m < 60) :
    (b.takenOut n).cond m = { a.cond m with listing := a.listingAfter (ns ++ [n]) new m } := by
  have removed (m : Nat) : (b.remove n).cond m = b.cond m := rfl
  rw [Alu.takenOut, Alu.setListing_cond (a := b.remove n) h.length _ within, removed, h.cond m within]
  by_cases same : m = n
  · subst same
    rw [if_pos rfl]
    simp [Alu.listingAfter, goes]
  · rw [if_neg same, Alu.listingAfter_other same]

/-- The conditions still UNLISTED are those not yet relisted. -/
theorem Alu.AckedAs.takenOut_unlisted (h : a.AckedAs ns ctx new b) (goes : (a.cond n).listing = .goneNew) (m : Nat) :
    m ∈ (b.takenOut n).unlisted ↔ m ∈ a.unlisted ∧ m ∉ new.map Entry.cond := by
  have after : a.listingAfter (ns ++ [n]) new m = .unlisted ↔ (a.cond m).listing = .unlisted ∧ m ∉ new.map Entry.cond := by
    unfold Alu.listingAfter
    cases k : (a.cond m).listing <;> simp
    · split <;> simp
    · split <;> simp
  rw [Alu.mem_unlisted, Alu.mem_unlisted, and_assoc]
  refine and_congr_right fun within => ?_
  rw [h.takenOut_cond goes within]
  exact after

/-- Taking an entry out relists one UNLISTED condition, while any stands (R157). -/
theorem Alu.AckedAs.goes (h : a.AckedAs ns ctx new b) (listed : a.Listed) (within : n < 60) (goes : (a.cond n).listing = .goneNew)
    (fresh : n ∉ ns) : ∃ new', a.AckedAs (ns ++ [n]) ctx new' ((b.takenOut n).relist ctx) := by
  have length : (b.takenOut n).conds.length = 60 := (listingOnly_setListing (b.remove n) n _).length.trans h.length
  have shorter := Alu.kept_length listed within goes fresh
  have room : (b.takenOut n).list.length < Config.alarmCapacity := by
    have fits := h.fits
    rw [Alu.fitting, h.list, List.length_append] at fits
    rw [h.takenOut_list goes, List.length_append]
    omega
  have most : (a.kept ns).length ≤ a.list.length := List.length_filter_le _ _
  have count := h.count
  have bound := length_le_unlisted h.relists h.fresh
  rcases nextUnlisted_eq ctx.t10 (b.takenOut n) with ⟨none, next⟩ | ⟨m, next, mem, best⟩
  · have all : a.unlisted ⊆ new.map Entry.cond := fun m mem => by
      by_contra missing
      have still := (h.takenOut_unlisted goes m).2 ⟨mem, missing⟩
      rw [none] at still
      exact absurd still List.not_mem_nil
    have full : a.unlistedCount ≤ new.length := by
      have nodup : a.unlisted.Nodup := a.unlisted_ascending.imp (fun lt => Nat.ne_of_lt lt)
      simpa [Alu.unlistedCount_eq] using (nodup.subperm all).length_le
    have same : (b.takenOut n).relist ctx = b.takenOut n := by simp only [Alu.relist, next]
    rw [same]
    exact ⟨new, length, room.le, h.takenOut_list goes, h.relists, h.fresh, by omega, h.seq, fun m => h.takenOut_cond goes⟩
  · obtain ⟨unlisted, missing⟩ := (h.takenOut_unlisted goes m).1 mem
    obtain ⟨known, un⟩ := Alu.mem_unlisted.1 unlisted
    have relisted : (b.takenOut n).relist ctx = (b.takenOut n).append ctx m := by simp only [Alu.relist, next, if_pos room]
    let e : Entry := ⟨m, 1, b.seq, ctx.cycle⟩
    have relists : a.Relists ctx (new ++ [e]) := h.relists.snoc rfl h.seq rfl unlisted fun k hk others other =>
      best k ((h.takenOut_unlisted goes k).2 ⟨hk, others⟩) other
    have distinct : ((new ++ [e]).map Entry.cond).Nodup := by
      rw [List.map_append, List.nodup_append]
      refine ⟨h.fresh, List.nodup_singleton _, fun x hx y hy same => missing ?_⟩
      obtain rfl : y = m := List.mem_singleton.1 hy
      exact same ▸ hx
    have more := length_le_unlisted relists distinct
    rw [List.length_append, List.length_singleton] at more
    rw [relisted]
    refine ⟨new ++ [e], (listingOnly_append ctx m _).length.trans length, ?_, ?_, relists, distinct, ?_, ?_, fun k hk => ?_⟩
    · rw [Alu.fitting, Alu.append_list, List.length_append]
      exact room
    · rw [Alu.append_list, h.takenOut_list goes, List.append_assoc]
      rfl
    · rw [List.length_append, List.length_singleton]
      omega
    · show (b.seq + 1) % 65536 = _
      rw [h.seq, List.length_append, List.length_singleton]
      omega
    · have listing : ((b.takenOut n).append ctx m).cond k = ((b.takenOut n).setListing m .activeNew).cond k := rfl
      rw [listing, Alu.setListing_cond length _ hk, h.takenOut_cond goes hk, Alu.listingAfter_relisted (e := e) un]
      by_cases same : k = m
      · rw [if_pos same, if_pos same]
      · rw [if_neg same, if_neg same]

/-- An acknowledgement of one more condition, not UNLISTED at the start (R154). -/
theorem Alu.AckedAs.step (h : a.AckedAs ns ctx new b) (listed : a.Listed) (within : n < 60) (fresh : n ∉ ns)
    (entered : (a.cond n).listing ≠ .unlisted) : ∃ new', a.AckedAs (ns ++ [n]) ctx new' (b.acknowledge ctx n) := by
  have state : (b.cond n).listing = (a.cond n).listing := by
    rw [h.cond n within]
    show a.listingAfter ns new n = _
    unfold Alu.listingAfter
    cases k : (a.cond n).listing <;> simp_all
  have other (l : Listing) (m : Nat) (hm : m < 60) (differs : m ≠ n) : (b.setListing n l).cond m = b.cond m := by
    rw [Alu.setListing_cond h.length l hm, if_neg differs]
  have same (after : a.listingAfter (ns ++ [n]) new n = a.listingAfter ns new n) (stays : (a.cond n).listing ≠ .goneNew) :
      a.AckedAs (ns ++ [n]) ctx new b :=
    h.stays stays h.length rfl rfl (by rw [h.cond n within, after]) fun _ _ _ => rfl
  unfold Alu.acknowledge
  rw [state]
  cases k : (a.cond n).listing with
  | activeNew =>
    refine ⟨new, h.stays (by simp [k]) ((listingOnly_setListing b n _).length.trans h.length) rfl rfl ?_ (other _)⟩
    rw [Alu.setListing_cond h.length _ within, if_pos rfl, h.cond n within]
    simp [Alu.listingAfter, k]
  | goneNew => exact h.goes listed within k fresh
  | quiet => exact ⟨new, same (by simp [Alu.listingAfter, k]) (by simp [k])⟩
  | activeSeen => exact ⟨new, same (by simp [Alu.listingAfter, k]) (by simp [k])⟩
  | unlisted => exact absurd k entered

/-- A run of acknowledgements of differing conditions, none UNLISTED at the start (R158). -/
theorem Alu.AckedAs.all (h : a.AckedAs ns ctx new b) (listed : a.Listed) (ms : List Nat) (within : ∀ n ∈ ms, n < 60)
    (distinct : (ns ++ ms).Nodup) (entered : ∀ n ∈ ms, (a.cond n).listing ≠ .unlisted) :
    ∃ new', a.AckedAs (ns ++ ms) ctx new' (b.acknowledgeAll ctx ms) := by
  induction ms generalizing ns new b with
  | nil => exact ⟨new, by simpa [Alu.acknowledgeAll] using h⟩
  | cons n ms ih =>
    have fresh : n ∉ ns := fun mem => (List.nodup_append.1 distinct).2.2 n mem n List.mem_cons_self rfl
    obtain ⟨new', next⟩ := h.step listed (within n List.mem_cons_self) fresh (entered n List.mem_cons_self)
    have split : ns ++ n :: ms = (ns ++ [n]) ++ ms := by simp
    rw [split] at distinct ⊢
    exact ih next (fun m mem => within m (List.mem_cons_of_mem n mem)) distinct
      (fun m mem => entered m (List.mem_cons_of_mem n mem))

end

/-! ### The whole list acknowledged (R158) -/

/-- A device whose list and records stand as a run of acknowledgements leaves them. -/
theorem acknowledged_of_ackedAs {s t : State} {ns : List Nat} {new : List Entry} {b : Alu}
    (h : s.alu.AckedAs ns s.aluCtx new b) (numbered : s.alu.seq < 65536) (list : t.alu.list = b.list) (seq : t.alu.seq = b.seq)
    (cond : ∀ n, t.alu.cond n = b.cond n) : Acknowledged ns s t := by
  refine ⟨new, list.trans h.list, h.count, h.relists, ?_, fun n within => (cond n).trans (h.cond n within)⟩
  rw [seq, h.seq]
  by_cases none : new = []
  · rw [if_pos none, none]
    exact Nat.mod_eq_of_lt numbered
  · rw [if_neg none]

theorem acknowledged_all {s t : State} (listed : s.alu.Listed)
    (list : t.alu.list = (s.alu.acknowledgeAll s.aluCtx (s.alu.list.map Entry.cond)).list)
    (seq : t.alu.seq = (s.alu.acknowledgeAll s.aluCtx (s.alu.list.map Entry.cond)).seq)
    (cond : ∀ n, t.alu.cond n = (s.alu.acknowledgeAll s.aluCtx (s.alu.list.map Entry.cond)).cond n) :
    Acknowledged (s.alu.list.map Entry.cond) s t := by
  have within (n : Nat) (mem : n ∈ s.alu.list.map Entry.cond) : n < 60 := by
    obtain ⟨e, inList, rfl⟩ := List.mem_map.1 mem
    exact listed.known e inList
  have entered (n : Nat) (mem : n ∈ s.alu.list.map Entry.cond) : (s.alu.cond n).listing ≠ .unlisted := fun unlisted => by
    have has := (listed.entry n (within n mem)).2 (List.mem_map.1 mem)
    rw [unlisted] at has
    exact nomatch has
  obtain ⟨new, acked⟩ := (Alu.AckedAs.nil (ctx := s.aluCtx) listed).all listed _ within listed.nodup entered
  exact acknowledged_of_ackedAs acked listed.numbered list seq cond

end Sys2Proof.Machine
end

section
/-! CAB frames without a selector edge (R49, R158, R179, R183): the confirm, acknowledge and reset pushes, and O20. -/

namespace Sys2Proof.Machine

/-! ### The reset push (R179, R183) -/

/-- What a reset push needs to leave HALTED: an edge, no standing TRIP, and every lever neutral (R179, R183). -/
def ResetLeaves (pressed : Bool) (s : State) : Prop :=
  s.mgu.lastReset = some false ∧ pressed = true ∧ s.mgu.tripStanding = false ∧ ∀ g, s.mgu.lastLevers.get g = some 0

section
variable {pressed : Bool} {s : State}

theorem resetLeaves_iff (halted : s.mgu.mode = .halted) :
    (pushEdge s.mgu.lastReset pressed && mayLeaveHalted (s.withMgu { s.mgu with lastReset := some pressed })) = true
      ↔ ResetLeaves pressed s := by
  have levers : Axis.all.all (fun g => s.mgu.lastLevers.get g == some 0) = true ↔ ∀ g, s.mgu.lastLevers.get g = some 0 := by
    rw [List.all_eq_true]
    refine ⟨fun h g => ?_, fun h g _ => ?_⟩
    · have mem : g ∈ Axis.all := by cases g <;> decide
      simpa using h g mem
    · simpa using h g
  have may : mayLeaveHalted (s.withMgu { s.mgu with lastReset := some pressed })
      = (!s.mgu.tripStanding && Axis.all.all (fun g => s.mgu.lastLevers.get g == some 0)) := by
    simp [mayLeaveHalted, halted]
  rw [may, ResetLeaves]
  simp only [Bool.and_eq_true, pushEdge, beq_iff_eq, Bool.not_eq_true', levers, and_assoc]

/-- A reset push that may leave HALTED brings STANDBY, and every group is HELD (R95, R183). -/
theorem takeResetPush_leaves (halted : s.mgu.mode = .halted) (leaves : ResetLeaves pressed s) :
    takeResetPush pressed s
      = (s.withMgu { s.mgu with lastReset := some pressed, mode := .standby }).withGroups (s.groups.map Group.hold) :=
  if_pos ((resetLeaves_iff halted).2 leaves)

theorem takeResetPush_stays (halted : s.mgu.mode = .halted) (stays : ¬ ResetLeaves pressed s) :
    takeResetPush pressed s = s.withMgu { s.mgu with lastReset := some pressed } :=
  if_neg (fun leaves => stays ((resetLeaves_iff halted).1 leaves))

/-- In HALTED a reset push either brings STANDBY with every group HELD, or leaves the part HALTED and the groups as they are (R183). -/
theorem resetPush_halted (halted : s.mgu.mode = .halted) :
    (ResetLeaves pressed s → (takeResetPush pressed s).mgu.mode = .standby
        ∧ ∀ g, (takeResetPush pressed s).group g = ((s.group g).hold))
      ∧ (¬ ResetLeaves pressed s → (takeResetPush pressed s).mgu.mode = .halted ∧ (takeResetPush pressed s).groups = s.groups) := by
  refine ⟨fun leaves => ?_, fun stays => ?_⟩
  · rw [takeResetPush_leaves halted leaves]
    exact ⟨rfl, fun g => PerAxis.get_map _ _ g⟩
  · rw [takeResetPush_stays halted stays]
    exact ⟨halted, rfl⟩

end

/-! ### Stops of groups at rest -/

/-- Stopping groups sets the groups alone, and leaves them as they are where every group is CUT (R95). -/
theorem stopGroups_cut (gs : List Axis) (s : State) :
    ∃ p, s.stopGroups gs = s.withGroups p ∧ ((∀ g, (s.group g).state = .cut) → p = s.groups) := by
  obtain ⟨p, e⟩ := stopGroups_eq gs s
  refine ⟨p, e, fun cut => PerAxis.eq_of_get fun g => ?_⟩
  have same : (s.group g).stop = s.group g := by simp only [Group.stop, cut g]
  have group : (s.stopGroups gs).group g = s.group g := by
    rw [stopGroups_group, same, ite_self]
  rw [e] at group
  exact group

/-! ### The acknowledge push (R158) -/

/-- The ALU's record after an acknowledge push (R158). -/
def ackedPush (pressed : Bool) (s : State) : Alu :=
  let a := { s.alu with lastAck := some pressed }
  if pushEdge s.alu.lastAck pressed && s.items.ackMethod != .read then a.acknowledgeAll s.aluCtx (s.alu.list.map Entry.cond) else a

theorem ackedPush_listingOnly (pressed : Bool) (s : State) : ListingOnly { s.alu with lastAck := some pressed } (ackedPush pressed s) := by
  simp only [ackedPush]
  split
  · exact listingOnly_acknowledgeAll _ _ _
  · exact .refl _

/-- A change of listing states alone leaves the severities and the standing TRIP (R162, R163). -/
theorem severities_of_raised (t10 : Table) {a b : Alu} (raised : ∀ n, (b.cond n).raised = (a.cond n).raised) :
    b.groupSeverities t10 = a.groupSeverities t10 ∧ b.tripStanding t10 = a.tripStanding t10 := by
  have standing : b.standing t10 = a.standing t10 := by
    funext n
    simp only [Alu.standing, raised]
  exact ⟨by simp only [Alu.groupSeverities, Alu.groupSeverity, standing], by simp only [Alu.tripStanding, standing]⟩

theorem HandedOk.acked {s : State} (h : HandedOk s) (pressed : Bool) : HandedOk (s.withAlu (ackedPush pressed s)) := by
  have listing := ackedPush_listingOnly pressed s
  obtain ⟨severity, trip⟩ := severities_of_raised s.tables.t10 (a := s.alu) (b := ackedPush pressed s) listing.raised
  obtain ⟨handed, standing, halted⟩ := h
  exact ⟨listing.severity.trans (handed.trans severity.symm), standing.trans trip.symm, halted⟩

/-- An acknowledge push while the sequencer reacts to nothing: the ALU's record, and groups already told to stop (R158, R162). -/
theorem takeAckPush_idle {s : State} (handed : HandedOk s) (idle : SequencerIdle s) (pressed : Bool) :
    ∃ p, takeAckPush pressed s = (s.withAlu (ackedPush pressed s)).withGroups p
      ∧ ((∀ g, (s.group g).state = .cut) → p = s.groups) := by
  by_cases edge : (pushEdge s.alu.lastAck pressed && s.items.ackMethod != .read) = true
  · have acked : ackedPush pressed s
        = { s.alu with lastAck := some pressed }.acknowledgeAll s.aluCtx (s.alu.list.map Entry.cond) := if_pos edge
    obtain ⟨p, stopped, cut⟩ := stopGroups_cut (stoppedBySeverity (s.withAlu (ackedPush pressed s))) (s.withAlu (ackedPush pressed s))
    have taken : takeAckPush pressed s = report [] (s.withAlu (ackedPush pressed s)) := by
      rw [acked]
      exact if_pos edge
    refine ⟨p, ?_, cut⟩
    rw [taken, report_idle [] (s.withAlu (ackedPush pressed s)) idle.1 idle.2, aluTake_nil (handed.acked pressed), stopped]
  · have plain : ackedPush pressed s = { s.alu with lastAck := some pressed } := if_neg edge
    refine ⟨s.groups, ?_, fun _ => rfl⟩
    rw [plain]
    exact if_neg edge

/-- What an acknowledge push leaves of the ALU: on an edge, with the method not READ, every entry acknowledged; else the push last seen
alone (R158). -/
theorem ackedPush_eq (pressed : Bool) (s : State) :
    (s.alu.lastAck = some false → pressed = true → s.items.ackMethod ≠ .read → ackedPush pressed s
        = { s.alu with lastAck := some pressed }.acknowledgeAll s.aluCtx (s.alu.list.map Entry.cond))
      ∧ (s.alu.lastAck ≠ some false ∨ pressed = false ∨ s.items.ackMethod = .read →
        ackedPush pressed s = { s.alu with lastAck := some pressed }) := by
  refine ⟨fun last push method => if_pos (by simp [pushEdge, last, push, method]), fun none => if_neg ?_⟩
  rcases none with last | push | method
  · simp [pushEdge, last]
  · simp [pushEdge, push]
  · simp [method]

/-! ### The frame without a selector edge -/

theorem takeSelector_stays {sel : Selector} {s : State} (h : s.wsq.selector = none ∨ s.wsq.selector = some sel) :
    takeSelector sel s = (s.withWsq { s.wsq with selector := some sel }, []) := by
  rcases h with e | e
  · simp only [takeSelector, e]
  · cases sel <;> simp only [takeSelector, e]

/-- A selector seen again, settled while the sequencer reacts to nothing (R131). -/
theorem settled_takeSelector {sel : Selector} {u : State} (handed : HandedOk u) (idle : SequencerIdle u)
    (again : u.wsq.selector = none ∨ u.wsq.selector = some sel) :
    ∃ p, settleMove (takeSelector sel u) = (u.withWsq { u.wsq with selector := some sel }).withGroups p
      ∧ ((∀ g, (u.group g).state = .cut) → p = u.groups) := by
  have up : HandedOk (u.withWsq { u.wsq with selector := some sel }) := handed
  have quiet : Unreacting (u.withWsq { u.wsq with selector := some sel }) := unreacting_of_idle idle
  obtain ⟨p, stopped, cut⟩ := stopGroups_cut (stoppedBySeverity (u.withWsq { u.wsq with selector := some sel }))
    (u.withWsq { u.wsq with selector := some sel })
  exact ⟨p, by rw [takeSelector_stays again, settleMove_nil up quiet, stopped], cut⟩

/-- A frame without a selector edge, after its confirm push, while the sequencer reacts to nothing. -/
theorem takeCab_again {selector pushes : Word} {s u : State} (confirmed : takeConfirm (bit pushes 2) s = u) (handed : HandedOk u)
    (idle : SequencerIdle u) (again : u.wsq.selector = none ∨ u.wsq.selector = some (selectorOf selector)) :
    ∃ p, takeCab selector pushes s = takeResetPush (bit pushes 1)
        (((u.withWsq { u.wsq with selector := some (selectorOf selector) }).withAlu (ackedPush (bit pushes 0) u)).withGroups p)
      ∧ ((∀ g, (u.group g).state = .cut) → p = u.groups) := by
  obtain ⟨p, settled, cut⟩ := settled_takeSelector handed idle again
  let v := (u.withWsq { u.wsq with selector := some (selectorOf selector) }).withGroups p
  have up : HandedOk v := handed
  have rests : SequencerIdle v := idle
  obtain ⟨q, acked, cut'⟩ := takeAckPush_idle up rests (bit pushes 0)
  refine ⟨q, ?_, fun all => ?_⟩
  · simp only [takeCab]
    rw [confirmed, settled]
    exact congrArg (takeResetPush (bit pushes 1)) acked
  · have same : p = u.groups := cut all
    have groups : v.groups = u.groups := same
    refine (cut' fun g => ?_).trans groups
    show (v.groups.get g).state = _
    rw [groups]
    exact all g

/-- A confirm push without an edge is held as last seen (R49). -/
theorem takeConfirm_stays {pressed : Bool} {s : State} (h : ¬ (s.pos.lastConfirm = some false ∧ pressed = true)) :
    takeConfirm pressed s = s.withPos { s.pos with lastConfirm := some pressed } := by
  refine if_neg fun edge => h ?_
  simpa [pushEdge] using edge

/-- The device with its heading confirmed, before that is reported (R49). -/
def headingTaken (s : State) : State :=
  (s.withPos { s.pos with headingConfirmed := true, lastConfirm := some true }).withSwu { s.swu with heldHeading := true }

/-- A confirm edge confirms the heading, and HEADING_UNCONFIRMED falls (R49, R50). -/
theorem takeConfirm_edge {s : State} (idle : SequencerIdle s) (h : s.pos.lastConfirm = some false) :
    takeConfirm true s = aluTake [.level cHeadingUnconfirmed false none] (headingTaken s) := by
  have taken : takeConfirm true s = report [.level cHeadingUnconfirmed false none] (headingTaken s) :=
    if_pos (by simp [pushEdge, h])
  rw [taken, report_idle _ (headingTaken s) idle.1 idle.2]

theorem headingTaken_fallen {s : State} (ok : AlarmsOk s) :
    ((aluTake [.level cHeadingUnconfirmed false none] (headingTaken s)).alu.cond cHeadingUnconfirmed).raised = false := by
  rw [aluTake_cond]
  refine (take_level _ _ _ _ false none ?_ (by simp) (by simp)).1
  show cHeadingUnconfirmed < s.alu.conds.length
  rw [ok.1]
  decide

/-! ### The whole frame -/

section
variable {l : Link} {s : State} {selector pushes : Word}

/-- The port and the device it took a CAB frame into differ in the port alone. -/
theorem exec_cab_taken {v : State} (h : s.lpu.bypass = .off) (f : fits l 4 = true)
    (taken : takeCab selector pushes (goodFrameSeen s) = v) :
    ∃ x, exec (.cab l selector pushes) s = .next (v.withLpu x) :=
  ⟨_, by rw [cab_in h f, taken, offerForwarded_lpu]⟩

/-- A confirm edge, no selector edge (R49, R50). -/
theorem cab_confirm (h : s.lpu.bypass = .off) (f : fits l 4 = true) (ok : AlarmsOk s) (idle : SequencerIdle s)
    (again : s.wsq.selector = none ∨ s.wsq.selector = some (selectorOf selector))
    (last : s.pos.lastConfirm = some false) (push : bit pushes 2 = true) :
    ∃ t, exec (.cab l selector pushes) s = .next t ∧ t.wsq = { s.wsq with selector := some (selectorOf selector) }
      ∧ t.pos = { s.pos with headingConfirmed := true, lastConfirm := some true } ∧ t.swu.heldHeading = true
      ∧ t.alu.raised cHeadingUnconfirmed = false := by
  have confirmed : takeConfirm (bit pushes 2) (goodFrameSeen s)
      = aluTake [.level cHeadingUnconfirmed false none] (headingTaken (goodFrameSeen s)) := by
    rw [push]
    exact takeConfirm_edge (s := goodFrameSeen s) idle last
  have fallen := headingTaken_fallen (s := goodFrameSeen s) ok
  have wsq : (aluTake [.level cHeadingUnconfirmed false none] (headingTaken (goodFrameSeen s))).wsq = s.wsq := aluTake_wsq _ _
  obtain ⟨pos, swu⟩ := aluTake_heading [.level cHeadingUnconfirmed false none] (headingTaken (goodFrameSeen s))
  have handed := handedOk_aluTake [.level cHeadingUnconfirmed false none] (headingTaken (goodFrameSeen s))
  generalize aluTake [.level cHeadingUnconfirmed false none] (headingTaken (goodFrameSeen s)) = u at *
  obtain ⟨p, taken, -⟩ := takeCab_again confirmed handed (by rw [SequencerIdle, wsq]; exact idle) (by rw [wsq]; exact again)
  obtain ⟨m, q, reset, -⟩ := takeResetPush_eq (bit pushes 1) (((u.withWsq { u.wsq with
    selector := some (selectorOf selector) }).withAlu (ackedPush (bit pushes 0) u)).withGroups p)
  obtain ⟨x, run⟩ := exec_cab_taken (l := l) h f (taken.trans reset)
  refine ⟨_, run, congrArg (fun w : Wsq => { w with selector := some (selectorOf selector) }) wsq, pos,
    congrArg Swu.heldHeading swu, ?_⟩
  exact ((ackedPush_listingOnly (bit pushes 0) u).raised cHeadingUnconfirmed).trans fallen

/-- Neither a confirm edge nor a selector edge: the acknowledge push, then the reset push (R158, R179). -/
theorem cab_pushes (h : s.lpu.bypass = .off) (f : fits l 4 = true) (handed : HandedOk s) (idle : SequencerIdle s)
    (again : s.wsq.selector = none ∨ s.wsq.selector = some (selectorOf selector))
    (none : ¬ (s.pos.lastConfirm = some false ∧ bit pushes 2 = true)) :
    ∃ t v, exec (.cab l selector pushes) s = .next t ∧ t.wsq = { s.wsq with selector := some (selectorOf selector) }
      ∧ t.pos = { s.pos with lastConfirm := some (bit pushes 2) } ∧ t.swu = s.swu ∧ t.alu = ackedPush (bit pushes 0) s
      ∧ t.mgu = (takeResetPush (bit pushes 1) v).mgu ∧ t.groups = (takeResetPush (bit pushes 1) v).groups
      ∧ v.mgu = s.mgu ∧ ((∀ g, (s.group g).state = .cut) → v.groups = s.groups) := by
  have confirmed : takeConfirm (bit pushes 2) (goodFrameSeen s)
      = (goodFrameSeen s).withPos { s.pos with lastConfirm := some (bit pushes 2) } :=
    takeConfirm_stays (s := goodFrameSeen s) none
  obtain ⟨p, taken, cut⟩ := takeCab_again confirmed handed idle again
  let v := ((((goodFrameSeen s).withPos { s.pos with lastConfirm := some (bit pushes 2) }).withWsq { s.wsq with
    selector := some (selectorOf selector) }).withAlu (ackedPush (bit pushes 0) s)).withGroups p
  obtain ⟨m, q, reset, -⟩ := takeResetPush_eq (bit pushes 1) v
  obtain ⟨x, run⟩ := exec_cab_taken (l := l) h f (taken.trans reset)
  exact ⟨_, v, run, rfl, rfl, rfl, rfl, (congrArg State.mgu reset).symm, (congrArg State.groups reset).symm, rfl, cut⟩

end

end Sys2Proof.Machine
end

section
/-! O20, the CAB frame, assembled from its pushes and its edges. -/

namespace Sys2Proof.Machine

section
variable {l : Link} {s : State} {selector pushes : Word}

/-- Every CAB frame holds the selector and the pushes as last seen and is forwarded (R49, R131, R158, R169, R179). -/
theorem cab_delivered (h : s.lpu.bypass = .off) (f : fits l 4 = true) :
    ∃ t, exec (.cab l selector pushes) s = .next t ∧ t.wsq.selector = some (selectorOf selector)
      ∧ t.pos.lastConfirm = some (bit pushes 2) ∧ t.alu.lastAck = some (bit pushes 0) ∧ t.mgu.lastReset = some (bit pushes 1)
      ∧ Delivered (received kindCab l [selector, pushes]) s t ∧ SameConfig s t ∧ SameMeasured s t ∧ t.pending = s.pending := by
  obtain ⟨kept, held, confirm, ack, reset⟩ := takeCab_kept selector pushes (goodFrameSeen s)
  have delivered := delivered_offerForwarded (received kindCab l [selector, pushes]) kept.lpu
  refine ⟨_, cab_in h f selector pushes, ?_⟩
  rw [offerForwarded_lpu] at delivered ⊢
  exact ⟨held, confirm, ack, reset, delivered, ⟨kept.items, kept.tables⟩, ⟨kept.tru, kept.dgu, kept.env⟩, kept.pending⟩

/-- In HALTED a frame without confirm and selector edge does what its reset push does (R179, R183). -/
theorem cab_reset {t v : State} (handed : HandedOk s) (groups : GroupsOk s) (halted : s.mgu.mode = .halted)
    (mgu : t.mgu = (takeResetPush (bit pushes 1) v).mgu) (group : t.groups = (takeResetPush (bit pushes 1) v).groups)
    (before : v.mgu = s.mgu) (stood : (∀ g, (s.group g).state = .cut) → v.groups = s.groups) :
    (s.mgu.lastReset = some false ∧ bit pushes 1 = true ∧ s.alu.tripStanding s.tables.t10 = false
          ∧ (∀ g, s.mgu.lastLevers.get g = some 0) →
        t.mgu.mode = .standby ∧ ∀ g, (t.group g).state = .held ∧ (t.group g).q = 0 ∧ (t.group g).neutralSeen = false)
      ∧ (¬ (s.mgu.lastReset = some false ∧ bit pushes 1 = true ∧ s.alu.tripStanding s.tables.t10 = false
          ∧ ∀ g, s.mgu.lastLevers.get g = some 0) → t.mgu.mode = .halted ∧ t.groups = s.groups) := by
  obtain ⟨-, trip, -⟩ := handed
  obtain ⟨-, cut, -⟩ := groups
  have leaves : ResetLeaves (bit pushes 1) v ↔ s.mgu.lastReset = some false ∧ bit pushes 1 = true
      ∧ s.alu.tripStanding s.tables.t10 = false ∧ ∀ g, s.mgu.lastLevers.get g = some 0 := by
    rw [ResetLeaves, before, trip]
  obtain ⟨left, stayed⟩ := resetPush_halted (pressed := bit pushes 1) (s := v) (by rw [before]; exact halted)
  rw [← leaves, mgu, group, ← stood (cut halted)]
  refine ⟨fun may => ⟨(left may).1, fun g => ?_⟩, stayed⟩
  have held : t.group g = (v.group g).hold := (congrArg (fun p : PerAxis Group => p.get g) group).trans ((left may).2 g)
  rw [held]
  exact ⟨rfl, rfl, rfl⟩

/-- The push last seen is no part of the list and the records. -/
theorem acknowledged_push {t : State} {pressed : Bool} (ok : AlarmsOk s) (listing : ListingOk s)
    (alu : t.alu = { s.alu with lastAck := some pressed }.acknowledgeAll s.aluCtx (s.alu.list.map Entry.cond)) :
    Acknowledged (s.alu.list.map Entry.cond) s t := by
  let u := s.withAlu { s.alu with lastAck := some pressed }
  have listed : u.alu.Listed := listed_of_listingOk (s := u) ok listing
  exact acknowledged_all (s := u) listed (congrArg Alu.list alu) (congrArg Alu.seq alu) fun n => congrArg (fun a => a.cond n) alu

/-- The transfer begun, by whether DRAG still moves and whether the contactors are open (R136). -/
theorem transferWsq_eq (s : State) :
    ((transferWsq s).transfer = 0 ∧ (transferWsq s).steps = 0 ∧ (transferWsq s).returnPending = false ∧ (transferWsq s).dir = none)
      ∧ ((s.group .drag).moving = true → (transferWsq s).state = .openingDrag ∧ (transferWsq s).command = .drag)
      ∧ ((s.group .drag).moving = false → s.dgu.summary ≠ .none →
          (transferWsq s).state = .openingDrag ∧ (transferWsq s).command = .none)
      ∧ ((s.group .drag).moving = false → s.dgu.summary = .none →
          (transferWsq s).state = .closingWalk ∧ (transferWsq s).command = .walk) := by
  by_cases moving : (s.group .drag).moving = true
  · simp [transferWsq, moving]
  · by_cases none : s.dgu.summary = .none <;> simp [transferWsq, moving, none]

end

/-- Settles O20, the pushes and each edge of the selector by the state of the sequencer. -/
theorem cabFrame : Obligations.CabFrame := by
  unfold Obligations.CabFrame
  refine ⟨fun l selector pushes s h f => cab_delivered h f, fun pressed s halted => ⟨fun may => ?_, (resetPush_halted halted).2⟩,
    fun l selector pushes s h f ok handed idle again => ?_, fun l selector s h f ok handed held walk digging => ⟨?_, ?_⟩,
    fun l selector s h f ok handed held walk digging opening moves => ?_, fun l s h f ok handed held => ?_⟩
  · obtain ⟨standby, hold⟩ := (resetPush_halted halted).1 may
    exact ⟨standby, fun g => by rw [hold g]; exact ⟨rfl, rfl⟩⟩
  · by_cases edge : s.pos.lastConfirm = some false ∧ bit pushes 2 = true
    · obtain ⟨t, run, wsq, pos, swu, fallen⟩ := cab_confirm h f ok idle again edge.1 edge.2
      exact ⟨t, run, wsq, fun _ => ⟨pos, swu, fallen⟩, fun none => absurd edge none⟩
    · obtain ⟨t, v, run, wsq, pos, swu, alu, mgu, group, before, stood⟩ := cab_pushes h f handed idle again edge
      obtain ⟨acked, plain⟩ := ackedPush_eq (bit pushes 0) s
      refine ⟨t, run, wsq, fun e => absurd e edge, fun _ => ⟨pos, swu, fun listing last push method => ?_, fun calm => ?_,
        fun groups halted => cab_reset handed groups halted mgu group before stood⟩⟩
      · exact acknowledged_push ok listing (alu.trans (acked last push method))
      · exact alu.trans (plain calm)
  · intro n first last fails passes
    exact cab_walkDenied h f ok held walk digging (walkCheck_some first last fails passes)
  · intro passes
    obtain ⟨t, run, list, wsq, inactive, stopping⟩ := cab_transfer h f handed held walk digging (walkCheck_none passes)
    obtain ⟨counts, moving, opens, closes⟩ := transferWsq_eq (selected .walk s)
    rw [← wsq] at counts moving opens closes
    obtain ⟨transfer, steps, pending, dir⟩ := counts
    exact ⟨t, run, list, transfer, steps, pending, dir, inactive, fun m => ⟨(moving m).1, (moving m).2, stopping m⟩, opens, closes⟩
  · have quiet : Unreacting s := ⟨fun walks => (moves walks).2, fun e => absurd e opening⟩
    exact cab_walkEdge h f handed held walk digging quiet
  · exact cab_digEdge h f ok handed held

end Sys2Proof.Machine
end

section
/-! SUPPORT. The listing of the alarm unit under each of its operations (R154 to R157): which conditions stand in it, and that an UNLISTED
condition stands only while the list is full. -/

namespace Sys2Proof.Machine

/-- The list and the listing states agree, the conditions of `up` stand in the listing, those of `masked` are QUIET, and while a condition
is UNLISTED the list is full but for `slack` entries taken out of it and not yet replaced (R154 to R157). -/
structure Alu.Lists (masked up : Nat → Bool) (slack : Nat) (a : Alu) : Prop where
  listed : a.Listed
  counted : ∀ e ∈ a.list, 1 ≤ e.count ∧ e.count ≤ 255
  stands : ∀ n, n < 60 → (a.cond n).listing.stands = up n
  quiet : ∀ n, n < 60 → masked n = true → (a.cond n).listing = .quiet
  full : ∀ n, n < 60 → (a.cond n).listing = .unlisted → 32 ≤ a.list.length + slack

section
variable {masked up : Nat → Bool} {slack : Nat} {a b : Alu} {n : Nat} {ctx : AluCtx}

/-- A number that names no record reads as QUIET. -/
theorem Alu.Listed.within (h : a.Listed) (listed : (a.cond n).listing ≠ .quiet) : n < 60 := by
  by_contra beyond
  have none : a.conds[n]? = none := List.getElem?_eq_none (h.length.symm ▸ Nat.le_of_not_lt beyond)
  exact listed (by simp [Alu.cond, List.getD, none, Cond.reset])

theorem Alu.Lists.of_up {up' : Nat → Bool} (h : a.Lists masked up slack) (same : ∀ n, n < 60 → up n = up' n) :
    a.Lists masked up' slack :=
  { h with stands := fun n within => (h.stands n within).trans (same n within) }

theorem Alu.Lists.of_masked {masked' : Nat → Bool} (h : a.Lists masked up slack)
    (fewer : ∀ n, n < 60 → masked' n = true → masked n = true) : a.Lists masked' up slack :=
  { h with quiet := fun n within m => h.quiet n within (fewer n within m) }

/-- A condition that is not QUIET is not masked. -/
theorem Alu.Lists.unmasked (h : a.Lists masked up slack) (within : n < 60) (listed : (a.cond n).listing ≠ .quiet) :
    masked n = false :=
  Bool.eq_false_iff.2 fun m => listed (h.quiet n within m)

/-! ### The primitive changes -/

/-- Records whose listing states and list are the same agree as well. -/
theorem Alu.Lists.of_same (h : a.Lists masked up slack) (length : b.conds.length = a.conds.length) (list : b.list = a.list)
    (seq : b.seq = a.seq) (listing : ∀ n, n < 60 → (b.cond n).listing = (a.cond n).listing) : b.Lists masked up slack where
  listed :=
    { length := length.trans h.listed.length
      fits := by unfold Alu.fitting; rw [list]; exact h.listed.fits
      numbered := seq ▸ h.listed.numbered
      nodup := list ▸ h.listed.nodup
      known := list ▸ h.listed.known
      entry := fun n within => by rw [listing n within, list]; exact h.listed.entry n within }
  counted := list ▸ h.counted
  stands := fun n within => by rw [listing n within]; exact h.stands n within
  quiet := fun n within => by rw [listing n within]; exact h.quiet n within
  full := fun n within => by rw [listing n within, list]; exact h.full n within

/-- A record whose raw state, detail or forced flag changes. -/
theorem Alu.Lists.setCond (h : a.Lists masked up slack) {c : Cond} (same : c.listing = (a.cond n).listing) :
    (a.setCond n c).Lists masked up slack := by
  refine h.of_same (Alu.setCond_length a n c) rfl rfl fun m _ => ?_
  rw [Alu.cond_setCond]
  split
  · rename_i k
    rw [k.1, same]
  · rfl

/-- A listing state changes and the list does not. -/
theorem Alu.Lists.setListing (h : a.Lists masked up slack) (open' : masked n = false) {l : Listing}
    (entry : l.listed = (a.cond n).listing.listed) (full : l = .unlisted → 32 ≤ a.list.length + slack) :
    (a.setListing n l).Lists masked (Function.update up n l.stands) slack := by
  have cond {m : Nat} (within : m < 60) := Alu.setListing_cond h.listed.length l (n := n) within
  constructor
  · refine ⟨(listingOnly_setListing a n l).length.trans h.listed.length, h.listed.fits, h.listed.numbered, h.listed.nodup,
      h.listed.known, fun m within => ?_⟩
    rw [cond within]
    split
    · rename_i same
      subst same
      rw [show Listing.listed _ = _ from entry]
      exact h.listed.entry m within
    · exact h.listed.entry m within
  · exact h.counted
  · intro m within
    rw [cond within]
    by_cases same : m = n
    · subst same
      rw [if_pos rfl, Function.update_self]
    · rw [if_neg same, Function.update_of_ne same]
      exact h.stands m within
  · intro m within mask
    rw [cond within]
    split
    · rename_i same
      exact absurd (mask.symm.trans (same ▸ open')) (by decide)
    · exact h.quiet m within mask
  · intro m within
    rw [cond within]
    split
    · exact full
    · exact h.full m within

/-- A condition without an entry is appended (R155). -/
theorem Alu.Lists.append (h : a.Lists masked up slack) (within : n < 60) (open' : masked n = false)
    (missing : (a.cond n).listing.listed = false) (room : a.list.length < 32) :
    (a.append ctx n).Lists masked (Function.update up n true) (slack - 1) := by
  have cond {m : Nat} (within : m < 60) : (a.append ctx n).cond m
      = if m = n then { a.cond m with listing := .activeNew } else a.cond m := Alu.setListing_cond h.listed.length .activeNew within
  have fresh : n ∉ a.list.map Entry.cond := fun mem => by
    rw [(h.listed.entry n within).2 (List.mem_map.1 mem)] at missing
    exact nomatch missing
  constructor
  · refine ⟨(listingOnly_append ctx n a).length.trans h.listed.length, ?_, Nat.mod_lt _ (by decide), ?_, ?_, fun m hm => ?_⟩
    · rw [Alu.fitting, Alu.append_list, List.length_append]
      exact room
    · rw [Alu.append_list, List.map_append]
      refine List.nodup_append.2 ⟨h.listed.nodup, List.nodup_singleton _, fun x hx y hy same => fresh ?_⟩
      obtain rfl : y = n := List.mem_singleton.1 hy
      exact same ▸ hx
    · rw [Alu.append_list]
      exact List.forall_mem_append.2 ⟨h.listed.known, List.forall_mem_singleton.2 within⟩
    · rw [cond hm, Alu.append_list]
      simp only [List.mem_append, List.mem_singleton, or_and_right, exists_or, exists_eq_left]
      by_cases same : m = n
      · simp [same, Listing.listed]
      · rw [if_neg same, h.listed.entry m hm]
        simp [show ¬ n = m from fun e => same e.symm]
  · rw [Alu.append_list]
    exact List.forall_mem_append.2 ⟨h.counted, List.forall_mem_singleton.2 ⟨le_rfl, (by decide : 1 ≤ 255)⟩⟩
  · intro m hm
    rw [cond hm]
    by_cases same : m = n
    · subst same
      rw [if_pos rfl, Function.update_self]
      rfl
    · rw [if_neg same, Function.update_of_ne same]
      exact h.stands m hm
  · intro m hm mask
    rw [cond hm]
    split
    · rename_i same
      exact absurd (mask.symm.trans (same ▸ open')) (by decide)
    · exact h.quiet m hm mask
  · intro m hm
    rw [cond hm, Alu.append_list, List.length_append, List.length_singleton]
    split
    · exact nofun
    · intro unlisted
      have := h.full m hm unlisted
      omega

/-- A condition's entry is taken out of the list (R154, R156). -/
theorem Alu.Lists.takeOut (h : a.Lists masked up slack) (within : n < 60) (has : (a.cond n).listing.listed = true) {l : Listing}
    (gone : l.listed = false) (full : l = .unlisted → 32 ≤ a.list.length + slack) :
    ((a.remove n).setListing n l).Lists masked (Function.update up n l.stands) (slack + 1) := by
  have open' : masked n = false := h.unmasked within fun quiet => by rw [quiet] at has; exact nomatch has
  have removed (m : Nat) : (a.remove n).cond m = a.cond m := rfl
  have cond {m : Nat} (hm : m < 60) : ((a.remove n).setListing n l).cond m
      = if m = n then { a.cond m with listing := l } else a.cond m :=
    Alu.setListing_cond (a := a.remove n) h.listed.length l hm
  have shorter : (a.remove n).list.length + 1 = a.list.length :=
    length_filter_ne h.listed.nodup ((h.listed.entry n within).1 has)
  have part : (a.remove n).list.Sublist a.list := List.filter_sublist
  constructor
  · refine ⟨(listingOnly_setListing (a.remove n) n l).length.trans h.listed.length, (Alu.remove_length n a).trans h.listed.fits,
      h.listed.numbered, h.listed.nodup.sublist (part.map _), fun e mem => h.listed.known e (part.subset mem), fun m hm => ?_⟩
    have stays : (∃ e ∈ (a.remove n).list, e.cond = m) ↔ m ≠ n ∧ ∃ e ∈ a.list, e.cond = m := by
      simp only [Alu.remove, List.mem_filter, bne_iff_ne, ne_eq]
      constructor
      · rintro ⟨e, ⟨mem, other⟩, rfl⟩
        exact ⟨other, e, mem, rfl⟩
      · rintro ⟨other, e, mem, rfl⟩
        exact ⟨e, ⟨mem, other⟩, rfl⟩
    rw [cond hm, Alu.setListing_list, stays, ← h.listed.entry m hm]
    by_cases same : m = n
    · simp [same, gone]
    · simp [same]
  · exact fun e mem => h.counted e (part.subset mem)
  · intro m hm
    rw [cond hm]
    by_cases same : m = n
    · subst same
      rw [if_pos rfl, Function.update_self]
    · rw [if_neg same, Function.update_of_ne same]
      exact h.stands m hm
  · intro m hm mask
    rw [cond hm]
    split
    · rename_i same
      exact absurd (mask.symm.trans (same ▸ open')) (by decide)
    · exact h.quiet m hm mask
  · intro m hm
    have length : ((a.remove n).setListing n l).list.length + 1 = a.list.length := shorter
    rw [cond hm]
    split
    · intro unlisted
      have := full unlisted
      omega
    · intro unlisted
      have := h.full m hm unlisted
      omega

/-! ### Raises, falls and acknowledgements (R154 to R157) -/

/-- A removal's relisting replaces one entry taken out (R157). -/
theorem Alu.Lists.relist (h : a.Lists masked up (slack + 1)) : (a.relist ctx).Lists masked up slack := by
  unfold Alu.relist
  rcases nextUnlisted_eq ctx.t10 a with ⟨none, next⟩ | ⟨n, next, mem, -⟩
  · rw [next]
    refine { h with full := fun n within unlisted => ?_ }
    have still := Alu.mem_unlisted.2 ⟨within, unlisted⟩
    rw [none] at still
    exact absurd still List.not_mem_nil
  · obtain ⟨within, unlisted⟩ := Alu.mem_unlisted.1 mem
    have stood := h.stands n within
    rw [unlisted] at stood
    rw [next]
    simp only
    split
    · rename_i room
      have appended := h.append (ctx := ctx) within (h.unmasked within (by rw [unlisted]; decide)) (by rw [unlisted]; rfl) room
      rwa [show true = up n from stood, Function.update_eq_self] at appended
    · rename_i cramped
      exact { h with full := fun _ _ _ => (Nat.le_of_not_lt cramped).trans (Nat.le_add_right _ _) }

/-- A condition raised from QUIET into a full list stands in it or UNLISTED, and so does one that it drives out while that is raised
(R156). -/
theorem Alu.Lists.compete (h : a.Lists masked up 0) (within : n < 60) (open' : masked n = false)
    (quiet : (a.cond n).listing = .quiet) (full : 32 ≤ a.list.length)
    (raised : ∀ m, m ≠ n → masked m = false → (a.cond m).raised = up m) :
    (a.compete ctx n).Lists masked (Function.update up n true) 0 := by
  have left : (a.setListing n .unlisted).Lists masked (Function.update up n true) 0 :=
    h.setListing (l := .unlisted) open' (by rw [quiet]; rfl) fun _ => full
  simp only [Alu.compete]
  split
  · split
    · rename_i e found
      have mem : e ∈ a.list := List.mem_of_find?_eq_some found
      have known := h.listed.known e mem
      have has := (h.listed.entry e.cond known).2 ⟨e, mem, rfl⟩
      have other : e.cond ≠ n := fun same => by
        rw [same, quiet] at has
        exact nomatch has
      have unmasked := h.unmasked known fun q => by rw [q] at has; exact nomatch has
      let out : Listing := if (a.cond e.cond).raised then .unlisted else .quiet
      have stands : out.stands = up e.cond := by
        rw [← raised e.cond other unmasked]
        cases k : (a.cond e.cond).raised <;> simp [out, k, Listing.stands]
      have gone : out.listed = false := by
        cases k : (a.cond e.cond).raised <;> simp [out, k, Listing.listed]
      have evicted := h.takeOut known has gone fun _ => full
      rw [stands, Function.update_eq_self] at evicted
      have missing : (((a.remove e.cond).setListing e.cond out).cond n).listing.listed = false := by
        rw [Alu.setListing_cond (a := a.remove e.cond) h.listed.length _ within, if_neg (Ne.symm other)]
        show (a.cond n).listing.listed = false
        rw [quiet]
        rfl
      have shorter := Alu.remove_shorter mem rfl
      exact evicted.append within open' missing (lt_of_lt_of_le shorter h.listed.fits)
    · exact left
  · exact left

/-- A raise of an unmasked condition makes it stand (R154, R156). -/
theorem Alu.Lists.raise (h : a.Lists masked up 0) (within : n < 60) (open' : masked n = false)
    (raised : ∀ m, m ≠ n → masked m = false → (a.cond m).raised = up m) :
    (a.raiseListing ctx n).Lists masked (Function.update up n true) 0 := by
  have same (stood : up n = true) : a.Lists masked (Function.update up n true) 0 := by
    rwa [show true = up n from stood.symm, Function.update_eq_self]
  have stood := h.stands n within
  unfold Alu.raiseListing
  cases listing : (a.cond n).listing with
  | quiet =>
    simp only
    split
    · exact h.append within open' (by rw [listing]; rfl) ‹_›
    · exact h.compete within open' listing (Nat.le_of_not_lt ‹_›) raised
  | goneNew =>
    have active := h.setListing (l := .activeNew) open' (by rw [listing]; rfl) nofun
    refine ⟨⟨active.listed.length, ?_, active.listed.numbered, ?_, ?_, fun m hm => ?_⟩, ?_, active.stands, active.quiet, ?_⟩
    · simpa [Alu.fitting] using h.listed.fits
    · have conds : (a.list.map fun e => if e.cond = n then { e with count := satInc 255 e.count } else e).map Entry.cond
          = a.list.map Entry.cond := by
        rw [List.map_map]
        refine List.map_congr_left fun e _ => ?_
        simp only [Function.comp_apply]
        split <;> rfl
      exact conds ▸ h.listed.nodup
    · simp only [Alu.setListing_list, List.mem_map]
      rintro _ ⟨e, mem, rfl⟩
      have known := h.listed.known e mem
      split <;> exact known
    · refine (active.listed.entry m hm).trans ?_
      simp only [Alu.setListing_list, List.mem_map, exists_exists_and_eq_and]
      refine exists_congr fun e => and_congr_right fun _ => ?_
      split <;> rfl
    · simp only [Alu.setListing_list, List.mem_map]
      rintro _ ⟨e, mem, rfl⟩
      have counted := h.counted e mem
      split
      · rw [satInc_eq_min]
        show 1 ≤ min 255 (e.count + 1) ∧ min 255 (e.count + 1) ≤ 255
        omega
      · exact counted
    · intro m hm unlisted
      rw [List.length_map]
      exact active.full m hm unlisted
  | activeNew => exact same (stood.symm.trans (by rw [listing]; rfl))
  | activeSeen => exact same (stood.symm.trans (by rw [listing]; rfl))
  | unlisted => exact same (stood.symm.trans (by rw [listing]; rfl))

/-- An entry goes and one UNLISTED condition takes its place (R157). -/
theorem Alu.Lists.replaced (h : a.Lists masked up 0) (within : n < 60) (has : (a.cond n).listing.listed = true) :
    (((a.remove n).setListing n .quiet).relist ctx).Lists masked (Function.update up n false) 0 :=
  (h.takeOut (l := .quiet) within has rfl nofun).relist

/-- A fall leaves the condition standing no more (R154). -/
theorem Alu.Lists.fall (h : a.Lists masked up 0) (within : n < 60) :
    (a.fallListing ctx n).Lists masked (Function.update up n false) 0 := by
  have same (fallen : up n = false) : a.Lists masked (Function.update up n false) 0 := by
    rwa [show false = up n from fallen.symm, Function.update_eq_self]
  have stood := h.stands n within
  unfold Alu.fallListing
  cases listing : (a.cond n).listing with
  | activeNew =>
    exact h.setListing (l := .goneNew) (h.unmasked within (by rw [listing]; decide)) (by rw [listing]; rfl) nofun
  | activeSeen => exact h.replaced within (by rw [listing]; rfl)
  | unlisted => exact h.setListing (l := .quiet) (h.unmasked within (by rw [listing]; decide)) (by rw [listing]; rfl) nofun
  | quiet => exact same (stood.symm.trans (by rw [listing]; rfl))
  | goneNew => exact same (stood.symm.trans (by rw [listing]; rfl))

/-- An acknowledgement leaves what stands (R154, R159). -/
theorem Alu.Lists.acknowledge (h : a.Lists masked up 0) (n : Nat) : (a.acknowledge ctx n).Lists masked up 0 := by
  have same {b : Alu} {v : Bool} (k : b.Lists masked (Function.update up n v) 0) (stood : up n = v) : b.Lists masked up 0 := by
    rwa [← stood, Function.update_eq_self] at k
  unfold Alu.acknowledge
  cases listing : (a.cond n).listing with
  | activeNew =>
    have within := h.listed.within (n := n) (by rw [listing]; decide)
    have seen := h.setListing (l := .activeSeen) (h.unmasked within (by rw [listing]; decide)) (by rw [listing]; rfl) nofun
    exact same seen ((h.stands n within).symm.trans (by rw [listing]; rfl))
  | goneNew =>
    have within := h.listed.within (n := n) (by rw [listing]; decide)
    exact same (h.replaced within (by rw [listing]; rfl)) ((h.stands n within).symm.trans (by rw [listing]; rfl))
  | quiet => exact h
  | activeSeen => exact h
  | unlisted => exact h

theorem Alu.Lists.acknowledgeAll (h : a.Lists masked up 0) (ns : List Nat) : (a.acknowledgeAll ctx ns).Lists masked up 0 := by
  induction ns generalizing a with
  | nil => exact h
  | cons n ns ih => exact ih (h.acknowledge n)

end

end Sys2Proof.Machine
end

section
/-! SUPPORT. Reports, forces and changes of T10 keep the alarm unit's records and its list in agreement (R150, R153, R161). -/

namespace Sys2Proof.Machine

/-! ### The records and the list in agreement -/

/-- What stands in the listing is what is raised and not masked, and no event is raised (R150, R151, R154). -/
structure Alu.Agrees (masked : Nat → Bool) (a : Alu) : Prop where
  lists : a.Lists masked (fun n => a.raised n && !masked n) 0
  calm : ∀ n, n < 60 → (condSpec n).event = true → a.raised n = false

theorem agrees_iff (s : State) : s.alu.Agrees (effMask s.tables.t10) ↔ AlarmsOk s ∧ ListingOk s := by
  constructor
  · rintro ⟨⟨listed, counted, stands, quiet, full⟩, calm⟩
    refine ⟨⟨listed.length, listed.fits⟩, listed.nodup, fun e mem => ⟨listed.known e mem, counted e mem⟩, listed.numbered,
      fun n within => ⟨listed.entry n within, ?_, quiet n within, calm n within, fun unlisted => ?_⟩⟩
    · rw [stands n within, Bool.and_eq_true, Bool.not_eq_true']
    · exact le_antisymm listed.fits (full n within unlisted)
  · rintro ⟨alarms, listing⟩
    have listed := listed_of_listingOk alarms listing
    obtain ⟨-, entries, -, records⟩ := listing
    refine ⟨⟨listed, fun e mem => (entries e mem).2, fun n within => ?_, fun n within => ?_, fun n within => ?_⟩,
      fun n within => ?_⟩
    all_goals obtain ⟨-, stands, masked, event, unlisted⟩ := records n within
    · rw [Bool.eq_iff_iff, stands, Bool.and_eq_true, Bool.not_eq_true']
    · exact masked
    · exact fun k => (unlisted k).ge
    · exact event

section
variable {masked : Nat → Bool} {a : Alu} {n : Nat} {ctx : AluCtx}

theorem Alu.Agrees.of_listingOnly {masked' : Nat → Bool} {b : Alu} (h : a.Agrees masked') (same : ListingOnly a b)
    (lists : b.Lists masked (fun n => a.raised n && !masked n) 0) : b.Agrees masked :=
  ⟨lists.of_up fun n _ => by rw [Alu.raised, Alu.raised, same.raised n],
    fun n within event => (same.raised n).trans (h.calm n within event)⟩

theorem Alu.Agrees.acknowledgeAll (h : a.Agrees masked) (ns : List Nat) : (a.acknowledgeAll ctx ns).Agrees masked :=
  h.of_listingOnly (listingOnly_acknowledgeAll ctx ns a) (h.lists.acknowledgeAll ns)

theorem Alu.Agrees.empty (masked : Nat → Bool) : Alu.reset.Agrees masked := by
  have cond (n : Nat) (within : n < 60) : Alu.reset.cond n = .reset := by
    have record : (List.replicate 60 Cond.reset)[n]? = some .reset := by rw [List.getElem?_replicate, if_pos within]
    exact congrArg (Option.getD · Cond.reset) record
  refine ⟨⟨⟨rfl, Nat.zero_le _, by decide, List.nodup_nil, nofun, fun n within => ?_⟩, nofun, fun n within => ?_,
    fun n within _ => ?_, fun n within => ?_⟩, fun n within _ => ?_⟩
  · rw [cond n within]
    exact ⟨nofun, fun ⟨_, mem, _⟩ => nomatch mem⟩
  all_goals simp only [Alu.raised, cond n within]
  · rfl
  · rfl
  · exact nofun
  · rfl

/-! ### Reports (R150) -/

/-- A report names a condition and treats it as the kind it is: a level or an event (R150, R166). -/
def Report.proper : Report → Bool
  | .level n _ _ => decide (n < 60) && !(condSpec n).event
  | .event n _ => decide (n < 60) && (condSpec n).event

/-- The raw state of one condition becomes `b`; what stands follows where the condition is not masked. -/
theorem raised_setCond (within : n < a.conds.length) (c : Cond) (m : Nat) :
    (a.setCond n c).raised m = if m = n then c.raised else a.raised m := by
  by_cases same : m = n
  · subst same
    rw [if_pos rfl, Alu.raised, Alu.cond_setCond_same a c within]
  · rw [if_neg same, Alu.raised, Alu.cond_setCond_other a c same, Alu.raised]

/-- A change of a record and then of the listing ends in agreement where the listing follows the new raw state. -/
theorem Alu.Agrees.changed {b : Alu} {c : Cond} (h : a.Agrees masked) (within : n < 60)
    (event : (condSpec n).event = true → c.raised = false) (same : ListingOnly (a.setCond n c) b)
    (lists : b.Lists masked (Function.update (fun m => a.raised m && !masked m) n (c.raised && !masked n)) 0) :
    b.Agrees masked := by
  have raised (m : Nat) : b.raised m = if m = n then c.raised else a.raised m :=
    (same.raised m).trans (raised_setCond (h.lists.listed.length.symm ▸ within) c m)
  refine ⟨lists.of_up fun m _ => ?_, fun m hm kind => ?_⟩
  · rw [raised m]
    by_cases e : m = n
    · rw [e, Function.update_self, if_pos rfl]
    · rw [Function.update_of_ne e, if_neg e]
  · rw [raised m]
    split
    · rename_i e
      exact event (e ▸ kind)
    · exact h.calm m hm kind

/-- A masked condition's raw state reaches its record alone (R151). -/
theorem Alu.Agrees.setMasked {c : Cond} (h : a.Agrees masked) (within : n < 60) (mask : masked n = true)
    (event : (condSpec n).event = true → c.raised = false) (listing : c.listing = (a.cond n).listing) :
    (a.setCond n c).Agrees masked := by
  refine h.changed within event (.refl _) ((h.lists.setCond listing).of_up fun m _ => ?_)
  by_cases e : m = n
  · rw [e, Function.update_self, mask, Bool.not_true, Bool.and_false, Bool.and_false]
  · rw [Function.update_of_ne e]

/-- A record whose raw state stands as it was. -/
theorem Alu.Agrees.setCond {c : Cond} (h : a.Agrees masked) (within : n < 60) (raised : c.raised = (a.cond n).raised)
    (listing : c.listing = (a.cond n).listing) : (a.setCond n c).Agrees masked := by
  refine h.changed within (fun event => raised.trans (h.calm n within event)) (.refl _) ?_
  rw [raised]
  exact (Function.update_eq_self n (fun m => a.raised m && !masked m)).symm ▸ h.lists.setCond listing

/-- While one unmasked condition is raised the others stand as they are raised. -/
theorem Alu.Agrees.others (h : a.Agrees masked) (within : n < 60) (c : Cond) :
    ∀ m, m ≠ n → masked m = false → ((a.setCond n c).cond m).raised = (a.raised m && !masked m) := fun m other open' => by
  rw [show ((a.setCond n c).cond m).raised = _ from raised_setCond (h.lists.listed.length.symm ▸ within) c m, if_neg other,
    open', Bool.not_false, Bool.and_true]

theorem Alu.Agrees.raiseLevel (h : a.Agrees (effMask ctx.t10)) (within : n < 60) (level : (condSpec n).event = false)
    (d : Option Nat) : (a.raiseLevel ctx n d).Agrees (effMask ctx.t10) := by
  have kind {p : Prop} (event : (condSpec n).event = true) : p := absurd (level.symm.trans event) (by decide)
  simp only [Alu.raiseLevel]
  split
  · exact h.setCond within rfl rfl
  · split
    · exact h.setMasked within ‹_› kind rfl
    · rename_i open'
      rw [Bool.not_eq_true] at open'
      refine h.changed within kind (listingOnly_raise ctx n _) ?_
      rw [open']
      exact (h.lists.setCond (c := { a.cond n with raised := true, detail := d, forced := false }) rfl).raise within open'
        (h.others within _)

theorem Alu.Agrees.fallLevel (h : a.Agrees (effMask ctx.t10)) (within : n < 60) : (a.fallLevel ctx n).Agrees (effMask ctx.t10) := by
  simp only [Alu.fallLevel]
  split
  · refine h.changed within (fun _ => rfl) (listingOnly_fall ctx n _) ?_
    exact (h.lists.setCond (c := { a.cond n with raised := false }) rfl).fall within
  · exact h

/-- An occasion of a condition that is not raised (R150, R161). -/
theorem Alu.Agrees.occasion (h : a.Agrees (effMask ctx.t10)) (within : n < 60) (down : a.raised n = false) (d : Option Nat)
    (forced : Bool) : (a.occasion ctx n d forced).Agrees (effMask ctx.t10) := by
  unfold Alu.occasion
  split
  · exact h.setCond within rfl rfl
  · rename_i open'
    rw [Bool.not_eq_true] at open'
    refine h.changed (c := { a.cond n with detail := d, forced := forced }) within (fun _ => down)
      ((listingOnly_raise ctx n _).trans (listingOnly_fall ctx n _)) ?_
    have fallen := ((h.lists.setCond (c := { a.cond n with detail := d, forced := forced }) rfl).raise (ctx := ctx) within open'
      (h.others within _)).fall (ctx := ctx) within
    rw [Function.update_idem] at fallen
    rw [show (a.cond n).raised = false from down]
    exact fallen

theorem Alu.Agrees.takeOne {p : Alu × Effect} {r : Report} (h : p.1.Agrees (effMask ctx.t10)) (proper : r.proper = true) :
    (takeOne ctx p r).1.Agrees (effMask ctx.t10) := by
  match r with
  | .level n true d =>
    simp only [Report.proper, Bool.and_eq_true, decide_eq_true_eq, Bool.not_eq_true'] at proper
    exact h.raiseLevel proper.1 proper.2 d
  | .level n false d =>
    simp only [Report.proper, Bool.and_eq_true, decide_eq_true_eq] at proper
    exact h.fallLevel proper.1
  | .event n d =>
    simp only [Report.proper, Bool.and_eq_true, decide_eq_true_eq] at proper
    exact h.occasion proper.1 (h.calm n proper.1 proper.2) d false

/-- An owner's report keeps the agreement (R150). -/
theorem Alu.Agrees.take (h : a.Agrees (effMask ctx.t10)) {rs : List Report} (proper : ∀ r ∈ rs, r.proper = true) :
    (a.take ctx rs).1.Agrees (effMask ctx.t10) := by
  have fold (rs : List Report) (p : Alu × Effect) (h : p.1.Agrees (effMask ctx.t10)) (proper : ∀ r ∈ rs, r.proper = true) :
      (rs.foldl (Machine.takeOne ctx) p).1.Agrees (effMask ctx.t10) := by
    induction rs generalizing p with
    | nil => exact h
    | cons r rs ih =>
      obtain ⟨here, rest⟩ := List.forall_mem_cons.1 proper
      exact ih _ (h.takeOne here) rest
  exact fold _ _ h fun r mem => proper r ((sortReports_perm rs).mem_iff.1 mem)

/-! ### A change of T10 (R153) -/

/-- Entries and listing states of the conditions `ns` dropped (R153). -/
def Alu.dropped (ns : List Nat) (a : Alu) : Alu := ns.foldl (fun a n => (a.remove n).setListing n .quiet) a

theorem dropped_list (ns : List Nat) (a : Alu) : (a.dropped ns).list = a.list.filter (fun e => !ns.contains e.cond) := by
  induction ns generalizing a with
  | nil => exact (List.filter_eq_self.2 fun _ _ => rfl).symm
  | cons n ns ih =>
    refine (ih _).trans ?_
    show (a.list.filter (fun e => e.cond != n)).filter _ = _
    rw [List.filter_filter]
    refine List.filter_congr fun e _ => ?_
    rw [List.contains_cons, Bool.not_or, Bool.and_comm]
    rfl

theorem dropped_listing (ns : List Nat) {a : Alu} (length : a.conds.length = 60) (within : n < 60) :
    ((a.dropped ns).cond n).listing = if ns.contains n then .quiet else (a.cond n).listing := by
  induction ns generalizing a with
  | nil => rfl
  | cons m ns ih =>
    have first : (((a.remove m).setListing m .quiet).cond n).listing = if n = m then .quiet else (a.cond n).listing := by
      rw [Alu.setListing_cond (a := a.remove m) length _ within]
      split <;> rfl
    refine (ih (a := (a.remove m).setListing m .quiet)
      ((listingOnly_setListing (a.remove m) m .quiet).length.trans length)).trans ?_
    rw [first, List.contains_cons]
    by_cases same : n = m <;> simp [same]

theorem listingOnly_dropped (ns : List Nat) (a : Alu) : ListingOnly a (a.dropped ns) :=
  listingOnly_foldl _ (fun a n => (listingOnly_remove n a).trans (listingOnly_setListing _ n _)) ns a

/-- Conditions dropped are masked from then on, and their places are not yet taken (R153). -/
theorem Alu.Agrees.dropped (h : a.Agrees masked) (ns : List Nat) :
    (a.dropped ns).Lists (fun n => masked n || ns.contains n) (fun n => a.raised n && !(masked n || ns.contains n))
      (a.list.filter (fun e => ns.contains e.cond)).length := by
  have list := dropped_list ns a
  have listing {n : Nat} (within : n < 60) := dropped_listing ns h.lists.listed.length within
  have part : (a.dropped ns).list.Sublist a.list := list ▸ List.filter_sublist
  have split : a.list.length = (a.list.filter (fun e => ns.contains e.cond)).length + (a.dropped ns).list.length := by
    rw [list]
    have parts := List.length_eq_length_filter_add (l := a.list) (fun e : Entry => ns.contains e.cond)
    exact parts
  constructor
  · refine ⟨(listingOnly_dropped ns a).length.trans h.lists.listed.length, part.length_le.trans h.lists.listed.fits, ?_,
      h.lists.listed.nodup.sublist (part.map _), fun e mem => h.lists.listed.known e (part.subset mem), fun n within => ?_⟩
    · have seq : ∀ (ns : List Nat) (a : Alu), (a.dropped ns).seq = a.seq := by
        intro ns
        induction ns with
        | nil => exact fun _ => rfl
        | cons n ns ih => exact fun a => ih _
      rw [seq]
      exact h.lists.listed.numbered
    · have stays : (∃ e ∈ (a.dropped ns).list, e.cond = n) ↔ ns.contains n = false ∧ ∃ e ∈ a.list, e.cond = n := by
        rw [list]
        simp only [List.mem_filter, Bool.not_eq_true']
        constructor
        · rintro ⟨e, ⟨mem, other⟩, rfl⟩
          exact ⟨other, e, mem, rfl⟩
        · rintro ⟨other, e, mem, rfl⟩
          exact ⟨e, ⟨mem, other⟩, rfl⟩
      rw [listing within, stays, ← h.lists.listed.entry n within]
      cases ns.contains n <;> simp [Listing.listed]
  · exact fun e mem => h.lists.counted e (part.subset mem)
  · intro n within
    rw [listing within]
    cases ns.contains n
    · simpa using h.lists.stands n within
    · simp [Listing.stands]
  · intro n within mask
    rw [listing within]
    cases k : ns.contains n
    · exact h.lists.quiet n within ((Bool.or_eq_true_iff.1 mask).resolve_right (by rw [k]; decide))
    · rfl
  · intro n within
    rw [listing within]
    cases ns.contains n
    · intro unlisted
      have := h.lists.full n within unlisted
      omega
    · exact nofun

/-- Each removal is followed by one relisting (R157). -/
theorem Alu.Lists.relists {up : Nat → Bool} (es : List Entry) (h : a.Lists masked up es.length) :
    (es.foldl (fun a _ => a.relist ctx) a).Lists masked up 0 := by
  induction es generalizing a with
  | nil => exact h
  | cons e es ih => exact ih h.relist

/-- Raised conditions are unmasked one after another; the rest of them are still masked (R153). -/
theorem Alu.Agrees.unmasks (ns : List Nat) (nodup : ns.Nodup) (known : ∀ n ∈ ns, n < 60) (raised : ∀ n ∈ ns, a.raised n = true)
    (h : a.Agrees (fun n => masked n || ns.contains n)) (open' : ∀ n ∈ ns, masked n = false) :
    (ns.foldl (fun a n => a.raiseListing ctx n) a).Agrees masked := by
  induction ns generalizing a with
  | nil => simpa using h
  | cons n ns ih =>
    obtain ⟨fresh, distinct⟩ := List.nodup_cons.1 nodup
    obtain ⟨within, known⟩ := List.forall_mem_cons.1 known
    obtain ⟨up, raised⟩ := List.forall_mem_cons.1 raised
    obtain ⟨here, open'⟩ := List.forall_mem_cons.1 open'
    have same := listingOnly_raise ctx n a
    have next : (masked n || ns.contains n) = false := by simp [here, fresh]
    have fewer : a.Lists (fun m => masked m || ns.contains m) (fun m => a.raised m && !(masked m || (n :: ns).contains m)) 0 :=
      h.lists.of_masked fun m _ mask => by
        rcases Bool.or_eq_true_iff.1 mask with k | k
        · rw [k, Bool.true_or]
        · rw [List.contains_cons, k, Bool.or_true, Bool.or_true]
    have others (m : Nat) (other : m ≠ n) (k : (masked m || ns.contains m) = false) :
        (a.cond m).raised = (a.raised m && !(masked m || (n :: ns).contains m)) := by
      rw [List.contains_cons, beq_false_of_ne other, Bool.false_or, k, Bool.not_false, Bool.and_true]
      rfl
    refine ih (a := a.raiseListing ctx n) distinct known (fun m mem => (same.raised m).trans (raised m mem)) ?_ open'
    refine h.of_listingOnly same ((fewer.raise (ctx := ctx) within next others).of_up fun m _ => ?_)
    by_cases e : m = n
    · rw [e, Function.update_self, next, up]
      rfl
    · rw [Function.update_of_ne e, List.contains_cons, beq_false_of_ne e, Bool.false_or]

/-- The conditions that a change of T10 masks, and those that it unmasks while they are raised (R153). -/
def newlyMasked (old new : Table) : List Nat :=
  (List.range Config.conditionCount).filter (fun n => !effMask old n && effMask new n)

def Alu.newlyUnmasked (old new : Table) (a : Alu) : List Nat :=
  (List.range Config.conditionCount).filter (fun n => effMask old n && !effMask new n && !(condSpec n).event && (a.cond n).raised)

/-- The list after a change of T10 has dropped what it masks and relisted what found a place (R153). -/
def Alu.remasked (old new : Table) (cycle : Nat) (a : Alu) : Alu :=
  (a.list.filter (fun e => (newlyMasked old new).contains e.cond)).foldl (fun a _ => a.relist ⟨new, cycle⟩)
    (a.dropped (newlyMasked old new))

theorem retable_eq (old new : Table) (cycle : Nat) (a : Alu) : a.retable old new cycle
    = ((a.remasked old new cycle).newlyUnmasked old new).foldl (fun a n => a.raiseListing ⟨new, cycle⟩ n)
        (a.remasked old new cycle) := rfl

theorem newlyMasked_contains {old new : Table} {n : Nat} (within : n < 60) :
    (newlyMasked old new).contains n = (!effMask old n && effMask new n) := by
  rw [Bool.eq_iff_iff, List.contains_iff_mem, newlyMasked, List.mem_filter, List.mem_range]
  exact and_iff_right within

theorem newlyUnmasked_contains {old new : Table} {n : Nat} (within : n < 60) :
    (a.newlyUnmasked old new).contains n = (effMask old n && !effMask new n && !(condSpec n).event && a.raised n) := by
  rw [Bool.eq_iff_iff, List.contains_iff_mem, Alu.newlyUnmasked, List.mem_filter, List.mem_range]
  exact and_iff_right within

/-- A change of T10 keeps the agreement, under its new masks (R153). -/
theorem Alu.Agrees.retable {old new : Table} (h : a.Agrees (effMask old)) (cycle : Nat) :
    (a.retable old new cycle).Agrees (effMask new) := by
  have relisted := (h.dropped (newlyMasked old new)).relists (ctx := ⟨new, cycle⟩)
    (a.list.filter (fun e => (newlyMasked old new).contains e.cond))
  have same : ListingOnly a (a.remasked old new cycle) := (listingOnly_dropped _ a).trans
    (listingOnly_foldl _ (fun a _ => listingOnly_relist ⟨new, cycle⟩ a) _ _)
  have before := h.of_listingOnly same relisted
  rw [retable_eq]
  generalize a.remasked old new cycle = b at before
  have unmasked {n : Nat} (mem : n ∈ b.newlyUnmasked old new) := List.mem_filter.1 mem
  refine Alu.Agrees.unmasks _ (List.nodup_range.filter _) (fun n mem => List.mem_range.1 (unmasked mem).1)
    (fun n mem => (Bool.and_eq_true_iff.1 (unmasked mem).2).2) ?_ fun n mem => ?_
  · refine before.of_listingOnly (.refl b) ((before.lists.of_masked fun n within mask => ?_).of_up fun n within => ?_)
    · rw [newlyUnmasked_contains within] at mask
      rw [newlyMasked_contains within]
      cases o : effMask old n <;> cases m : effMask new n <;> simp_all
    · rw [newlyUnmasked_contains within, newlyMasked_contains within]
      have level := before.calm n within
      cases effMask old n <;> cases effMask new n <;> cases k : b.raised n <;> cases e : (condSpec n).event <;> simp_all
  · have tests := (unmasked mem).2
    simp only [Bool.and_eq_true, Bool.not_eq_true'] at tests
    exact tests.1.1.2

end

/-! ### The count of entries (R154) -/

/-- Every condition that is neither QUIET nor masked has an entry or is UNLISTED (R154). -/
theorem listed_count {s : State} (h : ListingOk s) : s.alu.list.length + s.alu.unlistedCount
    = ((List.range 60).filter (fun n => (s.alu.cond n).listing != .quiet && !effMask s.tables.t10 n)).length := by
  obtain ⟨nodup, entries, -, records⟩ := h
  have listed : s.alu.list.length = (List.range 60).countP (fun n => (s.alu.cond n).listing.listed) := by
    have same : (s.alu.list.map Entry.cond).Perm ((List.range 60).filter (fun n => (s.alu.cond n).listing.listed)) := by
      refine (List.perm_ext_iff_of_nodup nodup (List.nodup_range.filter _)).2 fun n => ?_
      rw [List.mem_map, List.mem_filter, List.mem_range]
      constructor
      · rintro ⟨e, mem, rfl⟩
        exact ⟨(entries e mem).1, (records _ (entries e mem).1).1.2 ⟨e, mem, rfl⟩⟩
      · rintro ⟨within, has⟩
        exact (records n within).1.1 has
    rw [← List.length_map (f := Entry.cond), same.length_eq, List.countP_eq_length_filter]
  have unlisted : s.alu.unlistedCount = (List.range 60).countP (fun n => (s.alu.cond n).listing == .unlisted) :=
    List.countP_eq_length_filter.symm
  have split : ∀ n ∈ List.range 60, ((s.alu.cond n).listing != .quiet && !effMask s.tables.t10 n)
      = ((s.alu.cond n).listing.listed || (s.alu.cond n).listing == .unlisted) := by
    intro n mem
    obtain ⟨-, -, masked, -⟩ := records n (List.mem_range.1 mem)
    cases mask : effMask s.tables.t10 n
    · cases (s.alu.cond n).listing <;> rfl
    · rw [masked mask]
      rfl
  rw [listed, unlisted, List.filter_congr split, ← List.countP_eq_length_filter]
  generalize List.range 60 = ns
  induction ns with
  | nil => rfl
  | cons n ns ih =>
    rw [List.countP_cons, List.countP_cons, List.countP_cons, ← ih]
    cases (s.alu.cond n).listing <;> simp [Listing.listed] <;> omega

end Sys2Proof.Machine
end

section
/-! SUPPORT. Every owner's report names conditions and treats each as the kind it is, a level or an event (R150, R166). -/

namespace Sys2Proof.Machine

/-- Every report of a list is proper. -/
def ProperReports (rs : List Report) : Prop := ∀ r ∈ rs, r.proper = true

@[simp] theorem properReports_nil : ProperReports [] := nofun

@[simp] theorem properReports_cons (r : Report) (rs : List Report) :
    ProperReports (r :: rs) ↔ r.proper = true ∧ ProperReports rs := List.forall_mem_cons

@[simp] theorem properReports_append (rs qs : List Report) : ProperReports (rs ++ qs) ↔ ProperReports rs ∧ ProperReports qs :=
  List.forall_mem_append

/-- A report for each drive group is proper where each of them is. -/
theorem properReports_drives {f : Drive → Report} (h : ∀ g, (f g).proper = true) : ProperReports (Drive.all.map f) := fun r mem => by
  obtain ⟨g, -, rfl⟩ := List.mem_map.1 mem
  exact h g

/-! ### The conditions, each as its kind (R166) -/

section
variable (b : Bool) (x : Option Nat)

@[simp] theorem proper_cmdLost (a : Axis) : (Report.level (cCmdLost a) b x).proper = true := by cases a <;> rfl
@[simp] theorem proper_trackFault (a : Axis) : (Report.level (cTrackFault a) b x).proper = true := by cases a <;> rfl
@[simp] theorem proper_doubtful (d : Drive) : (Report.level (cDoubtful d) b x).proper = true := by cases d <;> rfl
@[simp] theorem proper_overspeed (a : Axis) : (Report.level (cOverspeed a) b x).proper = true := by cases a <;> rfl
@[simp] theorem proper_noiseBurst (a : Axis) : (Report.event (cNoiseBurst a) x).proper = true := by cases a <;> rfl
@[simp] theorem proper_learnFail : (Report.event cLearnFail x).proper = true := rfl
@[simp] theorem proper_payoutRange (d : Drum) : (Report.level (cPayoutRange d) b x).proper = true := by cases d <;> rfl
@[simp] theorem proper_unresolved (d : Drive) : (Report.level (cUnresolved d) b x).proper = true := by cases d <;> rfl
@[simp] theorem proper_memberLost (d : Drive) : (Report.level (cMemberLost d) b x).proper = true := by cases d <;> rfl
@[simp] theorem proper_groupDead (d : Drive) : (Report.level (cGroupDead d) b x).proper = true := by cases d <;> rfl
@[simp] theorem proper_brakeWorn (d : Drive) : (Report.level (cBrakeWorn d) b x).proper = true := by cases d <;> rfl
@[simp] theorem proper_brakeFailed (d : Drive) : (Report.level (cBrakeFailed d) b x).proper = true := by cases d <;> rfl
@[simp] theorem proper_headingUnconfirmed : (Report.level cHeadingUnconfirmed b x).proper = true := rfl
@[simp] theorem proper_walkDenied : (Report.event cWalkDenied x).proper = true := rfl
@[simp] theorem proper_transferTimeout : (Report.event cTransferTimeout x).proper = true := rfl
@[simp] theorem proper_shoeMismatch : (Report.level cShoeMismatch b x).proper = true := rfl
@[simp] theorem proper_shoeDisagree : (Report.level cShoeDisagree b x).proper = true := rfl
@[simp] theorem proper_walkInterlock : (Report.level cWalkInterlock b x).proper = true := rfl
@[simp] theorem proper_loopSilent : (Report.level cLoopSilent b x).proper = true := rfl
@[simp] theorem proper_badFrame : (Report.event cBadFrame x).proper = true := rfl
@[simp] theorem proper_discreteStale : (Report.level cDiscreteStale b x).proper = true := rfl
@[simp] theorem proper_estop : (Report.level cEstop b x).proper = true := rfl
@[simp] theorem proper_boomLimit : (Report.level cBoomLimit b x).proper = true := rfl
@[simp] theorem proper_hoistTopLimit : (Report.level cHoistTopLimit b x).proper = true := rfl
@[simp] theorem proper_dragInLimit : (Report.level cDragInLimit b x).proper = true := rfl
@[simp] theorem proper_tightline : (Report.level cTightline b x).proper = true := rfl
@[simp] theorem proper_swingAtEdge : (Report.level cSwingAtEdge b x).proper = true := rfl
@[simp] theorem proper_insideForbidden : (Report.level cInsideForbidden b x).proper = true := rfl
@[simp] theorem proper_contactorConflict : (Report.level cContactorConflict b x).proper = true := rfl

theorem proper_external {k : Nat} (h : k < 6) : (Report.level (cExternal k) b x).proper = true := by
  rcases k with _ | _ | _ | _ | _ | _ | k
  all_goals first | rfl | omega

end

/-! ### The sequencer (R135 to R147) -/

section
variable (s : State)

theorem proper_shoesFall : ProperReports shoesFall := by simp [shoesFall]

theorem proper_enterWalkReady : ProperReports (enterWalkReady s).2 := proper_shoesFall

theorem proper_enterClosingWalk : ProperReports (enterClosingWalk s).2 := by
  simp only [enterClosingWalk]
  split
  · exact proper_shoesFall
  · exact properReports_nil

theorem proper_beginReturn : ProperReports (beginReturn s).2 := by
  simp only [beginReturn]
  split <;> simp

theorem proper_openDrag : ProperReports (openDrag s).2 := by
  simp only [openDrag]
  split
  · exact proper_enterClosingWalk _
  · exact properReports_nil

theorem proper_endOffPark : ProperReports (endOffPark s).2 := by
  simp only [endOffPark]
  split
  · split
    · simp [proper_enterWalkReady]
    · simp [proper_enterWalkReady, proper_beginReturn]
  · exact proper_shoesFall

theorem proper_reactToGroups : ProperReports (reactToGroups s).2 := by
  unfold reactToGroups
  split
  · split
    · exact proper_openDrag s
    · exact properReports_nil
  · split
    · exact proper_endOffPark s
    · exact properReports_nil
  · split
    · exact proper_endOffPark s
    · exact properReports_nil
  · exact properReports_nil

theorem proper_reactToSummary : ProperReports (reactToSummary s).2 := by
  unfold reactToSummary
  split
  · unfold settle
    split
    · exact properReports_nil
    · exact proper_enterWalkReady s
    all_goals exact properReports_nil
  · split
    · exact proper_enterClosingWalk s
    · exact properReports_nil
  · split
    · exact proper_enterWalkReady s
    · exact properReports_nil
  · split <;> exact properReports_nil
  · split <;> exact properReports_nil
  all_goals exact properReports_nil

theorem proper_park : ProperReports (park s).2 := by
  simp only [park]
  split
  · simp [proper_enterWalkReady, proper_beginReturn]
  · exact proper_shoesFall

theorem proper_takeCam (c : Int) (ch : ChanState) : ProperReports (takeCam c ch s).2 := by
  simp only [takeCam]
  split
  · exact proper_park _
  · exact properReports_nil

theorem proper_digEdge : ProperReports (digEdge s).2 := by
  unfold digEdge
  split
  case h_8 =>
    split
    · simp
    · exact proper_beginReturn s
  all_goals exact properReports_nil

theorem proper_walkEdge : ProperReports (walkEdge s).2 := by
  unfold walkEdge
  split
  · simp only [walkRequest]
    split
    · simp
    · split
      · exact proper_openDrag _
      · exact properReports_nil
  all_goals exact properReports_nil

theorem proper_takeSelector (sel : Selector) : ProperReports (takeSelector sel s).2 := by
  simp only [takeSelector]
  split
  · exact proper_walkEdge _
  · exact proper_digEdge _
  · exact properReports_nil

theorem proper_takeInputs (inputs : BitVec 32) : ProperReports (takeInputs inputs s).2 := by
  simp only [takeInputs]
  split
  · simp
  · split <;> simp

theorem proper_transferMarker : ProperReports (transferMarker s).2 := by
  simp only [transferMarker]
  split
  · split
    · split <;> simp
    · exact properReports_nil
  · exact properReports_nil

theorem proper_shoeMarker : ProperReports (shoeMarker s).2 := by
  simp only [shoeMarker]
  split
  · refine (properReports_append _ _).2 ⟨?_, ?_⟩
    · split
      · simp
      · split <;> simp
    · split
      · simp
      · split <;> simp
  · exact properReports_nil

end

/-! ### The position, swing and drive group units -/

theorem proper_rangeReport (d : Drum) (u : Int) : (rangeReport d u).proper = true := by
  unfold rangeReport
  split
  · simp
  · split <;> simp

theorem proper_doubtReport (p : Pos) (d : Drive) : (doubtReport p d).proper = true := proper_doubtful _ _ d

theorem proper_insideReport (t6 : Table) (inside : List Nat) : (insideReport t6 inside).proper = true := by
  unfold insideReport
  split <;> simp

theorem proper_edgeReport (cs : List (Nat × Option Int × Option Int)) : (edgeReport cs).proper = true := by
  unfold edgeReport
  split <;> simp

theorem proper_frameReports (g : Axis) (s : State) : ProperReports (frameReports g s) := by
  cases g
  case swing =>
    simp only [frameReports]
    split
    · exact properReports_nil
    · simp [proper_edgeReport]
  all_goals simp [frameReports]

theorem proper_driveReports (d : Dgu) : ProperReports (driveReports d) := by
  have unresolved (g : Drive) : (unresolvedReport d g).proper = true := by
    unfold unresolvedReport
    split <;> simp
  have lost (g : Drive) : (memberLostReport d g).proper = true := by
    unfold memberLostReport
    split <;> simp
  have conflict : (conflictReport d).proper = true := by
    unfold conflictReport
    split <;> simp
  simp only [driveReports, properReports_append, properReports_cons, properReports_nil, and_true]
  exact ⟨⟨⟨properReports_drives unresolved, properReports_drives lost⟩, properReports_drives fun g => proper_groupDead _ _ g⟩,
    conflict⟩

theorem proper_staleReport (i : Image) : (staleReport i).proper = true := proper_discreteStale _ _

theorem proper_loadReports (d : Dgu) : ProperReports (loadReports d) := by
  have external : ProperReports ((List.range 6).map fun k => Report.level (cExternal k) (d.image.inputs.getLsbD (18 + k)) none) :=
    fun r mem => by
      obtain ⟨k, range, rfl⟩ := List.mem_map.1 mem
      exact proper_external _ _ (List.mem_range.1 range)
  simp only [loadReports, properReports_append]
  exact ⟨⟨⟨⟨by simp [proper_staleReport], properReports_drives fun g => proper_brakeWorn _ _ g⟩,
    properReports_drives fun g => proper_brakeFailed _ _ g⟩, by simp⟩, external⟩

theorem proper_posReports : ProperReports posReports := by
  simp only [posReports, properReports_append]
  exact ⟨properReports_drives fun d => proper_doubtful _ _ d, by simp⟩

/-! ### The tracking channels (R4 to R29) -/

section
variable (ctx : ChanCtx) {r : Run}

theorem proper_completeLearning (p : Option Pair) (h : ProperReports r.reports) :
    ProperReports (completeLearning ctx p r).reports := by
  simp only [completeLearning]
  split
  · split
    · simp [Run.say, h]
    · exact h
  · simp [Run.say, h]

theorem proper_indexEvent (w : Wrap) (p : Option Pair) (h : ProperReports r.reports) :
    ProperReports (indexEvent ctx w p r).reports := by
  unfold indexEvent
  split
  case h_4 => exact proper_completeLearning ctx p h
  all_goals exact h

theorem proper_enterFault (cause : Cause) (h : ProperReports r.reports) : ProperReports (enterFault ctx cause r).reports := by
  simp only [enterFault, faultLearning]
  split <;> simp [Run.say, h]

theorem proper_coastStep (h : ProperReports r.reports) : ProperReports (coastStep ctx r).reports := by
  simp only [coastStep]
  split
  · exact proper_indexEvent ctx _ none h
  · exact h

theorem proper_coast (n : Nat) (h : ProperReports r.reports) : ProperReports (coast ctx n r).reports := by
  induction n generalizing r with
  | zero => exact h
  | succ n ih => exact ih (proper_coastStep ctx h)

theorem proper_loopUpdate (p : Pair) (theta : Int) (h : ProperReports r.reports) :
    ProperReports (loopUpdate ctx p theta r).reports := by
  have folded (q : Run) (k : ProperReports q.reports) : ProperReports
      (if q.chan.learn = .gathering then { q with chan := { q.chan with acc := foldPair p q.chan.acc } } else q).reports := by
    split <;> exact k
  have said (c : Channel) (b : Bool) : ProperReports (Run.say { r with chan := c } (.level (cOverspeed ctx.axis) b none)).reports := by
    simp [Run.say, h]
  simp only [loopUpdate]
  split
  · exact proper_indexEvent ctx _ _ (folded _ (said _ _))
  · exact folded _ (said _ _)

theorem proper_acquire (p : Pair) (theta : Int) (h : ProperReports r.reports) :
    ProperReports (acquire ctx p theta r).reports := by
  simp [acquire, Run.say, h]

theorem proper_tryAcquire (d : SampleData) (h : ProperReports r.reports) : ProperReports (tryAcquire ctx d r).reports := by
  simp only [tryAcquire]
  split
  · exact proper_enterFault ctx _ h
  · split
    · exact proper_enterFault ctx _ h
    · exact proper_acquire ctx _ _ h

theorem proper_tryRecover (d : SampleData) (h : ProperReports r.reports) : ProperReports (tryRecover ctx d r).reports := by
  unfold tryRecover
  split
  · exact proper_enterFault ctx _ h
  · exact proper_acquire ctx _ _ h

theorem proper_acceptPair (p : Pair) (h : ProperReports r.reports) : ProperReports (acceptPair ctx p r).reports := by
  simp only [acceptPair]
  split
  · exact proper_enterFault ctx _ h
  · split
    · exact proper_enterFault ctx _ h
    · exact proper_loopUpdate ctx p _ h

theorem proper_trackPair (d : SampleData) (h : ProperReports r.reports) : ProperReports (trackPair ctx d r).reports := by
  simp only [trackPair]
  split
  · exact proper_enterFault ctx _ h
  · split
    · exact proper_acceptPair ctx _ (by simp [Run.say, h])
    · split
      · exact proper_coastStep ctx h
      · exact proper_acceptPair ctx _ h

theorem proper_takeSample (d : SampleData) (c : Channel) : ProperReports (takeSample ctx d c).run.reports := by
  simp only [takeSample]
  split
  · exact properReports_nil
  · split
    · exact proper_tryAcquire ctx d properReports_nil
    · exact proper_tryRecover ctx d properReports_nil
    all_goals
      split
      · exact proper_tryAcquire ctx d properReports_nil
      · exact proper_trackPair ctx d (proper_coast ctx _ properReports_nil)

theorem proper_markChannel (c : Channel) : ProperReports (markChannel ctx c).reports := by
  simp only [markChannel]
  split
  · exact proper_enterFault ctx _ properReports_nil
  · exact properReports_nil

end

end Sys2Proof.Machine
end

section
/-! SUPPORT. What work on the device keeps of the alarm unit (R150 to R163): the capacity of the list, the agreement of records and list,
no ACTIVE group under a STOP, and what the ALU has handed on. A report settles the last two afresh. -/

namespace Sys2Proof.Machine

/-- What work on the device keeps: the alarm list's capacity and agreement (R154), the groups inactive under a STOP (R162), and the
severities and the TRIP handed on (R162, R163). -/
structure AlarmsKept (s t : State) : Prop where
  capacity : AlarmsOk s → AlarmsOk t
  listing : AlarmsOk s → ListingOk s → ListingOk t
  severity : SeverityOk s → SeverityOk t
  handed : HandedOk s → HandedOk t

theorem AlarmsKept.none {s : State} : AlarmsKept s s := ⟨id, fun _ => id, id, id⟩

theorem AlarmsKept.trans {s t u : State} (h : AlarmsKept s t) (k : AlarmsKept t u) : AlarmsKept s u :=
  ⟨fun ok => k.capacity (h.capacity ok), fun ok listing => k.listing (h.capacity ok) (h.listing ok listing),
    fun ok => k.severity (h.severity ok), fun ok => k.handed (h.handed ok)⟩

/-- T10 as the alarm unit reads it: the masks and the severities it gives (R151). -/
structure SameAlarmTable (old new : Table) : Prop where
  mask : effMask new = effMask old
  severity : effSeverity new = effSeverity old

theorem SameAlarmTable.refl (t10 : Table) : SameAlarmTable t10 t10 := ⟨rfl, rfl⟩

/-- A table that is not LIVE gives the defaults and no mask (R151). -/
theorem sameAlarmTable_of_dead {old new : Table} (before : old.state ≠ .live) (after : new.state ≠ .live) :
    SameAlarmTable old new := by
  constructor <;> funext n
  · unfold effMask
    cases k : new.state <;> cases j : old.state <;> simp_all
  · unfold effSeverity
    cases k : new.state <;> cases j : old.state <;> simp_all

/-- Work apart from the ALU, the part mode and the standing TRIP that makes no group ACTIVE. -/
theorem alarmsKept_of_same {s t : State} (t10 : SameAlarmTable s.tables.t10 t.tables.t10) (alu : t.alu = s.alu)
    (mode : t.mgu.mode = s.mgu.mode) (trip : t.mgu.tripStanding = s.mgu.tripStanding)
    (active : ∀ g, (t.group g).state = .active → (s.group g).state = .active) : AlarmsKept s t := by
  obtain ⟨mask, severity⟩ := t10
  refine ⟨fun ok => ?_, fun _ ok => ?_, fun ok g moves => ?_, fun ok => ?_⟩
  · rwa [AlarmsOk, alu]
  · rw [ListingOk, alu, mask]
    exact ok
  · rw [alu]
    exact ok g (active g moves)
  · have standing : s.alu.standing t.tables.t10 = s.alu.standing s.tables.t10 := by
      funext n
      simp only [Alu.standing, mask]
    simp only [HandedOk, alu, mode, trip, Alu.groupSeverities, Alu.groupSeverity, Alu.tripStanding, standing, severity]
    exact ok

section
variable {s t u : State}

/-- Work that leaves the ALU, the tables, the groups and the MGU's mode and TRIP. -/
theorem AlarmsKept.apart (k : AlarmsKept s t) (alu : u.alu = t.alu) (t10 : u.tables.t10 = t.tables.t10)
    (mode : u.mgu.mode = t.mgu.mode) (trip : u.mgu.tripStanding = t.mgu.tripStanding) (groups : u.groups = t.groups) :
    AlarmsKept s u :=
  k.trans (alarmsKept_of_same (t10 ▸ .refl _) alu mode trip fun g => by simp only [State.group, groups, imp_self])

/-- One group's record changed and not made ACTIVE. -/
theorem AlarmsKept.setGroup {r : Group} (g : Axis) (k : AlarmsKept s t) (active : r.state = .active → (t.group g).state = .active) :
    AlarmsKept s (t.setGroup g r) := by
  refine k.trans (alarmsKept_of_same (.refl _) rfl rfl rfl fun x moves => ?_)
  by_cases e : x = g
  · subst e
    rw [State.setGroup_same] at moves
    exact active moves
  · rwa [State.setGroup_other t r e] at moves

theorem AlarmsKept.stopGroup (g : Axis) (k : AlarmsKept s t) : AlarmsKept s (t.stopGroup g) :=
  k.setGroup g (reacts_stop _).active

theorem alarmsKept_stopGroups (gs : List Axis) (k : AlarmsKept s t) : AlarmsKept s (t.stopGroups gs) := by
  induction gs generalizing t with
  | nil => exact k
  | cons g gs ih => exact ih (k.stopGroup g)

/-! ### Reports -/

/-- The severities handed on are no part of the list and the records. -/
theorem agrees_withSeverity {masked : Nat → Bool} {a : Alu} (h : a.Agrees masked) (x : PerAxis (Option Severity)) :
    { a with severity := x }.Agrees masked :=
  ⟨h.lists.of_same rfl rfl rfl fun _ _ => rfl, h.calm⟩

theorem agrees_aluTake {rs : List Report} (h : s.alu.Agrees (effMask s.tables.t10)) (proper : ProperReports rs) :
    (aluTake rs s).alu.Agrees (effMask (aluTake rs s).tables.t10) := by
  rw [(reacts_aluTake rs s).tables, aluTake_alu]
  exact agrees_withSeverity (h.take (ctx := s.aluCtx) proper) _

theorem agrees_report {rs : List Report} (h : s.alu.Agrees (effMask s.tables.t10)) (proper : ProperReports rs) :
    (report rs s).alu.Agrees (effMask (report rs s).tables.t10) := by
  have taken := agrees_aluTake h proper
  have reacted : (reactToGroups (aluTake rs s)).1.alu.Agrees (effMask (reactToGroups (aluTake rs s)).1.tables.t10) := by
    rw [reactToGroups_alu, (reacts_reactToGroups _).tables]
    exact taken
  have own := proper_reactToGroups (aluTake rs s)
  simp only [report]
  split
  · exact reacted
  · exact agrees_aluTake reacted own

theorem handedOk_report (rs : List Report) (s : State) : HandedOk (report rs s) := by
  simp only [report]
  split
  · exact (handedOk_aluTake rs s).of_same (reactToGroups_alu _) (reacts_reactToGroups _).tables (reactToGroups_mgu _)
  · exact handedOk_aluTake _ _

theorem severityOk_report (rs : List Report) (s : State) : SeverityOk (report rs s) := fun g active =>
  Bool.eq_false_iff.2 fun stopped => report_stops rs s g stopped active

/-- A report on a device whose list and records agree where they agreed before. -/
theorem alarmsKept_reported {rs : List Report} (proper : ProperReports rs) (capacity : AlarmsOk s → AlarmsOk t)
    (listing : AlarmsOk s → ListingOk s → ListingOk t) : AlarmsKept s (report rs t) where
  capacity := fun ok => ⟨(report_length rs t).trans (capacity ok).1, report_fitting rs t (capacity ok).2⟩
  listing := fun ok agrees =>
    ((agrees_iff _).1 (agrees_report ((agrees_iff t).2 ⟨capacity ok, listing ok agrees⟩) proper)).2
  severity := fun _ => severityOk_report rs t
  handed := fun _ => handedOk_report rs t

/-- A report made after work apart from the ALU and T10 (R150). -/
theorem AlarmsKept.report {rs : List Report} (k : AlarmsKept s t) (proper : ProperReports rs) (alu : u.alu = t.alu)
    (t10 : u.tables.t10 = t.tables.t10) : AlarmsKept s (report rs u) :=
  k.trans (alarmsKept_reported proper (fun ok => by rwa [AlarmsOk, alu]) fun _ ok => by rwa [ListingOk, alu, t10])

/-- A move of the sequencer, settled: it reaches the ALU by its reports alone. -/
theorem AlarmsKept.settleMove {m : Move} (k : AlarmsKept s t) (proper : ProperReports m.2) (alu : m.1.alu = t.alu)
    (t10 : m.1.tables.t10 = t.tables.t10) : AlarmsKept s (settleMove m) := k.report proper alu t10

theorem alarmsKept_acknowledged (ns : List Nat) (k : AlarmsKept s u) : AlarmsKept s (acknowledged ns u) := by
  refine k.trans (alarmsKept_reported properReports_nil (fun ok => ?_) fun ok listing => ?_)
  · exact ⟨(listingOnly_acknowledgeAll u.aluCtx ns u.alu).length.trans ok.1, fitting_acknowledgeAll u.aluCtx ns ok.2⟩
  · have agrees := ((agrees_iff u).2 ⟨ok, listing⟩).acknowledgeAll (ctx := u.aluCtx) ns
    exact ((agrees_iff (u.withAlu (u.alu.acknowledgeAll u.aluCtx ns))).1 agrees).2

/-- A change of T10, `old` before it (R153). -/
theorem alarmsKept_severitiesChanged {v : State} (k : AlarmsKept s u) (alu : v.alu = u.alu) :
    AlarmsKept s (severitiesChanged u.tables.t10 v) := by
  refine k.trans (alarmsKept_reported properReports_nil (fun ok => ?_) fun ok listing => ?_)
  · have ok : AlarmsOk v := by rwa [AlarmsOk, alu]
    exact ⟨(listingOnly_retable _ _ _ v.alu).length.trans ok.1, fitting_retable _ _ _ ok.2⟩
  · have agrees := ((agrees_iff u).2 ⟨ok, listing⟩).retable (new := v.tables.t10) v.lpu.lastCycle
    rw [← alu] at agrees
    exact ((agrees_iff (v.withAlu (v.alu.retable u.tables.t10 v.tables.t10 v.lpu.lastCycle))).1 agrees).2

/-! ### CAB -/

theorem walkEdge_alu (s : State) : (walkEdge s).1.alu = s.alu := by
  unfold walkEdge
  split
  · simp only [walkRequest]
    split
    · rfl
    · split
      · rw [openDrag_alu, force_alu]
        rfl
      · rw [force_alu]
        rfl
  all_goals rfl

theorem digEdge_alu (s : State) : (digEdge s).1.alu = s.alu := by
  unfold digEdge
  split
  case h_5 => exact enterClosingDrag_alu _
  case h_6 | h_7 => exact enterOpeningWalk_alu s
  case h_8 =>
    split
    · rfl
    · exact beginReturn_alu s
  all_goals rfl

theorem takeSelector_alu (sel : Selector) (s : State) : (takeSelector sel s).1.alu = s.alu := by
  simp only [takeSelector]
  split
  · exact walkEdge_alu _
  · exact digEdge_alu _
  · rfl

theorem takeSelector_tables (sel : Selector) (s : State) : (takeSelector sel s).1.tables = s.tables := by
  simp only [takeSelector]
  split
  · obtain ⟨w, reacts, -⟩ := walkEdge_reacts (s.withWsq { s.wsq with selector := some .walk })
    exact reacts.tables
  · exact (reacts_digEdge _).tables
  · rfl

theorem alarmsKept_takeConfirm (pressed : Bool) (k : AlarmsKept s u) : AlarmsKept s (takeConfirm pressed u) := by
  simp only [takeConfirm]
  split
  · exact k.report (by simp) rfl rfl
  · exact k.apart rfl rfl rfl rfl rfl

theorem alarmsKept_takeAckPush (pressed : Bool) (k : AlarmsKept s u) : AlarmsKept s (takeAckPush pressed u) := by
  have noted : AlarmsKept s (u.withAlu { u.alu with lastAck := some pressed }) := k.trans ⟨id, fun _ => id, id, id⟩
  simp only [takeAckPush]
  split
  · exact alarmsKept_acknowledged _ noted
  · exact noted

/-- A reset edge takes every group to HELD, and brings STANDBY only while no TRIP stands (R183). -/
theorem alarmsKept_takeResetPush (pressed : Bool) (k : AlarmsKept s u) : AlarmsKept s (takeResetPush pressed u) := by
  simp only [takeResetPush]
  split
  · rename_i leaves
    have calm : u.mgu.tripStanding = false := by
      simp only [mayLeaveHalted, Bool.and_eq_true, Bool.not_eq_true'] at leaves
      exact leaves.2.1.2
    refine k.trans ⟨id, fun _ => id, fun _ g active => ?_, fun ok => ⟨ok.1, ok.2.1, fun trip => ?_⟩⟩
    · have held : ((u.groups.map Group.hold).get g).state = .active := active
      rw [PerAxis.get_map] at held
      exact nomatch held
    · exact absurd (calm.symm.trans trip) (by decide)
  · exact k.apart rfl rfl rfl rfl rfl

theorem alarmsKept_takeCab (selector pushes : Word) (k : AlarmsKept s u) : AlarmsKept s (takeCab selector pushes u) :=
  alarmsKept_takeResetPush _ (alarmsKept_takeAckPush _ ((alarmsKept_takeConfirm _ k).settleMove
    (proper_takeSelector _ _) (takeSelector_alu _ _) (congrArg Tables.t10 (takeSelector_tables _ _))))

/-! ### The position unit -/

theorem takeCam_tables (c : Int) (ch : ChanState) (s : State) : (takeCam c ch s).1.tables = s.tables := by
  simp only [takeCam]
  split
  · exact (reacts_park _).tables
  · rfl

theorem alarmsKept_updateAxis (a : Axis) (c : HrCause) (k : AlarmsKept s u) : AlarmsKept s (updateAxis a c u) := by
  cases a
  case hoist | drag => exact k.report (by simp [proper_doubtReport, proper_rangeReport]) rfl rfl
  case swing =>
    have told (p : Pos) (hr : Int) :
        AlarmsKept s (report [doubtReport p .swing] (takeHr hr c p.doubtful.swing p.headingConfirmed (u.withPos p)).1) :=
      k.report (by simp [proper_doubtReport]) rfl rfl
    exact (told _ _).report (by simp [takeHr, proper_insideReport]) rfl rfl
  case walk => exact k.settleMove (proper_takeCam _ _ _) (takeCam_alu _ _ _) (congrArg Tables.t10 (takeCam_tables _ _ _))

theorem alarmsKept_handOff (a : Axis) (recovered : Bool) (k : AlarmsKept s u) : AlarmsKept s (handOff a recovered u) :=
  alarmsKept_updateAxis a .movement (k.apart rfl rfl rfl rfl rfl)

theorem alarmsKept_zeroAxis (a : Axis) (v : Int) (k : AlarmsKept s u) : AlarmsKept s (zeroAxis a v u) := by
  cases a
  case hoist => exact alarmsKept_updateAxis .hoist .datum (k.apart rfl rfl rfl rfl rfl)
  case drag => exact alarmsKept_updateAxis .drag .datum (k.apart rfl rfl rfl rfl rfl)
  case swing => exact alarmsKept_updateAxis .swing .datum (k.apart rfl rfl rfl rfl rfl)
  case walk => exact alarmsKept_updateAxis .walk .datum (k.apart rfl rfl rfl rfl rfl)

theorem alarmsKept_takeMark (i : BitVec 32) (d : Drive) (k : AlarmsKept s u) : AlarmsKept s (takeMark i u d) := by
  have held (p : Pos) : AlarmsKept s (u.withPos p) := k.apart rfl rfl rfl rfl rfl
  simp only [takeMark]
  split
  · exact alarmsKept_zeroAxis d.axis _ (held _)
  · exact held _

theorem alarmsKept_takeMarks (i : BitVec 32) (k : AlarmsKept s u) : AlarmsKept s (takeMarks i u) :=
  alarmsKept_takeMark i .swing (alarmsKept_takeMark i .drag (alarmsKept_takeMark i .hoist k))

theorem takeInputs_alu (i : BitVec 32) (s : State) : (takeInputs i s).1.alu = s.alu ∧ (takeInputs i s).1.tables = s.tables := by
  simp only [takeInputs]
  split
  · exact ⟨rfl, rfl⟩
  · split <;> exact ⟨rfl, rfl⟩

/-! ### The drive group unit and the marker -/

theorem alarmsKept_handDrives {v : State} (extra : List Report) (proper : ProperReports extra) (k : AlarmsKept s u)
    (alu : v.alu = u.alu) (t10 : v.tables.t10 = u.tables.t10) : AlarmsKept s (handDrives extra v) := by
  have reports := (properReports_append _ _).2 ⟨proper, proper_driveReports v.dgu.recompute⟩
  let handed := (v.withDgu v.dgu.recompute).withSwu { v.swu with heldTorque := v.dgu.recompute.values.hoist.torque }
  have reacted : AlarmsKept s (settleMove (reactToSummary handed)) :=
    k.settleMove (proper_reactToSummary handed) ((reactToSummary_alu handed).trans alu)
      ((congrArg Tables.t10 (reacts_reactToSummary handed).tables).trans t10)
  simp only [handDrives]
  split
  · exact k.report reports alu t10
  · exact reacted.report reports rfl rfl

theorem alarmsKept_takeNumber (number : Word) (k : AlarmsKept s u) : AlarmsKept s (takeNumber number u) := by
  simp only [takeNumber]
  split
  · exact k.report (by simp) rfl rfl
  · exact k.apart rfl rfl rfl rfl rfl

theorem alarmsKept_channelMarker (a : Axis) (k : AlarmsKept s u) : AlarmsKept s (channelMarker u a) := by
  have told (c : Channel) := k.report (u := u.setChan a c) (proper_markChannel (u.chanCtx a) (u.chan a)) rfl rfl
  simp only [channelMarker]
  split
  · split
    · exact told _
    · exact alarmsKept_handOff a false (told _)
  · exact k.apart rfl rfl rfl rfl rfl

theorem alarmsKept_channelMarkers (as : List Axis) (k : AlarmsKept s u) : AlarmsKept s (as.foldl channelMarker u) := by
  induction as generalizing u with
  | nil => exact k
  | cons a as ih => exact ih (alarmsKept_channelMarker a k)

theorem alarmsKept_driveMarker (k : AlarmsKept s u) : AlarmsKept s (driveMarker u) := by
  rw [driveMarker_eq]
  exact alarmsKept_handDrives _ (by simp [proper_staleReport]) k rfl rfl

theorem alarmsKept_lossMarker (g : Axis) (k : AlarmsKept s u) : AlarmsKept s (lossMarker g u) := by
  simp only [lossMarker]
  split
  · exact k.report (by simp) rfl rfl
  · exact k.setGroup g id

theorem alarmsKept_lossMarkers (gs : List Axis) (k : AlarmsKept s u) :
    AlarmsKept s (gs.foldl (fun s g => lossMarker g s) u) := by
  induction gs generalizing u with
  | nil => exact k
  | cons g gs ih => exact ih (alarmsKept_lossMarker g k)

theorem alarmsKept_seqMarker (k : AlarmsKept s u) : AlarmsKept s (seqMarker u) :=
  k.settleMove ((properReports_append _ _).2 ⟨proper_transferMarker u, proper_shoeMarker _⟩)
    ((shoeMarker_alu _).trans (transferMarker_alu u))
    (congrArg Tables.t10 ((reacts_transferMarker u).trans (reacts_shoeMarker _)).tables)

theorem alarmsKept_offerForwarded (bs : Bytes) (k : AlarmsKept s u) : AlarmsKept s (offerForwarded bs u) := by
  rw [offerForwarded_lpu]
  exact k.apart rfl rfl rfl rfl rfl

theorem alarmsKept_offerInserted (bs : Bytes) (k : AlarmsKept s u) : AlarmsKept s (offerInserted bs u) := by
  rw [offerInserted_lpu]
  exact k.apart rfl rfl rfl rfl rfl

theorem alarmsKept_offerState (k : AlarmsKept s u) : AlarmsKept s (offerState u) := by
  have offered := alarmsKept_offerInserted (stateFrame u) k
  simp only [offerState]
  split
  · exact offered.apart rfl rfl rfl rfl rfl
  · exact offered

theorem alarmsKept_withSwu (x : Swu) (k : AlarmsKept s u) : AlarmsKept s (u.withSwu x) := k.apart rfl rfl rfl rfl rfl

theorem alarmsKept_takeCycle (l : Link) (number : Word) (k : AlarmsKept s u) : AlarmsKept s (takeCycle l number u) := by
  have driven := alarmsKept_driveMarker (alarmsKept_channelMarkers Axis.all (alarmsKept_takeNumber number k))
  have marked : AlarmsKept s (markBeforeSeq number u) := by
    simp only [markBeforeSeq]
    exact alarmsKept_withSwu _ (alarmsKept_lossMarkers Axis.all driven)
  simp only [takeCycle]
  exact alarmsKept_offerState (alarmsKept_offerForwarded _ (alarmsKept_seqMarker marked))

/-! ### Tables -/

theorem setTable_t10 (s : State) {i : TableId} (other : i ≠ .t10) (x : Table) : (s.setTable i x).tables.t10 = s.tables.t10 := by
  cases i
  case t10 => exact absurd rfl other
  all_goals rfl

/-- Table `i` as it is replaced in `v`, acted on as it becomes LIVE (R153, R187). -/
theorem alarmsKept_enteredLive {v : State} (i : TableId) (k : AlarmsKept s u) (alu : v.alu = u.alu) (mgu : v.mgu = u.mgu)
    (groups : v.groups = u.groups) (t10 : i ≠ .t10 → v.tables.t10 = u.tables.t10) :
    AlarmsKept s (enteredLive i (u.table i) v) := by
  cases i
  case t10 => exact alarmsKept_severitiesChanged k alu
  case t6 => exact k.report (by simp [proper_insideReport]) alu (t10 nofun)
  case t9 =>
    simp only [enteredLive, copyT9]
    exact alarmsKept_handDrives [] properReports_nil k alu (t10 nofun)
  case t8 =>
    simp only [enteredLive, camTableChanged]
    split <;> exact k.apart alu (t10 nofun) (congrArg Mgu.mode mgu) (congrArg Mgu.tripStanding mgu) groups
  all_goals exact k.apart alu (t10 nofun) (congrArg Mgu.mode mgu) (congrArg Mgu.tripStanding mgu) groups

theorem alarmsKept_leftLive {v : State} (i : TableId) (k : AlarmsKept s u) (alu : v.alu = u.alu) (mgu : v.mgu = u.mgu)
    (groups : v.groups = u.groups) (t10 : i ≠ .t10 → v.tables.t10 = u.tables.t10) :
    AlarmsKept s (leftLive i (u.table i) v) := by
  cases i
  case t6 => exact alarmsKept_enteredLive .t6 k alu mgu groups t10
  case t8 => exact alarmsKept_enteredLive .t8 k alu mgu groups t10
  case t10 => exact alarmsKept_enteredLive .t10 k alu mgu groups t10
  all_goals exact k.apart alu (t10 nofun) (congrArg Mgu.mode mgu) (congrArg Mgu.tripStanding mgu) groups

/-- Words and state of a table that is not LIVE are nothing to the alarm unit while it does not become so (R151). -/
theorem alarmsKept_setTable (i : TableId) (new : Table) (k : AlarmsKept s u) (before : (u.table i).state ≠ .live)
    (after : new.state ≠ .live) : AlarmsKept s (u.setTable i new) := by
  refine k.trans (alarmsKept_of_same ?_ rfl rfl rfl fun _ => id)
  by_cases e : i = .t10
  · subst e
    exact sameAlarmTable_of_dead before after
  · rw [setTable_t10 u e]
    exact .refl _

theorem alarmsKept_dropTable (i : TableId) (new : Table) (dead : new.state ≠ .live) (k : AlarmsKept s u) :
    AlarmsKept s (dropTable i new u) := by
  simp only [dropTable]
  split
  · exact alarmsKept_leftLive i k (State.setTable_alu u i new) (State.setTable_mgu u i new) (State.setTable_groups u i new)
      fun other => setTable_t10 u other new
  · rename_i before
    exact alarmsKept_setTable i new k (fun live => before (by simp [Table.isLive, live])) dead

theorem alarmsKept_dropT0With (i : TableId) (k : AlarmsKept s u) : AlarmsKept s (dropT0With i u) := by
  unfold dropT0With
  split
  · exact alarmsKept_dropTable _ _ nofun k
  · exact k

theorem alarmsKept_abandonMembers (i : TableId) (k : AlarmsKept s u) : AlarmsKept s (abandonMembers i u) := by
  cases i
  case t9 =>
    simp only [abandonMembers, emptyT9]
    exact alarmsKept_handDrives [] properReports_nil k rfl rfl
  all_goals exact k

end

end Sys2Proof.Machine
end

section
/-! Every command keeps the alarm unit's list, its severities and what they do (R150 to R163): the shapers, the requests and the resets, then
the whole dispatch, and from it O4 and O6. -/

namespace Sys2Proof.Machine

section
variable {s u : State}

/-! ### The shapers -/

theorem alarmsKept_setLastLever (g : Axis) (v : Option Int) (k : AlarmsKept s u) : AlarmsKept s (setLastLever g v u) :=
  AlarmsKept.apart (k.setGroup g (r := { u.group g with lastLever := v }) id) rfl rfl rfl rfl rfl

theorem alarmsKept_commandArrives (g : Axis) (k : AlarmsKept s u) : AlarmsKept s (commandArrives g u) := by
  simp only [commandArrives]
  split
  · exact k.report (by simp) rfl rfl
  · exact k.setGroup g id

theorem alarmsKept_takeLever (g : Axis) (v : Int) (k : AlarmsKept s u) : AlarmsKept s (takeLever g v u) := by
  have taken := alarmsKept_setLastLever g (some v) k
  simp only [takeLever]
  split
  · exact taken.setGroup g id
  · exact taken

/-- A group becomes ACTIVE only under a severity that does not stop it (R91, R162). -/
theorem alarmsKept_tryActivate (g : Axis) (v : Int) (k : AlarmsKept s u) : AlarmsKept s (tryActivate g v u) := by
  unfold tryActivate
  split
  · rename_i passes
    have free : stops (u.alu.severity.get g) = false := by
      simp only [activates, Bool.and_eq_true, Bool.not_eq_true'] at passes
      exact passes.2
    have set : AlarmsKept s (u.setGroup g { u.group g with state := .active, idle := 0 }) := by
      refine k.trans ⟨id, fun _ => id, fun ok x active => ?_, id⟩
      by_cases e : x = g
      · exact e ▸ free
      · rw [State.setGroup_other u _ e] at active
        exact ok x active
    unfold activate
    cases g
    case walk => exact set.apart rfl rfl rfl rfl rfl
    all_goals exact set
  · exact k

theorem alarmsKept_walkLever (v : Int) (k : AlarmsKept s u) : AlarmsKept s (walkLever v u) := by
  simp only [walkLever]
  split
  · split
    · split
      · exact k.settleMove (proper_park _) (park_alu _) (congrArg Tables.t10 (reacts_park _).tables)
      · exact k.apart rfl rfl rfl rfl rfl
    · exact k.apart rfl rfl rfl rfl rfl
  · exact k

theorem endFrame_active {g : Axis} {v : Int} {s : State} (active : (endFrame g v s).state = .active) :
    (s.group g).state = .active := by
  simp only [endFrame] at active
  split at active
  · assumption
  · exact stopFrame_active active
  · exact active
  · exact active

theorem alarmsKept_shapeRest (g : Axis) (v : Int) (k : AlarmsKept s u) : AlarmsKept s (shapeRest g v u).state := by
  have recorded : AlarmsKept s (recordCaps g u) := by
    unfold recordCaps
    split
    · exact alarmsKept_withSwu _ k
    · exact k
  exact recorded.setGroup g fun active => endFrame_active (v := v) active

theorem alarmsKept_shapeOwn (g : Axis) (v : Int) (k : AlarmsKept s u) : AlarmsKept s (shapeOwn g v u).state := by
  have active := alarmsKept_tryActivate g v k
  cases g
  case hoist => exact alarmsKept_shapeRest .hoist v active
  case drag => exact alarmsKept_shapeRest .drag v active
  case swing => exact alarmsKept_shapeRest .swing v (alarmsKept_withSwu _ active)
  case walk => exact alarmsKept_shapeRest .walk v (alarmsKept_walkLever v active)

theorem walkFrame_active {s : State} (active : (walkFrame s).state = .active) : (s.group .drag).state = .active := by
  by_cases stopping : (s.group .drag).state = .stopping
  · simp only [walkFrame, stopping] at active
    exact stopFrame_active active
  · rwa [walkFrame_rest s stopping] at active

theorem alarmsKept_shape (g : Axis) (lever : Word) (k : AlarmsKept s u) : AlarmsKept s (shape g lever u).state := by
  have taken := alarmsKept_takeLever g (frameLever g lever u) (alarmsKept_commandArrives g k)
  simp only [shape]
  split
  · exact taken.setGroup .drag fun active => walkFrame_active active
  · exact alarmsKept_shapeOwn g _ taken

/-! ### Frames -/

theorem alarmsKept_takeCommand (l : Link) (group lever : Word) (k : AlarmsKept s u) :
    AlarmsKept s (takeCommand l group lever u) := by
  unfold takeCommand
  split
  · exact alarmsKept_offerForwarded _ ((alarmsKept_shape _ lever k).report (proper_frameReports _ _) rfl rfl)
  · exact alarmsKept_offerForwarded _ k

theorem alarmsKept_takeSampleFrame (src : Byte) (d : SampleData) (k : AlarmsKept s u) :
    AlarmsKept s (takeSampleFrame src d u) := by
  simp only [takeSampleFrame]
  split
  · exact k
  · split
    · exact k
    · exact alarmsKept_handOff _ _ (k.report (proper_takeSample _ _ _) rfl rfl)

theorem alarmsKept_takeDiscreteFrame (src : Byte) (low high : Word) (k : AlarmsKept s u) :
    AlarmsKept s (takeDiscreteFrame src low high u) := by
  have inputs (d : Dgu) (i : BitVec 32) : AlarmsKept s (settleMove (takeInputs i (u.withDgu d))) := by
    obtain ⟨alu, tables⟩ := takeInputs_alu i (u.withDgu d)
    exact k.settleMove (proper_takeInputs _ i) alu (congrArg Tables.t10 tables)
  simp only [takeDiscreteFrame, takeDiscrete]
  split
  · exact (alarmsKept_takeMarks _ (inputs _ _)).report (proper_loadReports _) rfl rfl
  · exact k

theorem alarmsKept_takeDriveStatus (src : Nat) (x : DriveData) (k : AlarmsKept s u) : AlarmsKept s (takeDriveStatus src x u) := by
  simp only [takeDriveStatus]
  split
  · exact alarmsKept_handDrives [] properReports_nil k rfl rfl
  · exact k

theorem alarmsKept_takeBad (reason : Nat) (bs : Bytes) (k : AlarmsKept s u) : AlarmsKept s (takeBad reason bs u) := by
  have seen : AlarmsKept s (if reason = 2 then goodFrameSeen u else u) := by
    split
    · exact k.apart rfl rfl rfl rfl rfl
    · exact k
  exact alarmsKept_offerForwarded _ (seen.report (by simp) rfl rfl)

theorem alarmsKept_expireTimer (k : AlarmsKept s u) : AlarmsKept s (expireTimer u) := by
  simp only [expireTimer]
  split
  · exact k.apart rfl rfl rfl rfl rfl
  · exact k.report (by simp) rfl rfl

theorem alarmsKept_completeReset (straps : BitVec 5) (k : AlarmsKept s u) : AlarmsKept s (completeReset straps u) := by
  simp only [completeReset]
  split <;> exact k.apart rfl rfl rfl rfl rfl

/-- A reset leaves the ALU empty, and the owners' reports keep the list and the records in agreement (R149, R190, R191). -/
theorem alarmsKept_afterReset {t : State} (empty : t.alu = .reset) : AlarmsKept s (ownersReport t) := by
  have agrees : AlarmsOk t ∧ ListingOk t := (agrees_iff t).1 (empty ▸ Alu.Agrees.empty _)
  have told {rs : List Report} (proper : ProperReports rs) : AlarmsKept s (report rs t) :=
    alarmsKept_reported proper (fun _ => agrees.1) fun _ _ => agrees.2
  unfold ownersReport
  split
  · exact (told (proper_driveReports _)).report proper_posReports rfl rfl
  · exact (told proper_posReports).report (proper_driveReports _) rfl rfl

/-! ### Requests -/

theorem alarmsKept_serveOpen (table : Word) (k : AlarmsKept s u) : AlarmsKept s (serveOpen table u).state := by
  unfold serveOpen
  split
  · exact k
  · split
    · exact k
    · split
      · exact k
      · exact alarmsKept_dropTable _ _ nofun (alarmsKept_dropT0With _ k)

theorem alarmsKept_serveAbandon (table : Word) (k : AlarmsKept s u) : AlarmsKept s (serveAbandon table u).state := by
  unfold serveAbandon
  split
  · exact k
  · split
    · exact k
    · exact alarmsKept_abandonMembers _ (alarmsKept_dropTable _ _ nofun (alarmsKept_dropT0With _ k))

theorem alarmsKept_serveClose (table : Word) (k : AlarmsKept s u) : AlarmsKept s (serveClose table u).state := by
  unfold serveClose
  split
  · exact k
  · split
    · exact k
    · split
      · exact k
      · split
        · exact k
        · rename_i i _ _ _ _ _
          exact alarmsKept_enteredLive i k (State.setTable_alu u i _) (State.setTable_mgu u i _) (State.setTable_groups u i _)
            fun other => setTable_t10 u other _

/-- LOAD writes into a table in EDIT, which the alarm unit does not read (R151, R188). -/
theorem alarmsKept_serveLoad (table first : Word) (mode : Byte) (words : List Word) (k : AlarmsKept s u) :
    AlarmsKept s (serveLoad table first mode words u).state := by
  unfold serveLoad
  split
  · exact k
  · split
    · exact k
    · split
      · exact k
      · rename_i i _ _ edit
        have dead : (u.table i).state ≠ .live := fun live => edit (by rw [live]; decide)
        split
        · exact k
        · simp only
          split
          · exact k
          · exact alarmsKept_setTable i _ k dead dead

theorem alarmsKept_serveReadTable (table first : Word) (count : Byte) (k : AlarmsKept s u) :
    AlarmsKept s (serveReadTable table first count u).state := by
  unfold serveReadTable
  split
  · exact k
  · simp only
    split <;> exact k

theorem alarmsKept_serveRead (item index : Word) (count : Byte) (k : AlarmsKept s u) :
    AlarmsKept s (serveRead item index count u).state := by
  simp only [serveRead]
  split
  · exact k
  · split
    · exact k
    · simp only
      split <;> first | exact k | exact k.apart rfl rfl rfl rfl rfl

/-- A part with a standing TRIP is HALTED, and START refuses it (R163, R180). -/
theorem alarmsKept_serveStart (k : AlarmsKept s u) : AlarmsKept s (serveStart u).state := by
  unfold serveStart
  split
  · exact k
  · exact k
  · rename_i standby
    split
    · exact k
    · refine k.trans ⟨id, fun _ => id, id, fun ok => ⟨ok.1, ok.2.1, fun trip => ?_⟩⟩
      exact absurd (standby.symm.trans (ok.2.2 trip)) (by decide)

theorem alarmsKept_serveStop (k : AlarmsKept s u) : AlarmsKept s (serveStop u).state := by
  unfold serveStop
  split
  · rename_i run
    have left : AlarmsKept u (u.withMgu { u.mgu with mode := .standby }) :=
      ⟨id, fun _ => id, id, fun ok => ⟨ok.1, ok.2.1, fun trip => absurd (run.symm.trans (ok.2.2 trip)) (by decide)⟩⟩
    exact alarmsKept_stopGroups Axis.all (k.trans left)
  · exact k
  · exact k

theorem alarmsKept_serveLearn (channel : Word) (k : AlarmsKept s u) : AlarmsKept s (serveLearn channel u).state := by
  unfold serveLearn
  split
  · exact k
  · split
    · exact k.apart rfl rfl rfl rfl rfl
    · exact k

theorem alarmsKept_serveZero (channel : Word) (values : List Word) (k : AlarmsKept s u) :
    AlarmsKept s (serveZero channel values u).state := by
  unfold serveZero
  split
  · exact k
  · split
    · exact k
    · split
      · exact k
      · split
        · exact k
        · exact alarmsKept_zeroAxis _ _ k

/-- A condition forced while it is not raised: listed, acted on, and settled with the sequencer (R161). -/
theorem alarmsKept_forceCondition {n : Nat} (within : n < 60) (down : (condSpec n).event = false → u.alu.raised n = false)
    (k : AlarmsKept s u) : AlarmsKept s (forceCondition n u) := by
  let v := aluAct (Effect.none.ofEvent u.tables.t10 n) (u.withAlu (u.alu.occasion u.aluCtx n none true))
  have alu : v.alu = { u.alu.occasion u.aluCtx n none true with
      severity := (u.alu.occasion u.aluCtx n none true).groupSeverities u.tables.t10 } := aluAct_alu _ _
  have tables : v.tables = u.tables := (reacts_aluAct _ _).tables
  have taken := takesOne_occasion u.aluCtx n none true u.alu
  have forced : AlarmsKept s (report (reactToGroups v).2 (reactToGroups v).1) := by
    refine k.trans (alarmsKept_reported (proper_reactToGroups v) (fun ok => ?_) fun ok listing => ?_)
    · rw [AlarmsOk, reactToGroups_alu, alu]
      exact ⟨taken.length.trans ok.1, taken.fitting ok.2⟩
    · have agrees := (agrees_iff u).2 ⟨ok, listing⟩
      have raised : u.alu.raised n = false := by
        cases event : (condSpec n).event
        · exact down event
        · exact agrees.calm n within event
      refine ((agrees_iff _).1 ?_).2
      rw [reactToGroups_alu, (reacts_reactToGroups v).tables, tables, alu]
      exact agrees_withSeverity (agrees.occasion (ctx := u.aluCtx) within raised none true) _
  exact forced

theorem alarmsKept_serveForce (condition : Word) (k : AlarmsKept s u) : AlarmsKept s (serveForce condition u).state := by
  simp only [serveForce]
  split
  · exact k
  · rename_i known
    split
    · exact k
    · exact k
    · split
      · exact k
      · rename_i ready
        refine alarmsKept_forceCondition (Nat.lt_of_not_le known) (fun level => ?_) k
        rw [level] at ready
        simp_all

theorem alarmsKept_serveAck (target : Word) (k : AlarmsKept s u) : AlarmsKept s (serveAck target u).state := by
  simp only [serveAck]
  split
  · exact alarmsKept_acknowledged _ k
  · split
    · exact alarmsKept_acknowledged _ k
    · exact k

theorem alarmsKept_serveReadAlarms (position : Word) (count : Byte) (k : AlarmsKept s u) :
    AlarmsKept s (serveReadAlarms position count u).state := by
  simp only [serveReadAlarms]
  split
  · exact k
  · simp only
    split
    · exact k
    · exact alarmsKept_acknowledged _ k

/-! ### Writes -/

/-- Whatever item it writes, a WRITE reaches the ALU through the recomputes of the POS and through reports alone (R186). -/
theorem alarmsKept_writeItem (sc : Scope) (n index : Nat) (w : Word) (s : State) : AlarmsKept s (writeItem sc n index w s).1 := by
  have stored {v : State} (alu : v.alu = s.alu) (tables : v.tables = s.tables) (mgu : v.mgu = s.mgu) (groups : v.groups = s.groups) :
      AlarmsKept s v :=
    AlarmsKept.none.apart alu (congrArg _ tables) (congrArg _ mgu) (congrArg _ mgu) groups
  have part : AlarmsKept s (writePart n w s).1 := by
    simp only [writePart]
    split
    case h_4 =>
      simp only [setSwingGear]
      split
      · exact .none
      · exact alarmsKept_updateAxis .swing .datum (stored rfl rfl rfl rfl)
    case h_5 =>
      simp only [setRopeK]
      split
      · exact .none
      · exact alarmsKept_updateAxis .hoist .datum (stored rfl rfl rfl rfl)
    case h_6 =>
      simp only [setRopeK]
      split
      · exact .none
      · exact alarmsKept_updateAxis .drag .datum (stored rfl rfl rfl rfl)
    case h_10 => exact alarmsKept_updateAxis .walk .datum (stored rfl rfl rfl rfl)
    case h_11 =>
      exact alarmsKept_updateAxis .swing .datum ((stored rfl rfl rfl rfl).report (by simp) rfl rfl)
    all_goals exact stored rfl rfl rfl rfl
  have channel (a : Axis) : AlarmsKept s (writeChannel n a w s).1 := by
    have fixed (it : ChannelItems) : AlarmsKept s (applyFixed a it s) := by
      rw [applyFixed_eq]
      exact stored rfl rfl rfl rfl
    simp only [writeChannel]
    split
    case h_5 | h_6 | h_7 => exact fixed _
    case h_11 => exact AlarmsKept.report .none (by simp) rfl rfl
    case h_12 =>
      rw [applyGainMode_eq]
      exact stored rfl rfl rfl rfl
    all_goals exact stored rfl rfl rfl rfl
  have group (g : Axis) : AlarmsKept s (writeGroup n g w s).1 := by
    simp only [writeGroup]
    split <;> exact stored rfl rfl rfl rfl
  unfold writeItem
  split
  · exact part
  · split
    · exact channel _
    · exact .none
  · split
    · exact group _
    · exact .none
  all_goals exact .none

theorem alarmsKept_serveWrite (item index : Word) (values : List Word) (k : AlarmsKept s u) :
    AlarmsKept s (serveWrite item index values u).state := by
  unfold serveWrite
  split
  · exact k
  · split
    · exact k
    · split
      · split
        · exact k
        · exact k.trans (alarmsKept_writeItem _ _ _ _ u)
      · exact k

end

/-! ### Every command -/

section
variable {s t : State}

theorem alarmsKept_next {u : State} (e : (.next u : Result) = .next t) (k : AlarmsKept s u) : AlarmsKept s t :=
  Host.Outcome.next.inj e ▸ k

theorem alarmsKept_goodFrameSeen : AlarmsKept s (goodFrameSeen s) := AlarmsKept.none.apart rfl rfl rfl rfl rfl

theorem alarmsKept_arrival {body : State → State} (l : Link) (size : Nat) (h : ∀ u, AlarmsKept s u → AlarmsKept s (body u)) :
    AlarmsKept s (arrival l size body s) := by
  unfold arrival
  split
  · exact h _ alarmsKept_goodFrameSeen
  · exact .none

theorem alarmsKept_delivered {body : State → State} (kind : Byte) (l : Link) (ws : List Word)
    (h : ∀ u, AlarmsKept s u → AlarmsKept s (body u)) : AlarmsKept s (delivered kind l ws body s) :=
  alarmsKept_arrival l _ fun u k => alarmsKept_offerForwarded _ (h u k)

theorem alarmsKept_serve {r : Req} {code : Nat} {body : State → Reply} (e : serve r code body s = .next t)
    (h : ∀ u, AlarmsKept s u → AlarmsKept s (body u).state) : AlarmsKept s t := by
  unfold serve at e
  split at e
  · exact alarmsKept_next e (alarmsKept_offerInserted _ (h _ alarmsKept_goodFrameSeen))
  · exact alarmsKept_next e .none

theorem alarmsKept_cycleEvent {due : Bool} {l : Link} {number : Word} (e : cycleEvent due l number s = .next t) :
    AlarmsKept s t := by
  unfold cycleEvent at e
  split at e
  · exact alarmsKept_next e (alarmsKept_arrival l 2 fun _ => alarmsKept_takeCycle l number)
  · exact alarmsKept_next e .none

theorem alarmsKept_sampleEvent {due : Bool} {l : Link} {d : SampleData} (e : sampleEvent due l d s = .next t) :
    AlarmsKept s t := by
  unfold sampleEvent at e
  split at e
  · exact alarmsKept_next e (alarmsKept_delivered _ l _ fun _ => alarmsKept_takeSampleFrame l.src d)
  · exact alarmsKept_next e .none

/-- Every command keeps the alarm list, its agreement with the records, and what the ALU hands on. -/
theorem alarmsKept_exec {c : Instr} (e : exec c s = .next t) : AlarmsKept s t := by
  have port (l : Lpu) : AlarmsKept s (s.withLpu l) := AlarmsKept.none.apart rfl rfl rfl rfl rfl
  cases c
  case powerOnReset | pinReset => exact alarmsKept_next e (alarmsKept_afterReset rfl)
  case resetComplete straps =>
    simp only [exec, execResetComplete] at e
    split at e
    · exact alarmsKept_next e (alarmsKept_completeReset straps .none)
    all_goals exact alarmsKept_next e .none
  case bypassStart =>
    simp only [exec, execBypassStart] at e
    split at e
    · exact alarmsKept_next e (port _)
    · exact alarmsKept_next e .none
  case softReset =>
    simp only [exec, execSoftReset] at e
    split at e
    · exact alarmsKept_next e (alarmsKept_afterReset rfl)
    all_goals exact alarmsKept_next e .none
  case cycle l number => exact alarmsKept_next e (alarmsKept_arrival l 2 fun _ => alarmsKept_takeCycle l number)
  case cab l selector pushes => exact alarmsKept_next e (alarmsKept_delivered _ l _ fun _ => alarmsKept_takeCab selector pushes)
  case command l group lever => exact alarmsKept_next e (alarmsKept_arrival l 4 fun _ => alarmsKept_takeCommand l group lever)
  case sample l d => exact alarmsKept_next e (alarmsKept_delivered _ l _ fun _ => alarmsKept_takeSampleFrame l.src d)
  case discrete l low high =>
    exact alarmsKept_next e (alarmsKept_delivered _ l _ fun _ => alarmsKept_takeDiscreteFrame l.src low high)
  case driveStatus l d =>
    exact alarmsKept_next e (alarmsKept_delivered _ l _ fun _ => alarmsKept_takeDriveStatus l.src.toNat d)
  case forwardedFrame bytes =>
    simp only [exec, execForwardedFrame] at e
    split at e
    · exact alarmsKept_next e (alarmsKept_offerForwarded _ alarmsKept_goodFrameSeen)
    · exact alarmsKept_next e .none
  case ownFrameRemoval bytes =>
    simp only [exec, execOwnFrameRemoval] at e
    split at e
    · exact alarmsKept_next e alarmsKept_goodFrameSeen
    · exact alarmsKept_next e .none
  case badFrame bytes =>
    simp only [exec, execBadFrame] at e
    split at e
    · split at e
      · exact alarmsKept_next e (alarmsKept_takeBad _ bytes .none)
      · exact alarmsKept_next e .none
    · exact alarmsKept_next e .none
  case frameTransmitted => exact alarmsKept_next e (port _)
  case loopSilent =>
    simp only [exec, execLoopSilent] at e
    split at e
    · exact alarmsKept_next e (alarmsKept_expireTimer .none)
    · exact alarmsKept_next e .none
  case read | discardCountRead => exact alarmsKept_serve e fun _ => alarmsKept_serveRead _ _ _
  case openTable => exact alarmsKept_serve e fun _ => alarmsKept_serveOpen _
  case loadTable => exact alarmsKept_serve e fun _ => alarmsKept_serveLoad _ _ _ _
  case closeTable => exact alarmsKept_serve e fun _ => alarmsKept_serveClose _
  case abandonTable => exact alarmsKept_serve e fun _ => alarmsKept_serveAbandon _
  case readTable => exact alarmsKept_serve e fun _ => alarmsKept_serveReadTable _ _ _
  case start => exact alarmsKept_serve e fun _ => alarmsKept_serveStart
  case stop => exact alarmsKept_serve e fun _ => alarmsKept_serveStop
  case learn => exact alarmsKept_serve e fun _ => alarmsKept_serveLearn _
  case zero => exact alarmsKept_serve e fun _ => alarmsKept_serveZero _ _
  case force => exact alarmsKept_serve e fun _ => alarmsKept_serveForce _
  case ack => exact alarmsKept_serve e fun _ => alarmsKept_serveAck _
  case readAlarms => exact alarmsKept_serve e fun _ => alarmsKept_serveReadAlarms _ _
  case reset => exact alarmsKept_serve e fun _ k => k.apart rfl rfl rfl rfl rfl
  case unknownCode r code =>
    simp only [exec, execUnknownCode] at e
    split at e
    · exact alarmsKept_next e .none
    · exact alarmsKept_serve e fun _ => id
  case write | crossingFlags | pitHeading | correctionMode | speedLimit | offsetLimit | gainLimit | gainMode | gainLow
      | gainHigh | swingGear | hoistRopeK | dragRopeK | camZero | fixedItems =>
    exact alarmsKept_serve e fun _ => alarmsKept_serveWrite _ _ _
  case channelStale | memberAbsent | discreteStale | cmdLost | transferTimeout | shoeMismatch | shoeDisagree =>
    simp only [exec, execChannelStale, execMemberAbsent, execDiscreteStale, execCmdLost, execTransferTimeout,
      execShoeMismatch, execShoeDisagree] at e
    exact alarmsKept_cycleEvent e
  case brakeDelayExpiry l group lever =>
    simp only [exec, execBrakeDelayExpiry] at e
    split at e
    · exact alarmsKept_next e (alarmsKept_arrival l 4 fun _ => alarmsKept_takeCommand l _ lever)
    · exact alarmsKept_next e .none
  case stuck | settled =>
    simp only [exec, execStuck, execSettled] at e
    exact alarmsKept_sampleEvent e

/-- Every step keeps the alarm unit in order: its front command runs on the same device. -/
theorem alarmsKept_step (e : step s = .next t) : AlarmsKept s t := by
  unfold step at e
  split at e
  · exact alarmsKept_next e .none
  · rename_i rest _
    exact (AlarmsKept.none.apart (t := s) (u := s.withPending rest) rfl rfl rfl rfl rfl).trans (alarmsKept_exec e)

end

/-- Settles O4: a step keeps the list within its capacity and in agreement with the listing states (`alarmsKept_step`), and the
conditions that are listed or UNLISTED are counted by `listed_count`. -/
theorem stepKeepsAlarmCapacity : Obligations.StepKeepsAlarmCapacity :=
  ⟨fun _ _ ok e => (alarmsKept_step e).capacity ok, fun _ _ ok listing e => (alarmsKept_step e).listing ok listing,
    fun _ => listed_count⟩

/-- Settles O6: a step keeps groups under a STOP inactive and what the ALU handed on up to date (`alarmsKept_step`). -/
theorem stepKeepsSeverityStops : Obligations.StepKeepsSeverityStops :=
  ⟨fun _ _ ok e => (alarmsKept_step e).severity ok, fun _ _ ok e => (alarmsKept_step e).handed ok⟩

end Sys2Proof.Machine
end


section
/-! The effective severity and mask of a condition: O58. -/

namespace Sys2Proof.Machine

/-- Every condition's default severity meets its floor. -/
theorem floor_le_default : ∀ n < 60, (condSpec n).floor.code ≤ (condSpec n).default.code := by decide

/-- A floor forbids masking where it is STOP or TRIP. -/
theorem floorHard_iff (n : Nat) : floorHard n = true ↔ 3 ≤ (condSpec n).floor.code := decide_eq_true_iff

section
variable {t10 : Table} {n : Nat}

theorem effSeverity_dead (dead : t10.state ≠ .live) : effSeverity t10 n = (condSpec n).default := by
  unfold effSeverity
  split
  · contradiction
  · rfl

theorem effMask_dead (dead : t10.state ≠ .live) : effMask t10 n = false := by
  unfold effMask
  split
  · contradiction
  · rfl

theorem effSeverity_live (live : t10.state = .live) :
    (effSeverity t10 n).code = max (min 4 ((t10.words.getD n 0).toNat % 8)) (condSpec n).floor.code := by
  have floor := severity_code_le (condSpec n).floor
  simp only [effSeverity, live, wordSeverity, severity_code_ofCode]
  omega

theorem effMask_live (live : t10.state = .live) :
    effMask t10 n = ((t10.words.getD n 0).getLsbD 15 && !floorHard n) := by
  simp only [effMask, live, wordMask]

end

/-- Settles O58: the floor holds of the default as of T10's word raised to it. -/
theorem severityFloors : Obligations.SeverityFloors := by
  intro t10 n within
  by_cases live : t10.state = .live
  · rw [effSeverity_live live, effMask_live live]
    refine ⟨le_max_right _ _, fun hard => ?_, fun dead => absurd live dead, fun _ => ⟨rfl, fun soft => ?_⟩⟩
    · rw [(floorHard_iff n).2 hard, Bool.not_true, Bool.and_false]
    · have permits : floorHard n = false := Bool.eq_false_iff.2 fun hard => absurd ((floorHard_iff n).1 hard) (by omega)
      rw [permits, Bool.not_false, Bool.and_true]
  · rw [effSeverity_dead live, effMask_dead live]
    exact ⟨floor_le_default n (by omega), fun _ => rfl, fun _ => ⟨rfl, rfl⟩, fun l => absurd l live⟩

end Sys2Proof.Machine
end

section
/-! LOAD requests (R188): what a range writes, what a T10 word becomes, and O30. -/

namespace Sys2Proof.Machine

/-! ### A word as it is stored (R152) -/

/-- A T10 word as stored, as a number: severity in bits 2 to 0, the unused bits, the mask in bit 15. -/
theorem adjustT10_toNat (n : Nat) (v : Word) : (adjustT10 n v).toNat
    = flag (wordMask v && !floorHard n) * 32768 + v.toNat % 32768 / 8 * 8 + max (min 4 (v.toNat % 8)) (condSpec n).floor.code := by
  have floor := severity_code_le (condSpec n).floor
  have bit : flag (wordMask v && !floorHard n) ≤ 1 := by
    unfold flag
    split <;> decide
  simp only [adjustT10, wordSeverity, severity_code_ofCode, natWord, BitVec.toNat_ofNat]
  omega

theorem loadedAs_storedWord (i : TableId) (n : Nat) (v : Word) : LoadedAs i n v (storedWord i n v) := by
  by_cases t10 : i = .t10
  · subst t10
    have floor := severity_code_le (condSpec n).floor
    have word : (storedWord .t10 n v).toNat = _ := adjustT10_toNat n v
    have soft : decide ((condSpec n).floor.code < 3) = !floorHard n := by
      rw [Bool.eq_iff_iff, Bool.not_eq_true', ← Bool.not_eq_true, floorHard_iff, decide_eq_true_iff, Nat.not_le]
    have mask : flag (wordMask v && !floorHard n) = 0 ∧ (wordMask v && !floorHard n) = false
        ∨ flag (wordMask v && !floorHard n) = 1 ∧ (wordMask v && !floorHard n) = true := by
      cases wordMask v && !floorHard n
      · exact .inl ⟨rfl, rfl⟩
      · exact .inr ⟨rfl, rfl⟩
    rw [LoadedAs, if_pos rfl, word]
    refine ⟨by omega, ?_, by omega⟩
    rw [soft, BitVec.getLsbD, Nat.testBit_eq_decide_div_mod_eq, word]
    show _ = (wordMask v && !floorHard n)
    rcases mask with ⟨clear, masked⟩ | ⟨set, masked⟩
    · rw [clear, masked, decide_eq_false_iff_not]
      omega
    · rw [set, masked, decide_eq_true_iff]
      omega
  · rw [LoadedAs, if_neg t10]
    cases i
    case t10 => contradiction
    all_goals rfl

/-! ### A range of words written -/

/-- The words of a table after the first `n` of a range are stored, the `k`-th sent at index `pos k` (R188). -/
def storedUpTo (i : TableId) (pos : Nat → Nat) (sent : Nat → Word) (ws : List Word) : Nat → List Word
  | 0 => ws
  | n + 1 => (storedUpTo i pos sent ws n).set (pos n) (storedWord i (pos n) (sent n))

/-- A range as LOAD tests and writes it (R188). -/
def rangeOf (n : Nat) (pos : Nat → Nat) (sent : Nat → Word) : List (Int × Word) :=
  (List.range n).map fun k => ((pos k : Int), sent k)

section
variable {i : TableId} {n : Nat} {pos : Nat → Nat} {sent : Nat → Word} {ws : List Word}

theorem foldl_rangeOf : (rangeOf n pos sent).foldl (fun ws p => ws.set p.1.toNat (storedWord i p.1.toNat p.2)) ws
    = storedUpTo i pos sent ws n := by
  induction n with
  | zero => rfl
  | succ n ih =>
    rw [rangeOf, List.range_succ, List.map_append, List.foldl_append]
    show List.set (List.foldl _ ws (rangeOf n pos sent)) _ _ = _
    rw [ih, Int.toNat_natCast]
    rfl

theorem storedUpTo_length : (storedUpTo i pos sent ws n).length = ws.length := by
  induction n with
  | zero => rfl
  | succ n ih => exact List.length_set.trans ih

theorem storedUpTo_other {j : Nat} (other : ∀ k, k < n → j ≠ pos k) :
    (storedUpTo i pos sent ws n).getD j 0 = ws.getD j 0 := by
  induction n with
  | zero => rfl
  | succ n ih =>
    rw [← ih fun k lt => other k (by omega), storedUpTo, List.getD_eq_getElem?_getD,
      List.getElem?_set_ne (other n n.lt_succ_self).symm, ← List.getD_eq_getElem?_getD]

/-- Of a range whose indices differ and lie in the table, each word is stored at its own index (R188). -/
theorem storedUpTo_at (distinct : ∀ j k, j < n → k < n → pos j = pos k → j = k) (within : ∀ k, k < n → pos k < ws.length)
    {k : Nat} (lt : k < n) : (storedUpTo i pos sent ws n).getD (pos k) 0 = storedWord i (pos k) (sent k) := by
  induction n with
  | zero => exact absurd lt k.not_lt_zero
  | succ n ih =>
    rw [storedUpTo, List.getD_eq_getElem?_getD]
    rcases Nat.lt_succ_iff_lt_or_eq.1 lt with before | rfl
    · have differs : pos n ≠ pos k := fun same =>
        absurd (distinct n k n.lt_succ_self lt same) (by omega)
      rw [List.getElem?_set_ne differs, ← List.getD_eq_getElem?_getD]
      exact ih (fun j k hj hk => distinct j k (by omega) (by omega)) (fun k hk => within k (by omega)) before
    · rw [List.getElem?_set_self (storedUpTo_length.symm ▸ within k lt)]
      rfl

end

/-! ### The range a request names -/

section
variable {n : Nat} (first : Nat)

theorem natWord_count (most : n ≤ 16) : (natWord n).toNat = n := by
  rw [natWord, BitVec.toNat_ofNat]
  omega

/-- A list's first `n` values, each with a place counted from the first. -/
theorem mapIdx_take {vs : List Word} (enough : n ≤ vs.length) (place : Nat → Int) :
    (vs.take n).mapIdx (fun k v => (place k, v)) = (List.range n).map fun k : Nat => (place k, vs.getD k 0) := by
  refine List.ext_getElem (by simp [enough]) fun k lt _ => ?_
  have within : k < vs.length := by simp at lt; omega
  simp [within]

variable (least : 1 ≤ n) (most : n ≤ 16)
include least most

theorem loadRange_up {vs : List Word} (enough : n ≤ vs.length) :
    loadRange 1 first (natWord n :: vs) = some ((List.range n).map fun k : Nat => ((first : Int) + (k : Int), vs.getD k 0)) := by
  have count : ¬ (n < 1 ∨ 16 < n) := by omega
  simp only [loadRange, natWord_count most, if_neg count, if_neg (Nat.not_lt.2 enough), mapIdx_take enough (fun k => (first : Int) + k)]

theorem loadRange_down {vs : List Word} (enough : n ≤ vs.length) :
    loadRange 2 first (natWord n :: vs) = some ((List.range n).map fun k : Nat => ((first : Int) - (k : Int), vs.getD k 0)) := by
  have count : ¬ (n < 1 ∨ 16 < n) := by omega
  simp only [loadRange, natWord_count most, if_neg count, if_neg (Nat.not_lt.2 enough), mapIdx_take enough (fun k => (first : Int) - k)]

theorem loadRange_fill (v : Word) (vs : List Word) :
    loadRange 3 first (natWord n :: v :: vs) = some ((List.range n).map fun k : Nat => ((first : Int) + (k : Int), v)) := by
  have count : ¬ (n < 1 ∨ 16 < n) := by omega
  simp only [loadRange, natWord_count most, if_neg count, List.bind_eq_flatMap, List.pure_def, ← List.map_eq_flatMap, List.map_map]
  rfl

theorem loadRange_single (v : Word) (vs : List Word) :
    loadRange 0 first (natWord n :: v :: vs) = some (rangeOf 1 (fun _ => first) fun _ => v) := by
  have count : ¬ (n < 1 ∨ 16 < n) := by omega
  simp only [loadRange, natWord_count most, if_neg count]
  rfl

end

theorem loadRange_badMode (mode first : Nat) (ws : List Word) (h : 3 < mode ∨ ws = []) : loadRange mode first ws = none := by
  rcases h with large | rfl
  · obtain ⟨m, rfl⟩ := Nat.exists_eq_add_of_lt large
    cases ws with
    | nil => rfl
    | cons c vs => simp [loadRange, show 3 + m + 1 = m + 4 by omega]
  · rfl

theorem loadRange_badCount (mode first : Nat) (c : Word) (vs : List Word)
    (h : c.toNat = 0 ∨ 16 < c.toNat ∨ vs = [] ∨ (mode = 1 ∨ mode = 2) ∧ vs.length < c.toNat) :
    loadRange mode first (c :: vs) = none := by
  by_cases count : c.toNat < 1 ∨ 16 < c.toNat
  · simp only [loadRange, if_pos count]
  have short : vs = [] ∨ (mode = 1 ∨ mode = 2) ∧ vs.length < c.toNat := by
    rcases h with zero | large | rest
    · omega
    · omega
    · exact rest
  simp only [loadRange, if_neg count]
  rcases short with rfl | ⟨rfl | rfl, few⟩
  · have few : ([] : List Word).length < c.toNat := by
      rw [List.length_nil]
      omega
    match mode with
    | 0 | 3 | _ + 4 => rfl
    | 1 | 2 => exact if_pos few
  · exact if_pos few
  · exact if_pos few

/-! ### The request -/

section
variable {i : TableId} {first : Word} {mode : Byte} {ws : List Word} {s : State}

theorem serveLoad_run (run : s.mgu.mode = .run) : serveLoad (natWord i.code) first mode ws s = refuse s .refusedMode := by
  simp [serveLoad, tableOfCode_natWord, tableRefused, run]

theorem serveLoad_noTable {table : Word} (h : 10 < table.toNat) : serveLoad table first mode ws s = refuse s .outOfRange := by
  have none : TableId.ofCode table.toNat = none := List.getElem?_eq_none h
  simp only [serveLoad, none]

variable (out : s.mgu.mode ≠ .run)
include out

theorem serveLoad_notOpen (closed : (s.table i).state ≠ .edit) :
    serveLoad (natWord i.code) first mode ws s = refuse s .notOpen := by
  simp [serveLoad, tableOfCode_natWord, tableRefused, out, closed]

variable (edit : (s.table i).state = .edit)
include edit

theorem serveLoad_noRange (none : loadRange mode.toNat first.toNat ws = none) :
    serveLoad (natWord i.code) first mode ws s = refuse s .outOfRange := by
  simp [serveLoad, tableOfCode_natWord, tableRefused, out, edit, none]

theorem serveLoad_outside {ps : List (Int × Word)} (range : loadRange mode.toNat first.toNat ws = some ps) {p : Int × Word}
    (mem : p ∈ ps) (outside : p.1 < 0 ∨ ((s.table i).words.length : Int) ≤ p.1) :
    serveLoad (natWord i.code) first mode ws s = refuse s .outOfRange := by
  have any : ps.any (fun p => decide (p.1 < 0) || decide (((s.table i).words.length : Int) ≤ p.1)) = true :=
    List.any_eq_true.2 ⟨p, mem, by simpa using outside⟩
  simp only [serveLoad, tableOfCode_natWord, tableRefused, beq_iff_eq, out, edit, range, any, if_false, if_true, ne_eq,
    not_true_eq_false]

/-- A range inside the table is stored word by word (R188). -/
theorem serveLoad_stores {n : Nat} {pos : Nat → Nat} {sent : Nat → Word}
    (range : loadRange mode.toNat first.toNat ws = some (rangeOf n pos sent))
    (within : ∀ k, k < n → pos k < (s.table i).words.length) :
    serveLoad (natWord i.code) first mode ws s
      = ⟨s.setTable i { s.table i with words := storedUpTo i pos sent (s.table i).words n },
          okIf ((List.range n).any fun k => storedWord i (pos k) (sent k) != sent k), []⟩ := by
  have inside : (rangeOf n pos sent).any (fun p => decide (p.1 < 0) || decide (((s.table i).words.length : Int) ≤ p.1)) = false := by
    rw [List.any_eq_false]
    intro p mem
    obtain ⟨k, lt, rfl⟩ := List.mem_map.1 mem
    have := within k (List.mem_range.1 lt)
    simp
    omega
  have changed : (rangeOf n pos sent).any (fun p => storedWord i p.1.toNat p.2 != p.2)
      = (List.range n).any fun k => storedWord i (pos k) (sent k) != sent k := by
    rw [rangeOf, List.any_map]
    rfl
  simp only [serveLoad, tableOfCode_natWord, tableRefused, beq_iff_eq, out, edit, range, inside, changed, foldl_rangeOf, if_false,
    Bool.false_eq_true, ne_eq, not_true_eq_false]

end

/-- What a LOAD leaves that stores `n` words, the `k`-th sent at `pos k`, and its answer (R188, R193). -/
def LoadWrites (r : Req) (i : TableId) (s : State) (n : Nat) (pos : Nat → Nat) (sent : Nat → Word) (t : State) : Prop :=
  (∀ k, k < n → LoadedAs i (pos k) (sent k) ((t.table i).words.getD (pos k) 0))
    ∧ (∀ j, (∀ k, k < n → j ≠ pos k) → (t.table i).words.getD j 0 = (s.table i).words.getD j 0)
    ∧ (t.table i).words.length = (s.table i).words.length ∧ (t.table i).state = .edit ∧ (∀ k, k ≠ i → t.table k = s.table k)
    ∧ t = (s.withLpu t.lpu).withTables t.tables
    ∧ Answered r 4 (if ∀ k, k < n → (t.table i).words.getD (pos k) 0 = sent k then 0 else 1) [] s t

section
variable {r : Req} {i : TableId} {first : Word} {mode : Byte} {ws : List Word} {s : State}
  (h : s.lpu.bypass = .off) (out : s.mgu.mode ≠ .run) (edit : (s.table i).state = .edit)
include h out edit

/-- A range of differing indices inside the table is written (R188). -/
theorem load_writes {n : Nat} {pos : Nat → Nat} {sent : Nat → Word}
    (range : loadRange mode.toNat first.toNat ws = some (rangeOf n pos sent))
    (within : ∀ k, k < n → pos k < (s.table i).words.length) (distinct : ∀ j k, j < n → k < n → pos j = pos k → j = k) :
    ∃ t, exec (.loadTable r (natWord i.code) first mode ws) s = .next t ∧ LoadWrites r i s n pos sent t := by
  obtain ⟨t, e, rest, answer⟩ := serve_answered (r := r) (code := 4) (body := serveLoad (natWord i.code) first mode ws) h
    (serveLoad_stores (s := goodFrameSeen s) out edit range within) rfl (Nat.zero_le _)
  have table (j : TableId) : t.table j = ((goodFrameSeen s).setTable i
      { s.table i with words := storedUpTo i pos sent (s.table i).words n }).table j :=
    (congrArg (fun u : State => u.table j) rest).trans rfl
  have same : t.table i = { s.table i with words := storedUpTo i pos sent (s.table i).words n } :=
    (table i).trans (State.setTable_same _ i _)
  have status : (okIf ((List.range n).any fun k => storedWord i (pos k) (sent k) != sent k)).code
      = if ∀ k, k < n → (t.table i).words.getD (pos k) 0 = sent k then 0 else 1 := by
    rw [okIf_code, same]
    by_cases kept : ∀ k, k < n → storedWord i (pos k) (sent k) = sent k
    · have all (k : Nat) (lt : k < n) : (storedUpTo i pos sent (s.table i).words n).getD (pos k) 0 = sent k :=
        (storedUpTo_at distinct within lt).trans (kept k lt)
      rw [if_pos all, if_neg]
      simpa using kept
    · have changed : ¬ ∀ k, k < n → (storedUpTo i pos sent (s.table i).words n).getD (pos k) 0 = sent k :=
        fun all => kept fun k lt => (storedUpTo_at distinct within lt).symm.trans (all k lt)
      rw [if_neg changed, if_pos]
      simpa using kept
  refine ⟨t, e, fun k lt => ?_, fun j other => ?_, ?_, ?_, fun k other => ?_, ?_, ?_⟩
  · rw [same, storedUpTo_at distinct within lt]
    exact loadedAs_storedWord i _ _
  · rw [same]
    exact storedUpTo_other other
  · rw [same]
    exact storedUpTo_length
  · rw [same]
    exact edit
  · exact (table k).trans (State.setTable_other (goodFrameSeen s) _ other)
  · have tables : t.tables = _ := congrArg State.tables rest
    rw [tables]
    exact rest
  · exact status ▸ answer

/-- A range with a word outside the table is refused (R188, R193). -/
theorem load_outside {ps : List (Int × Word)} (range : loadRange mode.toNat first.toNat ws = some ps) {p : Int × Word}
    (mem : p ∈ ps) (outside : p.1 < 0 ∨ ((s.table i).words.length : Int) ≤ p.1) :
    ∃ t, exec (.loadTable r (natWord i.code) first mode ws) s = .next t ∧ NothingElse s t ∧ Answered r 4 6 [] s t :=
  serve_nothingElse (x := .outOfRange) h (serveLoad_outside (s := goodFrameSeen s) out edit range mem outside)

theorem load_noRange (none : loadRange mode.toNat first.toNat ws = none) :
    ∃ t, exec (.loadTable r (natWord i.code) first mode ws) s = .next t ∧ NothingElse s t ∧ Answered r 4 6 [] s t :=
  serve_nothingElse (x := .outOfRange) h (serveLoad_noRange (s := goodFrameSeen s) out edit none)

end

/-- Indices counted upward from the first. -/
theorem rangeOf_up (n a : Nat) (sent : Nat → Word) :
    (List.range n).map (fun k : Nat => ((a : Int) + (k : Int), sent k)) = rangeOf n (fun k => a + k) sent :=
  List.map_congr_left fun k _ => by simp

/-- Indices counted downward from the first, while they do not pass 0. -/
theorem rangeOf_down {n a : Nat} (sent : Nat → Word) (fits : n ≤ a + 1) :
    (List.range n).map (fun k : Nat => ((a : Int) - (k : Int), sent k)) = rangeOf n (fun k => a - k) sent :=
  List.map_congr_left fun k mem => by
    have := List.mem_range.1 mem
    rw [Int.ofNat_sub (by omega)]

/-- Settles O30: each mode's range is that of `loadRange_up`, `_down`, `_fill` or `_single`, and is stored as `load_writes` says. -/
theorem loadRequests : Obligations.LoadRequests := by
  refine ⟨fun r i first s h => ⟨fun out edit => ⟨fun n vs least most enough => ?_, fun n v vs least most => ?_,
    fun mode ws bad => ?_, fun mode c vs bad => ?_⟩, fun out closed mode ws => ?_, fun run mode ws => ?_⟩,
    fun r table first mode ws s h large => ?_⟩
  · have up := loadRange_up first.toNat least most enough
    have down := loadRange_down first.toNat least most enough
    refine ⟨fun fits => ?_, fun beyond => ?_, fun above below => ?_, fun outside => ?_⟩
    · exact load_writes h out edit (up.trans (congrArg some (rangeOf_up n _ _))) (fun k lt => by omega) (fun j k _ _ => by omega)
    · exact load_outside h out edit up (List.mem_map.2 ⟨n - 1, List.mem_range.2 (by omega), rfl⟩) (.inr (by simp; omega))
    · exact load_writes h out edit (down.trans (congrArg some (rangeOf_down _ above))) (fun k lt => by omega)
        (fun j k _ _ => by omega)
    · rcases outside with under | beyond
      · exact load_outside h out edit down (List.mem_map.2 ⟨n - 1, List.mem_range.2 (by omega), rfl⟩) (.inl (by simp; omega))
      · exact load_outside h out edit down (List.mem_map.2 ⟨0, List.mem_range.2 least, rfl⟩) (.inr (by simp; omega))
  · have fill := loadRange_fill first.toNat least most v vs
    have single := loadRange_single first.toNat least most v vs
    refine ⟨fun fits => ?_, fun beyond => ?_, fun inside => ?_, fun outside => ?_⟩
    · exact load_writes h out edit (fill.trans (congrArg some (rangeOf_up n _ fun _ => v))) (fun k lt => by omega)
        (fun j k _ _ => by omega)
    · exact load_outside h out edit fill (List.mem_map.2 ⟨n - 1, List.mem_range.2 (by omega), rfl⟩) (.inr (by simp; omega))
    · exact load_writes h out edit single (fun k _ => inside) (fun j k _ _ => by omega)
    · exact load_outside h out edit single (List.mem_map.2 ⟨0, List.mem_range.2 (by omega), rfl⟩) (.inr (by simp; omega))
  · exact load_noRange h out edit (loadRange_badMode _ _ _ bad)
  · exact load_noRange h out edit (loadRange_badCount _ _ _ _ bad)
  · exact serve_nothingElse (x := .notOpen) h (serveLoad_notOpen (s := goodFrameSeen s) out closed)
  · exact serve_nothingElse (x := .refusedMode) h (serveLoad_run (s := goodFrameSeen s) run)
  · exact serve_nothingElse (x := .outOfRange) h (serveLoad_noTable large)

end Sys2Proof.Machine
end

section
/-! FORCE, ACK and READ_ALARMS (R159 to R161): O35 and O36. -/

namespace Sys2Proof.Machine

/-! ### Requests that the other blocks only react to -/

/-- A request whose serving leaves a reaction alone is answered, and the blocks that measure or configure stand. -/
theorem serve_reacts {r : Req} {code : Nat} {body : State → Reply} {s : State} {p : Reply} (h : s.lpu.bypass = .off)
    (b : body (goodFrameSeen s) = p) (reacts : Reacts (goodFrameSeen s) p.state) (v : p.values.length ≤ 20) :
    ∃ t, serve r code body s = .next t ∧ t = p.state.withLpu t.lpu ∧ Answered r code p.status.code p.values s t
      ∧ SameConfig s t ∧ SameMeasured s t := by
  obtain ⟨t, e, rest, answer⟩ := serve_answered (r := r) (code := code) h b reacts.lpu v
  refine ⟨t, e, rest, answer, ?_, ?_⟩
  · rw [rest]
    exact ⟨reacts.items, reacts.tables⟩
  · rw [rest]
    exact ⟨reacts.tru, reacts.dgu, reacts.env⟩

/-! ### What an idle sequencer leaves of the record (R136, R144) -/

/-- A device whose alarm record is `a` but for the severities handed, the position and the sequencer as in `s`. -/
structure RecordTaken (s : State) (a : Alu) (t : State) : Prop where
  pos : t.pos = s.pos
  wsq : t.wsq = s.wsq
  list : t.alu.list = a.list
  seq : t.alu.seq = a.seq
  cond : ∀ n, t.alu.cond n = a.cond n

theorem RecordTaken.of_same {u s t : State} {a : Alu} (h : RecordTaken u a t) (pos : u.pos = s.pos) (wsq : u.wsq = s.wsq) :
    RecordTaken s a t :=
  ⟨h.pos.trans pos, h.wsq.trans wsq, h.list, h.seq, h.cond⟩

/-- Neither the request's arrival nor its answer touches the record, the position or the sequencer. -/
theorem RecordTaken.port {s t : State} {a : Alu} (h : RecordTaken (goodFrameSeen s) a t) (l : Lpu) : RecordTaken s a (t.withLpu l) :=
  ⟨h.pos, h.wsq, h.list, h.seq, h.cond⟩

section
variable {s : State} (idle : SequencerIdle s)

/-- The severities recomputed and handed are the ALU's only change where nothing is reported. -/
theorem recordTaken_aluTake (s : State) : RecordTaken s s.alu (aluTake [] s) := by
  have alu : (aluTake [] s).alu = { s.alu with severity := s.alu.groupSeverities s.tables.t10 } := aluTake_alu [] s
  refine ⟨(aluTake_heading [] s).1, aluTake_wsq [] s, ?_, ?_, fun n => ?_⟩
  · rw [alu]
  · rw [alu]
  · rw [alu]
    rfl

include idle

theorem recordTaken_acknowledged (ns : List Nat) :
    RecordTaken s (s.alu.acknowledgeAll s.aluCtx ns) (acknowledged ns s) := by
  rw [acknowledged, report_idle [] (s.withAlu (s.alu.acknowledgeAll s.aluCtx ns)) idle.1 idle.2]
  exact (recordTaken_aluTake (s.withAlu (s.alu.acknowledgeAll s.aluCtx ns))).of_same rfl rfl

theorem recordTaken_forceCondition (n : Nat) :
    RecordTaken s (s.alu.occasion s.aluCtx n none true) (forceCondition n s) := by
  let e := Effect.none.ofEvent s.tables.t10 n
  let u := aluAct e (s.withAlu (s.alu.occasion s.aluCtx n none true))
  obtain ⟨x, m, p, shape⟩ := aluAct_eq e (s.withAlu (s.alu.occasion s.aluCtx n none true))
  have alu : u.alu = { s.alu.occasion s.aluCtx n none true with
      severity := (s.alu.occasion s.aluCtx n none true).groupSeverities s.tables.t10 } :=
    aluAct_alu e (s.withAlu (s.alu.occasion s.aluCtx n none true))
  have wsq : u.wsq = s.wsq := (congrArg State.wsq shape).trans rfl
  have pos : u.pos = s.pos := (congrArg State.pos shape).trans rfl
  have rests : SequencerIdle u := by
    rw [SequencerIdle, wsq]
    exact idle
  have forced : forceCondition n s = aluTake [] u := by
    show settleMove (reactToGroups u) = _
    rw [reactToGroups_idle u rests.1 rests.2]
    exact settleMove_idle rests
  have taken := (recordTaken_aluTake u).of_same pos wsq
  rw [forced]
  refine ⟨taken.pos, taken.wsq, taken.list.trans ?_, taken.seq.trans ?_, fun k => (taken.cond k).trans ?_⟩
  · rw [alu]
  · rw [alu]
  · rw [alu]
    rfl

end

/-! ### FORCE (R161) -/

theorem reacts_forceCondition (n : Nat) (s : State) : Reacts s (forceCondition n s) :=
  reacts_settleMove s _ (((reacts_withAlu s _).trans (reacts_aluAct _ _)).trans (reacts_reactToGroups _))

section
variable {c : Word} {s : State}

theorem serveForce_noCondition (beyond : 59 < c.toNat) : serveForce c s = refuse s .outOfRange := by
  have beyond : Config.conditionCount ≤ c.toNat := beyond
  simp only [serveForce, if_pos beyond]

variable (known : c.toNat ≤ 59)
include known

theorem serveForce_mode (mode : s.mgu.mode ≠ .standby) : serveForce c s = refuse s .refusedMode := by
  have known : ¬ Config.conditionCount ≤ c.toNat := Nat.not_le.2 (Nat.lt_succ_of_le known)
  cases k : s.mgu.mode with
  | run => simp only [serveForce, if_neg known, k]
  | halted => simp only [serveForce, if_neg known, k]
  | standby => exact absurd k mode

/-- In STANDBY the condition's mask and, of a level, its raw state are tested (R161). -/
theorem serveForce_standby (mode : s.mgu.mode = .standby) : serveForce c s
    = if effMask s.tables.t10 c.toNat || (!(condSpec c.toNat).event && s.alu.raised c.toNat) then refuse s .notReady
      else ⟨forceCondition c.toNat s, .ok, []⟩ := by
  have known : ¬ Config.conditionCount ≤ c.toNat := Nat.not_le.2 (Nat.lt_succ_of_le known)
  simp only [serveForce, if_neg known, mode]

end

/-- Settles O35: the tests in their order, and the occasion as an idle sequencer leaves it. -/
theorem forceRequests : Obligations.ForceRequests := by
  intro r c s h ok
  refine ⟨fun beyond => ?_, fun known mode => ?_, fun known mode unfit => ?_, fun known mode unmasked fit => ?_⟩
  · exact serve_nothingElse (x := .outOfRange) h (serveForce_noCondition beyond)
  · exact serve_nothingElse (x := .refusedMode) h (serveForce_mode (s := goodFrameSeen s) known mode)
  · have refused : (effMask s.tables.t10 c.toNat || (!(condSpec c.toNat).event && s.alu.raised c.toNat)) = true := by
      simpa using unfit
    exact serve_nothingElse (x := .notReady) h
      ((serveForce_standby (s := goodFrameSeen s) known mode).trans (if_pos refused))
  · have allowed : ¬ (effMask s.tables.t10 c.toNat || (!(condSpec c.toNat).event && s.alu.raised c.toNat)) = true := by
      rw [unmasked]
      rcases fit with event | fallen
      · simp [event]
      · simp [fallen]
    obtain ⟨t, e, rest, answer, config, measured⟩ := serve_reacts (r := r) (code := 12) (body := serveForce c) h
      ((serveForce_standby (s := goodFrameSeen s) known mode).trans (if_neg allowed)) (reacts_forceCondition _ _) (Nat.zero_le _)
    refine ⟨t, e, answer, config, measured, fun idle => ?_⟩
    have taken : RecordTaken s (s.alu.occasion s.aluCtx c.toNat none true) t := by
      rw [rest]
      exact (recordTaken_forceCondition (s := goodFrameSeen s) idle c.toNat).port t.lpu
    have within : c.toNat < s.alu.conds.length := ok.1.symm ▸ Nat.lt_succ_of_le known
    obtain ⟨detail, forced, raised⟩ := occasion_cond s.aluCtx c.toNat none true s.alu within unmasked
    refine ⟨(congrArg Cond.forced (taken.cond _)).trans forced, (congrArg Cond.detail (taken.cond _)).trans detail,
      (congrArg Cond.raised (taken.cond _)).trans raised, taken.pos, taken.wsq, fun quiet room => ?_⟩
    obtain ⟨list, listing⟩ := occasion_new (ctx := s.aluCtx) none true within unmasked quiet room
    exact ⟨(congrArg Cond.listing (taken.cond _)).trans listing, taken.list.trans list⟩

/-! ### Acknowledgements (R154, R157 to R160) -/

/-- Relisting leaves the records of the conditions that are not UNLISTED (R157). -/
theorem relist_cond {ctx : AluCtx} {a : Alu} (length : a.conds.length = 60) {n : Nat} (within : n < 60)
    (entered : (a.cond n).listing ≠ .unlisted) : (a.relist ctx).cond n = a.cond n := by
  rcases nextUnlisted_eq ctx.t10 a with ⟨-, next⟩ | ⟨m, next, mem, -⟩
  · simp only [Alu.relist, next]
  · have differs : n ≠ m := fun same => entered (same ▸ (Alu.mem_unlisted.1 mem).2)
    simp only [Alu.relist, next]
    split
    · exact (Alu.setListing_cond length .activeNew within).trans (if_neg differs)
    · rfl

/-- An acknowledgement makes ACTIVE_NEW ACTIVE_SEEN and GONE_NEW QUIET (R154). -/
theorem acknowledge_listing (ctx : AluCtx) {a : Alu} (length : a.conds.length = 60) {n : Nat} (within : n < 60) :
    ((a.acknowledge ctx n).cond n).listing = (match (a.cond n).listing with
      | .activeNew => .activeSeen
      | .goneNew => .quiet
      | x => x) := by
  unfold Alu.acknowledge
  cases k : (a.cond n).listing with
  | activeNew =>
    show ((a.setListing n .activeSeen).cond n).listing = _
    rw [Alu.setListing_cond length _ within, if_pos rfl]
  | goneNew =>
    have out : ((a.takenOut n).cond n).listing = .quiet := by
      rw [Alu.takenOut, Alu.setListing_cond (a := a.remove n) length _ within, if_pos rfl]
    have outLength : (a.takenOut n).conds.length = 60 := (listingOnly_setListing (a.remove n) n _).length.trans length
    show (((a.takenOut n).relist ctx).cond n).listing = _
    rw [relist_cond outLength within (by rw [out]; decide), out]
  | quiet | activeSeen | unlisted => exact k

/-- One acknowledgement; of an UNLISTED condition, which has no entry, it changes nothing (R159). -/
theorem ackedAs_single {ctx : AluCtx} {a : Alu} (listed : a.Listed) {n : Nat} (within : n < 60) :
    ∃ new, a.AckedAs [n] ctx new (a.acknowledge ctx n) := by
  by_cases unlisted : (a.cond n).listing = .unlisted
  · have same : a.acknowledge ctx n = a := by simp only [Alu.acknowledge, unlisted]
    have own : a.cond n = { a.cond n with listing := a.listingAfter [n] [] n } := by
      have after : a.listingAfter [n] [] n = (a.cond n).listing := by simp [Alu.listingAfter, unlisted]
      rw [after]
    rw [same]
    exact ⟨[], (Alu.AckedAs.nil listed).stays (ns := []) (by rw [unlisted]; decide) listed.length rfl rfl own fun _ _ _ => rfl⟩
  · exact (Alu.AckedAs.nil listed).step (ns := []) listed within List.not_mem_nil unlisted

/-- Entries of the list acknowledged, each once (R158, R160). -/
theorem ackedAs_entries {ctx : AluCtx} {a : Alu} (listed : a.Listed) {es : List Entry} (part : es.Sublist a.list) :
    ∃ new, a.AckedAs (es.map Entry.cond) ctx new (a.acknowledgeAll ctx (es.map Entry.cond)) := by
  have known (n : Nat) (mem : n ∈ es.map Entry.cond) : n < 60 := by
    obtain ⟨e, inPart, rfl⟩ := List.mem_map.1 mem
    exact listed.known e (part.subset inPart)
  have entered (n : Nat) (mem : n ∈ es.map Entry.cond) : (a.cond n).listing ≠ .unlisted := fun unlisted => by
    obtain ⟨e, inPart, cond⟩ := List.mem_map.1 mem
    have has := (listed.entry n (known n mem)).2 ⟨e, part.subset inPart, cond⟩
    rw [unlisted] at has
    exact nomatch has
  exact (Alu.AckedAs.nil listed).all (ns := []) listed _ known (listed.nodup.sublist (part.map _)) entered

theorem RecordTaken.acknowledged {s t : State} {ns : List Nat} {new : List Entry} {b : Alu} (h : RecordTaken s b t)
    (listed : s.alu.Listed) (acked : s.alu.AckedAs ns s.aluCtx new b) : Acknowledged ns s t :=
  acknowledged_of_ackedAs acked listed.numbered h.list h.seq h.cond

theorem reacts_acknowledged (ns : List Nat) (s : State) : Reacts s (acknowledged ns s) :=
  (reacts_withAlu s _).trans (reacts_report [] _)

/-- A request that acknowledges is answered, and the record is as the acknowledgements leave it. -/
theorem serve_acknowledged {r : Req} {code : Nat} {body : State → Reply} {s : State} {ns : List Nat} {x : Status} {vs : List Word}
    (h : s.lpu.bypass = .off) (b : body (goodFrameSeen s) = ⟨acknowledged ns (goodFrameSeen s), x, vs⟩) (v : vs.length ≤ 20) :
    ∃ t, serve r code body s = .next t ∧ Answered r code x.code vs s t ∧ SameConfig s t ∧ SameMeasured s t
      ∧ (SequencerIdle s → RecordTaken s (s.alu.acknowledgeAll s.aluCtx ns) t) := by
  obtain ⟨t, e, rest, answer, config, measured⟩ := serve_reacts (r := r) (code := code) h b (reacts_acknowledged ns _) v
  refine ⟨t, e, answer, config, measured, fun idle => ?_⟩
  rw [rest]
  exact (recordTaken_acknowledged (s := goodFrameSeen s) idle ns).port t.lpu

/-! ### The requests -/

section
variable {s : State}

theorem serveAck_one {c : Word} (known : c.toNat ≤ 59) : serveAck c s = ⟨acknowledged [c.toNat] s, .ok, []⟩ := by
  have one : c.toNat ≠ 255 := by omega
  have known : c.toNat < Config.conditionCount := Nat.lt_succ_of_le known
  simp only [serveAck, if_neg one, if_pos known]

theorem serveAck_all : serveAck 255 s = ⟨acknowledged (s.alu.list.map Entry.cond) s, .ok, []⟩ := by
  simp only [serveAck, if_pos (show (255 : Word).toNat = 255 from rfl)]

theorem serveAck_none {c : Word} (beyond : 59 < c.toNat) (other : c.toNat ≠ 255) : serveAck c s = refuse s .outOfRange := by
  have unknown : ¬ c.toNat < Config.conditionCount := Nat.not_lt.2 beyond
  simp only [serveAck, if_neg other, if_neg unknown]

/-- An entry takes five words (chapter 12.5). -/
theorem entryWords_flatMap_length (es : List Entry) : (es.flatMap (entryWords s)).length = 5 * es.length := by
  induction es with
  | nil => rfl
  | cons e es ih =>
    rw [List.flatMap_cons, List.length_append, ih, List.length_cons, show (entryWords s e).length = 5 from rfl]
    omega

theorem serveReadAlarms_beyond {p : Word} (n : Byte) (beyond : 31 < p.toNat) : serveReadAlarms p n s = refuse s .outOfRange :=
  if_pos beyond

/-- Under OPERATOR a read within the list answers the entries as they stand (R160). -/
theorem serveReadAlarms_operator {p : Word} (n : Byte) (within : p.toNat ≤ 31) (method : s.items.ackMethod = .operator) :
    serveReadAlarms p n s = ⟨s, okIf (clampNat 1 4 n.toNat != n.toNat),
      (entriesRead p.toNat (clampNat 1 4 n.toNat) s).flatMap (entryWords s)⟩ := by
  simp only [serveReadAlarms, if_neg (Nat.not_lt.2 within), if_pos method]

/-- Under READ and BOTH the entries, answered as they stood, are acknowledged (R160). -/
theorem serveReadAlarms_acknowledges {p : Word} (n : Byte) (within : p.toNat ≤ 31) (method : s.items.ackMethod ≠ .operator) :
    serveReadAlarms p n s = ⟨acknowledged ((entriesRead p.toNat (clampNat 1 4 n.toNat) s).map Entry.cond) s,
      okIf (clampNat 1 4 n.toNat != n.toNat), (entriesRead p.toNat (clampNat 1 4 n.toNat) s).flatMap (entryWords s)⟩ := by
  simp only [serveReadAlarms, if_neg (Nat.not_lt.2 within), if_neg method]

end

theorem okIf_clampNat (n : Nat) : (okIf (clampNat 1 4 n != n)).code = if 1 ≤ n ∧ n ≤ 4 then 0 else 1 := by
  rw [okIf_code]
  by_cases within : 1 ≤ n ∧ n ≤ 4
  · rw [if_pos within, if_neg]
    simp [clampNat]
    omega
  · rw [if_neg within, if_pos]
    simp [clampNat]
    omega

/-- A READ_ALARMS within the list: its answer, and the entries it carried acknowledged but under OPERATOR (R160). -/
theorem readAlarms_in {r : Req} {s : State} (h : s.lpu.bypass = .off) (ok : AlarmsOk s) {p : Word} (n : Byte)
    (within : p.toNat ≤ 31) {es : List Entry} (read : es = (s.alu.list.drop p.toNat).take (max 1 (min 4 n.toNat))) :
    ∃ t, exec (.readAlarms r p n) s = .next t
      ∧ Answered r 14 (if 1 ≤ n.toNat ∧ n.toNat ≤ 4 then 0 else 1) (es.flatMap (entryWords s)) s t
      ∧ SameConfig s t ∧ SameMeasured s t ∧ (s.items.ackMethod = .operator → NothingElse s t)
      ∧ (s.items.ackMethod ≠ .operator → SequencerIdle s → ListingOk s →
          t.pos = s.pos ∧ t.wsq = s.wsq ∧ Acknowledged (es.map Entry.cond) s t) := by
  subst read
  have few : ((entriesRead p.toNat (clampNat 1 4 n.toNat) s).flatMap (entryWords s)).length ≤ 20 := by
    rw [entryWords_flatMap_length, entriesRead, List.length_take, clampNat]
    omega
  rw [← okIf_clampNat]
  by_cases method : s.items.ackMethod = .operator
  · obtain ⟨t, e, rest, answer, config, measured⟩ := serve_reacts (r := r) (code := 14) (body := serveReadAlarms p n) h
      (serveReadAlarms_operator (s := goodFrameSeen s) n within method) (.refl _) few
    exact ⟨t, e, answer, config, measured, fun _ => ⟨⟨t.lpu, rest⟩, answer.2.2.1⟩, fun other => absurd method other⟩
  · obtain ⟨t, e, answer, config, measured, idled⟩ := serve_acknowledged (r := r) (code := 14) (body := serveReadAlarms p n) h
      (serveReadAlarms_acknowledges (s := goodFrameSeen s) n within method) few
    refine ⟨t, e, answer, config, measured, fun operator => absurd operator method, fun _ idle listing => ?_⟩
    have listed := listed_of_listingOk ok listing
    obtain ⟨new, acked⟩ := ackedAs_entries (ctx := s.aluCtx) listed
      ((List.take_sublist (max 1 (min 4 n.toNat)) _).trans (List.drop_sublist p.toNat s.alu.list))
    exact ⟨(idled idle).pos, (idled idle).wsq, (idled idle).acknowledged listed acked⟩

/-- Settles O36: an ACK of one condition, of the whole list and of none, and READ_ALARMS beyond and within the list. -/
theorem alarmRequests : Obligations.AlarmRequests := by
  intro r s h ok
  refine ⟨fun c known => ?_, ?_, fun c beyond other => ?_, fun p n beyond => ?_, fun p n within => ?_⟩
  · obtain ⟨t, e, answer, config, measured, idled⟩ := serve_acknowledged (r := r) (code := 13) (body := serveAck c) h
      (serveAck_one known) (Nat.zero_le _)
    have below : c.toNat < 60 := Nat.lt_succ_of_le known
    refine ⟨t, e, answer, config, measured, fun idle => ?_⟩
    obtain ⟨pos, wsq, -, -, cond⟩ := idled idle
    refine ⟨pos, wsq, ?_, ?_, fun listing => ?_⟩
    · exact (congrArg Cond.raised (cond _)).trans ((listingOnly_acknowledge s.aluCtx c.toNat s.alu).raised _)
    · exact (congrArg Cond.listing (cond _)).trans (acknowledge_listing s.aluCtx ok.1 below)
    · have listed := listed_of_listingOk ok listing
      obtain ⟨new, acked⟩ := ackedAs_single (ctx := s.aluCtx) listed below
      exact (idled idle).acknowledged listed acked
  · obtain ⟨t, e, answer, config, measured, idled⟩ := serve_acknowledged (r := r) (code := 13) (body := serveAck 255) h
      serveAck_all (Nat.zero_le _)
    refine ⟨t, e, answer, config, measured, fun idle listing => ?_⟩
    have listed := listed_of_listingOk ok listing
    obtain ⟨new, acked⟩ := ackedAs_entries (ctx := s.aluCtx) listed (List.Sublist.refl s.alu.list)
    exact ⟨(idled idle).pos, (idled idle).wsq, (idled idle).acknowledged listed acked⟩
  · exact serve_nothingElse (x := .outOfRange) h (serveAck_none beyond other)
  · exact serve_nothingElse (x := .outOfRange) h (serveReadAlarms_beyond n beyond)
  · obtain ⟨t, e, answer, config, measured, operator, others⟩ := readAlarms_in (r := r) h ok n within rfl
    refine ⟨t, e, answer, ?_, config, measured, operator, others⟩
    rw [entryWords_flatMap_length, List.length_take, List.length_drop]

end Sys2Proof.Machine
end

section
/-! What a CYCLE marker's work leaves of the port, the queue of commands, the load FIFO, the PULSE flags and LOOP_SILENT (R171): only the
number is taken and the condition lowered before it, and only the load pushed in it. -/

namespace Sys2Proof.Machine

/-- What a movement of the swing angle leaves of the SWU: the load and its FIFO stand, and no PULSE flag falls (R122 to R124). -/
structure LoadStands (u v : Swu) : Prop where
  fifo : v.fifo = u.fifo
  torque : v.heldTorque = u.heldTorque
  pulse : ∀ k, (u.marks.getD k .reset).pulse = true → (v.marks.getD k .reset).pulse = true

theorem LoadStands.refl (u : Swu) : LoadStands u u := ⟨rfl, rfl, fun _ => id⟩

theorem LoadStands.trans {u v w : Swu} (h : LoadStands u v) (k : LoadStands v w) : LoadStands u w :=
  ⟨k.fifo.trans h.fifo, k.torque.trans h.torque, fun n x => k.pulse n (h.pulse n x)⟩

theorem Reacts.loadStands {s t : State} (h : Reacts s t) : LoadStands s.swu t.swu := by
  rw [h.swu]
  exact ⟨rfl, rfl, fun _ => id⟩

theorem cross_pulse (pulse : Bool) (dir : CrossDir) {m : Mark} (set : m.pulse = true) : (m.cross pulse dir).pulse = true := by
  unfold Mark.cross
  split
  · rfl
  · exact set

/-- A crossing sets flags and clears none (R123). -/
theorem crossMarks_pulse (t7 : Table) (old new : Int) (ms : List Mark) (k : Nat) (set : (ms.getD k .reset).pulse = true) :
    ((crossMarks t7 old new ms).getD k .reset).pulse = true := by
  simp only [crossMarks, List.getD_eq_getElem?_getD, List.getElem?_mapIdx] at set ⊢
  cases e : ms[k]? with
  | none => simp [e, Mark.reset] at set
  | some m =>
    have here : m.pulse = true := by simpa [e] using set
    simp only [Option.map_some, Option.getD_some]
    split
    · split
      · exact cross_pulse _ _ here
      · exact here
    · exact here

theorem loadStands_takeHr (hr : Int) (c : HrCause) (doubt heading : Bool) (s : State) :
    LoadStands s.swu (takeHr hr c doubt heading s).1.swu := by
  refine ⟨rfl, rfl, fun k set => ?_⟩
  simp only [takeHr, State.withSwu_swu]
  split
  · exact crossMarks_pulse _ _ _ _ k set
  · exact set

section
variable {u : Swu} {s : State}

theorem LoadStands.report (k : LoadStands u s.swu) (rs : List Report) : LoadStands u (report rs s).swu :=
  k.trans (reacts_report rs s).loadStands

theorem LoadStands.takeCam (k : LoadStands u s.swu) (c : Int) (chan : ChanState) : LoadStands u (takeCam c chan s).1.swu := by
  simp only [Machine.takeCam]
  split
  · refine LoadStands.trans ?_ (reacts_park _).loadStands
    exact k
  · exact k

theorem loadStands_updateDrum (d : Drum) (k : LoadStands u s.swu) : LoadStands u (updateDrum d s).swu := by
  refine LoadStands.report ?_ _
  exact k

theorem loadStands_updateHouse (c : HrCause) (k : LoadStands u s.swu) : LoadStands u (updateHouse c s).swu := by
  refine LoadStands.report (LoadStands.report ?_ _) _
  exact k.trans (loadStands_takeHr _ c _ _ (s.withPos _))

theorem loadStands_updateCam (k : LoadStands u s.swu) : LoadStands u (updateCam s).swu := by
  refine LoadStands.report (LoadStands.takeCam ?_ _ _) _
  exact k

end

theorem loadStands_handOff (a : Axis) (recovered : Bool) (s : State) : LoadStands s.swu (handOff a recovered s).swu := by
  unfold handOff updateAxis
  cases a
  case hoist | drag => exact loadStands_updateDrum (s := s.withPos _) _ (.refl _)
  case swing => exact loadStands_updateHouse (s := s.withPos _) _ (.refl _)
  case walk => exact loadStands_updateCam (s := s.withPos _) (.refl _)

/-! ### Marker work -/

/-- What the marker work of a block other than the port leaves (R171); once the DGU has handed its hoist torque to the SWU, that torque
stays handed. -/
structure MarkerKept (s t : State) : Prop where
  lpu : t.lpu = s.lpu
  pending : t.pending = s.pending
  silent : t.alu.raised cLoopSilent = s.alu.raised cLoopSilent
  fifo : t.swu.fifo = s.swu.fifo
  pulse : ∀ k, (s.swu.marks.getD k .reset).pulse = true → (t.swu.marks.getD k .reset).pulse = true
  handed : s.swu.heldTorque = s.dgu.values.hoist.torque → t.swu.heldTorque = t.dgu.values.hoist.torque

theorem MarkerKept.refl (s : State) : MarkerKept s s := ⟨rfl, rfl, rfl, rfl, fun _ => id, id⟩

theorem MarkerKept.trans {a b c : State} (h : MarkerKept a b) (k : MarkerKept b c) : MarkerKept a c :=
  ⟨k.lpu.trans h.lpu, k.pending.trans h.pending, k.silent.trans h.silent, k.fifo.trans h.fifo,
    fun n x => k.pulse n (h.pulse n x), fun x => k.handed (h.handed x)⟩

theorem Reacts.markerKept {s t : State} (h : Reacts s t) (silent : CondKept cLoopSilent s t) : MarkerKept s t :=
  ⟨h.lpu, h.pending, silent.raised, h.loadStands.fifo, h.loadStands.pulse,
    fun x => (h.loadStands.torque.trans x).trans (congrArg (·.values.hoist.torque) h.dgu.symm)⟩

section
variable {s u : State}

theorem silent_not_reaction : cLoopSilent ∉ reactionNumbers := by decide

theorem MarkerKept.report (k : MarkerKept s u) (rs : List Report) (other : ∀ r ∈ rs, r.number ≠ cLoopSilent) :
    MarkerKept s (report rs u) :=
  k.trans ((reacts_report rs u).markerKept (condKept_report rs silent_not_reaction other (condKept_of_alu rfl)))

theorem MarkerKept.settleMove {m : Move} (k : MarkerKept s u) (reacts : Reacts u m.1) (alu : m.1.alu = u.alu)
    (other : ∀ r ∈ m.2, r.number ≠ cLoopSilent) : MarkerKept s (settleMove m) :=
  (k.trans (reacts.markerKept (condKept_of_alu alu))).report m.2 other

theorem markerKept_handOff (a : Axis) (recovered : Bool) (k : MarkerKept s u) : MarkerKept s (handOff a recovered u) := by
  have hands := handsOff_handOff a recovered u
  have load := loadStands_handOff a recovered u
  have silent : CondKept cLoopSilent u (handOff a recovered u) := condKept_handOff a recovered (by decide) (condKept_of_alu rfl)
  have dgu := handOff_dgu a recovered u
  exact k.trans ⟨hands.lpu, hands.pending, silent.raised, load.fifo, load.pulse, fun x => by rw [load.torque, x, dgu]⟩

theorem markerKept_channelMarker (a : Axis) (k : MarkerKept s u) : MarkerKept s (channelMarker u a) := by
  have set : MarkerKept s (u.setChan a (markChannel (u.chanCtx a) (u.chan a)).chan) :=
    k.trans ⟨rfl, rfl, rfl, rfl, fun _ => id, id⟩
  have reported := set.report (markChannel (u.chanCtx a) (u.chan a)).reports fun r mem e => by
    rcases markChannel_numbers _ _ r mem with x | x
    · exact ne_cTrackFault (n := cLoopSilent) _ (.inl (by decide)) (e.symm.trans x)
    · exact absurd (e.symm.trans x) (by decide)
  simp only [channelMarker]
  split
  · split
    · exact reported
    · exact markerKept_handOff a false reported
  · exact set

theorem markerKept_channelMarkers (as : List Axis) (k : MarkerKept s u) : MarkerKept s (as.foldl channelMarker u) := by
  induction as generalizing u with
  | nil => exact k
  | cons a as ih => exact ih (markerKept_channelMarker a k)

theorem driveReports_notSilent (d : Dgu) : ∀ r ∈ driveReports d, r.number ≠ cLoopSilent :=
  fun r mem e => absurd (driveReports_numbers d r mem) (by rw [e]; decide)

theorem reactToSummary_notSilent (s : State) : ∀ r ∈ (reactToSummary s).2, r.number ≠ cLoopSilent :=
  fun r mem e => silent_not_reaction (e ▸ reactToSummary_numbers s r mem)

theorem markerKept_handDrives (extra : List Report) (other : ∀ r ∈ extra, r.number ≠ cLoopSilent) (k : MarkerKept s u) :
    MarkerKept s (handDrives extra u) := by
  let v := (u.withDgu u.dgu.recompute).withSwu { u.swu with heldTorque := u.dgu.recompute.values.hoist.torque }
  have handed : MarkerKept s v := k.trans ⟨rfl, rfl, rfl, rfl, fun _ => id, fun _ => rfl⟩
  have settled : MarkerKept s (if u.dgu.recompute.summary = u.dgu.summary then v else settleMove (reactToSummary v)) := by
    split
    · exact handed
    · exact handed.settleMove (reacts_reactToSummary v) (reactToSummary_alu v) (reactToSummary_notSilent v)
  exact settled.report _ fun r mem => (List.mem_append.1 mem).elim (other r) (driveReports_notSilent _ r)

theorem markerKept_driveMarker (k : MarkerKept s u) : MarkerKept s (driveMarker u) := by
  have marked : MarkerKept s (u.withDgu (markedDgu u.items u.dgu)) := k.trans ⟨rfl, rfl, rfl, rfl, fun _ => id, id⟩
  rw [driveMarker_eq]
  refine markerKept_handDrives _ (List.forall_mem_singleton.2 ?_) marked
  show cDiscreteStale ≠ cLoopSilent
  decide

/-- The DGU's marker work hands the hoist torque on (R65). -/
theorem driveMarker_torque (s : State) : (driveMarker s).swu.heldTorque = (driveMarker s).dgu.values.hoist.torque := by
  rw [driveMarker_eq, handDrives_torque, handDrives_dgu]

theorem markerKept_lossMarker (g : Axis) (k : MarkerKept s u) : MarkerKept s (lossMarker g u) := by
  simp only [lossMarker]
  split
  · refine MarkerKept.report ?_ _ (List.forall_mem_singleton.2 (by cases g <;> decide))
    exact k.trans ⟨rfl, rfl, rfl, rfl, fun _ => id, id⟩
  · exact k.trans ⟨rfl, rfl, rfl, rfl, fun _ => id, id⟩

theorem markerKept_lossMarkers (gs : List Axis) (k : MarkerKept s u) : MarkerKept s (gs.foldl (fun s g => lossMarker g s) u) := by
  induction gs generalizing u with
  | nil => exact k
  | cons g gs ih => exact ih (markerKept_lossMarker g k)

theorem markerKept_seqMarker (k : MarkerKept s u) : MarkerKept s (seqMarker u) := by
  refine k.settleMove ((reacts_transferMarker u).trans (reacts_shoeMarker _)) ((shoeMarker_alu _).trans (transferMarker_alu u))
    fun r mem => ?_
  rcases List.mem_append.1 mem with m | m
  · rw [transferMarker_numbers _ r m]; decide
  · rcases shoeMarker_numbers _ r m with e | e <;> rw [e] <;> decide

/-! ### The marker's number -/

theorem takeNumber_lpu (n : Word) (s : State) : (takeNumber n s).lpu = { s.lpu with lastCycle := n.toNat } := by
  simp only [takeNumber]
  split
  · exact (reacts_report _ _).lpu
  · rfl

/-- The blocks' marker work before the load is pushed, all but the number's arrival and the DGU's share. -/
theorem markBeforeSeq_eq (n : Word) (s : State) : ∃ v, MarkerKept (takeNumber n s) v ∧ v.swu.heldTorque = v.dgu.values.hoist.torque
    ∧ markBeforeSeq n s = v.withSwu (pushLoad v.swu) := by
  have driven := markerKept_driveMarker (markerKept_channelMarkers Axis.all (.refl (takeNumber n s)))
  refine ⟨_, markerKept_lossMarkers Axis.all driven, ?_, rfl⟩
  exact (markerKept_lossMarkers Axis.all (.refl _)).handed (driveMarker_torque _)

/-- The blocks' marker work leaves the port as the number's arrival left it (R171). -/
theorem seqMarker_lpu (n : Word) (s : State) : (seqMarker (markBeforeSeq n s)).lpu = { s.lpu with lastCycle := n.toNat } := by
  obtain ⟨v, kept, -, pushed⟩ := markBeforeSeq_eq n s
  calc (seqMarker (markBeforeSeq n s)).lpu
      = (markBeforeSeq n s).lpu := (markerKept_seqMarker (.refl _)).lpu
    _ = v.lpu := by rw [pushed]; rfl
    _ = (takeNumber n s).lpu := kept.lpu
    _ = { s.lpu with lastCycle := n.toNat } := takeNumber_lpu n s

end

end Sys2Proof.Machine
end

section
/-! The transmit queue's capacity (R173): no block's work but the port's touches the queue, and a frame enters only where there is room: O3. -/

namespace Sys2Proof.Machine

section
variable {s : State}

/-! ### What frames do beside the port -/

theorem shape_lpu (g : Axis) (lever : Word) (s : State) : (shape g lever s).state.lpu = s.lpu :=
  (shapeKept_shape g lever s).lpu.trans (frameKept_leverTaken g lever s).lpu

theorem reported_lpu (g : Axis) (lever : Word) (s : State) : (reported g lever s).lpu = s.lpu :=
  (reacts_report _ _).lpu.trans (shape_lpu g lever s)

theorem takeSampleFrame_lpu (src : Byte) (d : SampleData) (s : State) : (takeSampleFrame src d s).lpu = s.lpu := by
  simp only [takeSampleFrame]
  split
  · rfl
  · split
    · rfl
    · exact (handsOff_handOff _ _ _).lpu.trans (reacts_report _ _).lpu

theorem takeDiscreteFrame_lpu (src : Byte) (low high : Word) (s : State) : (takeDiscreteFrame src low high s).lpu = s.lpu := by
  simp only [takeDiscreteFrame]
  split
  · exact (handsOff_loadReported _ _ _).lpu
  · rfl

theorem takeDriveStatus_lpu (src : Nat) (d : DriveData) (s : State) : (takeDriveStatus src d s).lpu = s.lpu := by
  simp only [takeDriveStatus]
  split
  · exact (handsOff_handDrives [] _).lpu
  · rfl

theorem ownersReport_lpu (s : State) : (ownersReport s).lpu = s.lpu := by
  unfold ownersReport
  split <;> exact (reacts_report _ _).lpu.trans (reacts_report _ _).lpu

theorem expireTimer_lpu (s : State) : (expireTimer s).lpu = { s.lpu with timer := .expired } := by
  simp only [expireTimer]
  split
  · rfl
  · exact (reacts_report _ _).lpu

/-! ### What requests do beside the port -/

theorem serveOpen_lpu (table : Word) (s : State) : (serveOpen table s).state.lpu = s.lpu := by
  unfold serveOpen
  split
  · rfl
  · split
    · rfl
    · split
      · rfl
      · exact (tableDropped_behindT0 _ _ s).lpu

theorem serveAbandon_lpu (table : Word) (s : State) : (serveAbandon table s).state.lpu = s.lpu := by
  unfold serveAbandon
  split
  · rfl
  · split
    · rfl
    · exact (tableDropped_behindT0 _ _ s).abandonMembers.lpu

theorem serveClose_lpu (table : Word) (s : State) : (serveClose table s).state.lpu = s.lpu := by
  unfold serveClose
  split
  · rfl
  · split
    · rfl
    · split
      · rfl
      · split
        · rfl
        · exact (handsOff_enteredLive _ _ _).lpu.trans (State.setTable_lpu s _ _)

theorem serveLoad_lpu (table first : Word) (mode : Byte) (words : List Word) (s : State) :
    (serveLoad table first mode words s).state.lpu = s.lpu := by
  unfold serveLoad
  split
  · rfl
  · split
    · rfl
    · split
      · rfl
      · split
        · rfl
        · simp only
          split
          · rfl
          · exact State.setTable_lpu s _ _

theorem serveReadTable_lpu (table first : Word) (count : Byte) (s : State) : (serveReadTable table first count s).state.lpu = s.lpu := by
  unfold serveReadTable
  split
  · rfl
  · simp only
    split <;> rfl

theorem serveStart_lpu (s : State) : (serveStart s).state.lpu = s.lpu := by
  unfold serveStart
  split
  · rfl
  · rfl
  · split <;> rfl

theorem serveStop_lpu (s : State) : (serveStop s).state.lpu = s.lpu := by
  unfold serveStop
  split
  · exact (reacts_stopGroups _ _).lpu
  · rfl
  · rfl

theorem serveLearn_lpu (channel : Word) (s : State) : (serveLearn channel s).state.lpu = s.lpu := by
  unfold serveLearn
  split
  · rfl
  · split <;> rfl

theorem serveZero_lpu (channel : Word) (values : List Word) (s : State) : (serveZero channel values s).state.lpu = s.lpu := by
  unfold serveZero
  split
  · rfl
  · split
    · rfl
    · split
      · rfl
      · split
        · rfl
        · obtain ⟨-, -, -, lpu⟩ := zeroAxis_kept _ _ s
          exact lpu

theorem serveForce_lpu (condition : Word) (s : State) : (serveForce condition s).state.lpu = s.lpu := by
  simp only [serveForce]
  split
  · rfl
  · split
    · rfl
    · rfl
    · split
      · rfl
      · exact (reacts_forceCondition _ s).lpu

theorem serveAck_lpu (target : Word) (s : State) : (serveAck target s).state.lpu = s.lpu := by
  simp only [serveAck]
  split
  · exact (reacts_acknowledged _ s).lpu
  · split
    · exact (reacts_acknowledged _ s).lpu
    · rfl

theorem serveReadAlarms_lpu (position : Word) (count : Byte) (s : State) : (serveReadAlarms position count s).state.lpu = s.lpu := by
  simp only [serveReadAlarms]
  split
  · rfl
  · simp only
    split
    · rfl
    · exact (reacts_acknowledged _ s).lpu

/-- A READ may clear DISCARD_COUNT, which is no part of the queue (R174). -/
theorem serveRead_queue (item index : Word) (count : Byte) (s : State) :
    (serveRead item index count s).state.lpu.queue = s.lpu.queue := by
  simp only [serveRead]
  split
  · rfl
  · split
    · rfl
    · simp only
      split <;> rfl

/-! ### What writes do beside the port -/

theorem setSwingGear_lpu (v : Int) (s : State) : (setSwingGear v s).lpu = s.lpu := by
  simp only [setSwingGear]
  split
  · rfl
  · exact (handsOff_updateHouse _ _).lpu

theorem setRopeK_lpu (d : Drum) (v : Int) (s : State) : (setRopeK d v s).lpu = s.lpu := by
  simp only [setRopeK]
  split
  · rfl
  · exact (handsOff_updateDrum d _).lpu

theorem setPitHeading_lpu (v : Int) (s : State) : (setPitHeading v s).lpu = s.lpu := by
  obtain ⟨-, -, lpu⟩ := setPitHeading_kept v s
  exact lpu

/-- A WRITE of an item of the part reaches the port by DISCARD_COUNT alone (R174, R186). -/
theorem writePart_queue (n : Nat) (w : Word) (s : State) : (writePart n w s).1.lpu.queue = s.lpu.queue := by
  simp only [writePart]
  split
  case h_4 => exact congrArg Lpu.queue (setSwingGear_lpu _ s)
  case h_5 | h_6 => exact congrArg Lpu.queue (setRopeK_lpu _ _ s)
  case h_10 => exact congrArg Lpu.queue (handsOff_updateCam _).lpu
  case h_11 => exact congrArg Lpu.queue (setPitHeading_lpu _ s)
  all_goals rfl

theorem writeChannel_lpu (n : Nat) (a : Axis) (w : Word) (s : State) : (writeChannel n a w s).1.lpu = s.lpu := by
  simp only [writeChannel]
  split
  case h_5 | h_6 | h_7 => simp [applyFixed_eq, setChannelItems]
  case h_11 => exact (reacts_report _ _).lpu
  case h_12 => simp [applyGainMode_eq, setChannelItems]
  all_goals rfl

theorem writeGroup_lpu (n : Nat) (g : Axis) (w : Word) (s : State) : (writeGroup n g w s).1.lpu = s.lpu := by
  simp only [writeGroup]
  split <;> rfl

theorem writeItem_queue (sc : Scope) (n index : Nat) (w : Word) (s : State) : (writeItem sc n index w s).1.lpu.queue = s.lpu.queue := by
  unfold writeItem
  split
  · exact writePart_queue n w s
  · split
    · exact congrArg Lpu.queue (writeChannel_lpu n _ w s)
    · rfl
  · split
    · exact congrArg Lpu.queue (writeGroup_lpu n _ w s)
    · rfl
  all_goals rfl

theorem serveWrite_queue (item index : Word) (values : List Word) (s : State) :
    (serveWrite item index values s).state.lpu.queue = s.lpu.queue := by
  unfold serveWrite
  split
  · rfl
  · split
    · rfl
    · split
      · split
        · rfl
        · exact writeItem_queue _ _ _ _ s
      · rfl

end

/-! ### Every command -/

section
variable {s t : State}

theorem QueueOk.of_queue (ok : QueueOk s) (queue : t.lpu.queue = s.lpu.queue) : QueueOk t := by
  rwa [QueueOk, queue]

theorem QueueOk.of_lpu (ok : QueueOk s) (lpu : t.lpu = s.lpu) : QueueOk t := ok.of_queue (congrArg Lpu.queue lpu)

theorem QueueOk.of_empty (empty : t.lpu.queue = []) : QueueOk t := by simp [QueueOk, empty]

theorem QueueOk.offerForwarded (bs : Bytes) (ok : QueueOk s) : QueueOk (offerForwarded bs s) := offerForwarded_capacity bs s ok

theorem QueueOk.offerInserted (bs : Bytes) (ok : QueueOk s) : QueueOk (offerInserted bs s) := offerInserted_capacity bs s ok

theorem QueueOk.offerState (ok : QueueOk s) : QueueOk (offerState s) := by
  have offered := ok.offerInserted (stateFrame s)
  simp only [Machine.offerState]
  split <;> exact offered

theorem QueueOk.takeCycle (l : Link) (n : Word) (ok : QueueOk s) : QueueOk (takeCycle l n s) := by
  have marked : QueueOk (seqMarker (markBeforeSeq n s)) := ok.of_queue (by rw [seqMarker_lpu])
  exact (marked.offerForwarded _).offerState

theorem QueueOk.takeCommand (l : Link) (group lever : Word) (ok : QueueOk s) : QueueOk (takeCommand l group lever s) := by
  unfold Machine.takeCommand
  split
  · exact (ok.of_lpu (reported_lpu _ lever s)).offerForwarded _
  · exact ok.offerForwarded _

theorem QueueOk.takeBad (reason : Nat) (bs : Bytes) (ok : QueueOk s) : QueueOk (takeBad reason bs s) := by
  simp only [Machine.takeBad]
  refine QueueOk.offerForwarded _ (QueueOk.of_lpu ?_ (reacts_report _ _).lpu)
  split <;> exact ok

theorem QueueOk.completeReset (straps : BitVec 5) (ok : QueueOk s) : QueueOk (completeReset straps s) := by
  simp only [Machine.completeReset]
  split <;> exact ok

theorem QueueOk.next {u : State} (e : (.next u : Result) = .next t) (ok : QueueOk u) : QueueOk t := Host.Outcome.next.inj e ▸ ok

/-- A frame that is taken keeps the capacity if its body does, whatever its payload. -/
theorem QueueOk.arrival {body : State → State} (l : Link) (size : Nat) (ok : QueueOk s) (h : ∀ u, QueueOk u → QueueOk (body u)) :
    QueueOk (arrival l size body s) := by
  unfold Machine.arrival
  split
  · exact h (goodFrameSeen s) ok
  · exact ok

theorem QueueOk.delivered {body : State → State} (kind : Byte) (l : Link) (ws : List Word) (ok : QueueOk s)
    (h : ∀ u, (body u).lpu = u.lpu) : QueueOk (delivered kind l ws body s) :=
  ok.arrival l _ fun u there => (there.of_lpu (h u)).offerForwarded _

theorem QueueOk.serve {r : Req} {code : Nat} {body : State → Reply} (ok : QueueOk s) (e : serve r code body s = .next t)
    (h : ∀ u, (body u).state.lpu.queue = u.lpu.queue) : QueueOk t := by
  unfold Machine.serve at e
  split at e
  · have served : QueueOk (body (goodFrameSeen s)).state := ok.of_queue (h (goodFrameSeen s))
    exact .next e (served.offerInserted _)
  · exact .next e ok

theorem QueueOk.served {r : Req} {code : Nat} {body : State → Reply} (ok : QueueOk s) (e : Machine.serve r code body s = .next t)
    (h : ∀ u, (body u).state.lpu = u.lpu) : QueueOk t := ok.serve e fun u => congrArg Lpu.queue (h u)

theorem QueueOk.cycleEvent {due : Bool} {l : Link} {number : Word} (ok : QueueOk s) (e : cycleEvent due l number s = .next t) :
    QueueOk t := by
  unfold Machine.cycleEvent at e
  split at e
  · exact .next e (ok.arrival l 2 fun _ => .takeCycle l number)
  · exact .next e ok

theorem QueueOk.sampleEvent {due : Bool} {l : Link} {d : SampleData} (ok : QueueOk s) (e : sampleEvent due l d s = .next t) :
    QueueOk t := by
  unfold Machine.sampleEvent at e
  split at e
  · exact .next e (ok.delivered _ l _ (takeSampleFrame_lpu l.src d))
  · exact .next e ok

/-- Every command keeps the queue within its capacity (R173). -/
theorem QueueOk.exec {c : Instr} (ok : QueueOk s) (e : exec c s = .next t) : QueueOk t := by
  cases c
  case powerOnReset | pinReset => exact .next e (.of_empty (by rw [freshPart, ownersReport_lpu]; rfl))
  case resetComplete straps =>
    simp only [Machine.exec, execResetComplete] at e
    split at e
    · exact .next e (ok.completeReset straps)
    all_goals exact .next e ok
  case bypassStart =>
    simp only [Machine.exec, execBypassStart] at e
    split at e <;> exact .next e ok
  case softReset =>
    simp only [Machine.exec, execSoftReset] at e
    split at e
    · exact .next e (.of_empty (by rw [takeSoftReset, ownersReport_lpu]; rfl))
    all_goals exact .next e ok
  case cycle l number => exact .next e (ok.arrival l 2 fun _ => .takeCycle l number)
  case cab l selector pushes =>
    exact .next e (ok.delivered _ l _ fun u => (takeCab_kept selector pushes u).1.lpu)
  case command l group lever => exact .next e (ok.arrival l 4 fun _ => .takeCommand l group lever)
  case sample l d => exact .next e (ok.delivered _ l _ (takeSampleFrame_lpu l.src d))
  case discrete l low high => exact .next e (ok.delivered _ l _ (takeDiscreteFrame_lpu l.src low high))
  case driveStatus l d => exact .next e (ok.delivered _ l _ (takeDriveStatus_lpu l.src.toNat d))
  case forwardedFrame bytes =>
    simp only [Machine.exec, execForwardedFrame] at e
    split at e
    · exact .next e (QueueOk.offerForwarded (s := goodFrameSeen s) bytes ok)
    · exact .next e ok
  case ownFrameRemoval bytes =>
    simp only [Machine.exec, execOwnFrameRemoval] at e
    split at e <;> exact .next e ok
  case badFrame bytes =>
    simp only [Machine.exec, execBadFrame] at e
    split at e
    · split at e
      · exact .next e (ok.takeBad _ bytes)
      · exact .next e ok
    · exact .next e ok
  case frameTransmitted =>
    refine .next e ?_
    simp only [QueueOk, State.withLpu_lpu, List.length_tail] at ok ⊢
    omega
  case loopSilent =>
    simp only [Machine.exec, execLoopSilent] at e
    split at e
    · exact .next e (ok.of_queue (by rw [expireTimer_lpu]))
    · exact .next e ok
  case read | discardCountRead => exact ok.serve e (serveRead_queue _ _ _)
  case openTable => exact ok.served e (serveOpen_lpu _)
  case loadTable => exact ok.served e (serveLoad_lpu _ _ _ _)
  case closeTable => exact ok.served e (serveClose_lpu _)
  case abandonTable => exact ok.served e (serveAbandon_lpu _)
  case readTable => exact ok.served e (serveReadTable_lpu _ _ _)
  case start => exact ok.served e serveStart_lpu
  case stop => exact ok.served e serveStop_lpu
  case learn => exact ok.served e (serveLearn_lpu _)
  case zero => exact ok.served e (serveZero_lpu _ _)
  case force => exact ok.served e (serveForce_lpu _)
  case ack => exact ok.served e (serveAck_lpu _)
  case readAlarms => exact ok.served e (serveReadAlarms_lpu _ _)
  case reset => exact ok.served e fun _ => rfl
  case unknownCode r code =>
    simp only [Machine.exec, execUnknownCode] at e
    split at e
    · exact .next e ok
    · exact ok.served e fun _ => rfl
  case write | crossingFlags | pitHeading | correctionMode | speedLimit | offsetLimit | gainLimit | gainMode | gainLow
      | gainHigh | swingGear | hoistRopeK | dragRopeK | camZero | fixedItems =>
    exact ok.serve e (serveWrite_queue _ _ _)
  case channelStale | memberAbsent | discreteStale | cmdLost | transferTimeout | shoeMismatch | shoeDisagree =>
    simp only [Machine.exec, execChannelStale, execMemberAbsent, execDiscreteStale, execCmdLost, execTransferTimeout,
      execShoeMismatch, execShoeDisagree] at e
    exact ok.cycleEvent e
  case brakeDelayExpiry l group lever =>
    simp only [Machine.exec, execBrakeDelayExpiry] at e
    split at e
    · exact .next e (ok.arrival l 4 fun _ => .takeCommand l _ lever)
    · exact .next e ok
  case stuck | settled =>
    simp only [Machine.exec, execStuck, execSettled] at e
    exact ok.sampleEvent e

end

/-- Settles O3: on an empty command queue a step leaves the state; else its front command keeps the capacity (`QueueOk.exec`). -/
theorem stepKeepsQueueCapacity : Obligations.StepKeepsQueueCapacity := by
  intro s t ok e
  unfold step at e
  split at e
  · exact .next e ok
  · rename_i rest _
    exact QueueOk.exec (s := s.withPending rest) ok e

end Sys2Proof.Machine
end

section
/-! The check and the measured angle on fixed inputs, the end of a reset, and bypass: O14, O16 and O17. -/

namespace Sys2Proof.Machine

/-- Settles O14: the nine digits' check and the four angles are computed. -/
theorem checkAndAngleSamples : Obligations.CheckAndAngleSamples := by
  refine ⟨?check, ?right, ?up, ?left, ?down⟩
  case check => decide +kernel
  case right | up | left | down => decide +kernel

/-! ### The end of a reset (R176) -/

theorem strapsRefused_iff (straps : BitVec 5) :
    strapsRefused straps.toNat = true ↔ straps = 0#5 ∨ straps = 1#5 ∨ straps = 31#5 := by
  simp only [strapsRefused, Bool.or_eq_true, beq_iff_eq]
  bv_omega

/-- Settles O16: the strapped address decides between bypass and the loop (`strapsRefused_iff`). -/
theorem resetCompletes : Obligations.ResetCompletes := by
  intro straps s reset
  have e : exec (.resetComplete straps) s = .next (completeReset straps s) := by simp only [exec, execResetComplete, reset]
  refine ⟨_, e, ?_⟩
  by_cases refused : strapsRefused straps.toNat = true
  · rw [if_pos ((strapsRefused_iff straps).1 refused)]
    simp only [completeReset, refused, if_true]
    exact ⟨nofun, rfl⟩
  · rw [if_neg (mt (strapsRefused_iff straps).2 refused)]
    simp only [completeReset, if_neg refused]
    rfl

/-! ### Bypass (R176, R177) -/

theorem bypassDue_iff (s : State) : bypassDue s = true ↔ s.mgu.resetPending = true ∧ s.lpu.bypass = .off ∧ s.lpu.queue = [] := by
  simp [bypassDue, inLoop_eq, and_assoc]

theorem inLoop_bypass {s : State} (bypass : s.lpu.bypass ≠ .off) : s.inLoop = false :=
  Bool.eq_false_iff.2 (mt (inLoop_eq s).1 bypass)

/-- In bypass no frame at port A is taken and no request is served (R176, R177, R190). -/
theorem exec_bypass {own : Byte} {c : Instr} {bs : Bytes} {s : State} (arrives : bytesOf own c = some bs) (bypass : s.lpu.bypass ≠ .off) :
    exec c s = .next s := by
  have out := inLoop_bypass bypass
  cases c
  case powerOnReset | pinReset | resetComplete | bypassStart | softReset | frameTransmitted | loopSilent | channelStale | memberAbsent
      | discreteStale | cmdLost | transferTimeout | shoeMismatch | shoeDisagree | brakeDelayExpiry | stuck | settled =>
    cases arrives
  case cycle | command | cab | sample | discrete | driveStatus => exact congrArg _ (arrival_bypass _ _ _ s bypass)
  case forwardedFrame bytes => simp only [exec, execForwardedFrame, out, Bool.false_and, Bool.false_eq_true, if_false]
  case ownFrameRemoval bytes => simp only [exec, execOwnFrameRemoval, out, Bool.false_and, Bool.false_eq_true, if_false]
  case badFrame bytes => simp only [exec, execBadFrame, out, Bool.false_eq_true, if_false]
  case unknownCode r code =>
    simp only [exec, execUnknownCode]
    split
    · rfl
    · exact serve_bypass r _ _ s bypass
  all_goals exact serve_bypass _ _ _ s bypass

/-- Settles O17: BYPASS_START by the test it makes (`bypassDue_iff`), and what arrives in bypass by `exec_bypass`. -/
theorem bypassRules : Obligations.BypassRules := by
  refine ⟨fun s => ⟨fun pending loop empty => ?_, fun other => ?_⟩, fun _ _ _ _ => exec_bypass⟩
  · exact ⟨_, if_pos ((bypassDue_iff s).2 ⟨pending, loop, empty⟩), rfl⟩
  · refine if_neg fun due => ?_
    obtain ⟨pending, loop, empty⟩ := (bypassDue_iff s).1 due
    rcases other with idle | out | waiting
    · exact absurd pending (by simp [idle])
    · exact out loop
    · exact waiting empty

end Sys2Proof.Machine
end

section
/-! Frames that pass the device, the departure of a frame and the silence of the loop: O25 and O26. -/

namespace Sys2Proof.Machine

/-! ### Frames that pass (R169, R170) -/

/-- A frame that restarts no timer stands last, or is discarded and counted (R173, R174). -/
theorem forwarded_offerForwarded (bs : Bytes) {u s : State} (lpu : u.lpu = s.lpu) :
    Forwarded bs s (offerForwarded bs u) ∧ TimerKept s (offerForwarded bs u) := by
  rcases offerForwarded_spec bs u with ⟨short, e⟩ | ⟨full, e⟩ <;> rw [lpu] at e <;> rw [e]
  · have room : s.lpu.queue.length < 8 := lpu ▸ short
    simp [Forwarded, PortKept, TimerKept, room]
  · have none : ¬ s.lpu.queue.length < 8 := Nat.not_lt.2 (lpu ▸ full)
    simp [Forwarded, PortKept, TimerKept, discardOne, satInc_eq_min, none]

/-- The report a bad frame brings, whatever its arrival did to the port (R150, R170). -/
def badReported (k : Nat) (bs : Bytes) (l : Lpu) (s : State) : State :=
  report [.event cBadFrame (some (badDetail k bs))] (s.withLpu l)

theorem takeBad_short (bs : Bytes) (s : State) :
    takeBad 2 bs s = offerForwarded bs (badReported 2 bs (goodFrameSeen s).lpu s) := rfl

theorem takeBad_other {k : Nat} (other : k ≠ 2) (bs : Bytes) (s : State) :
    takeBad k bs s = offerForwarded bs (badReported k bs s.lpu s) := by
  simp only [takeBad, if_neg other]
  rfl

/-- A bad frame's report leaves configuration and measurements, and BAD_FRAME takes the detail (R150, R170). -/
theorem badReported_kept (k : Nat) (bs : Bytes) (l : Lpu) {s : State} (ok : AlarmsOk s) :
    let t := offerForwarded bs (badReported k bs l s)
    (t.alu.cond cBadFrame).detail = some (256 * k + (frameKind bs).toNat) ∧ SameConfig s t ∧ SameMeasured s t
      ∧ t.pending = s.pending := by
  obtain ⟨length, -⟩ := ok
  have reacts : Reacts (s.withLpu l) (badReported k bs l s) := reacts_report _ _
  have detail : ((badReported k bs l s).alu.cond cBadFrame).detail = some (badDetail k bs) := by
    obtain ⟨-, detail, -⟩ := report_cond [.event cBadFrame (some (badDetail k bs))] (s.withLpu l) cBadFrame (by decide)
    refine detail.trans ?_
    rw [take_event]
    exact occasion_detail _ _ false (by rw [State.withLpu_alu, length]; decide)
  rw [offerForwarded_lpu]
  exact ⟨detail, ⟨reacts.items, reacts.tables⟩, ⟨reacts.tru, reacts.dgu, reacts.env⟩, reacts.pending⟩

/-- Settles O25: a frame only forwarded and a returning one touch the port alone; a bad one also reports (`badReported_kept`). -/
theorem passingFrames : Obligations.PassingFrames := by
  intro bs s loop
  have taken := (inLoop_eq s).2 loop
  refine ⟨fun only => ?_, fun good own => ?_, fun k bad ok => ?_⟩
  · have e : exec (.forwardedFrame bs) s = .next (offerForwarded bs (goodFrameSeen s)) := if_pos (by rw [taken, only]; rfl)
    exact ⟨_, e, nothingElse_offerForwarded bs s, delivered_offerForwarded bs rfl⟩
  · have e : exec (.ownFrameRemoval bs) s = .next (goodFrameSeen s) := if_pos (by rw [taken, good, own]; rfl)
    exact ⟨_, e, ⟨⟨_, rfl⟩, rfl, rfl, rfl⟩, rfl, rfl, rfl, rfl, rfl⟩
  · have e : exec (.badFrame bs) s = .next (takeBad k bs s) := by simp only [exec, execBadFrame, taken, if_true, bad]
    refine ⟨_, e, ?_⟩
    by_cases short : k = 2
    · subst short
      obtain ⟨detail, config, measured, pending⟩ := badReported_kept 2 bs (goodFrameSeen s).lpu ok
      have port : (badReported 2 bs (goodFrameSeen s).lpu s).lpu = (goodFrameSeen s).lpu := (reacts_report _ _).lpu
      obtain ⟨forwarded, restarted⟩ := delivered_offerForwarded bs port
      rw [takeBad_short, if_pos rfl]
      exact ⟨forwarded, detail, restarted, config, measured, pending⟩
    · obtain ⟨detail, config, measured, pending⟩ := badReported_kept k bs s.lpu ok
      have port : (badReported k bs s.lpu s).lpu = s.lpu := (reacts_report _ _).lpu
      obtain ⟨forwarded, timer⟩ := forwarded_offerForwarded bs port
      rw [takeBad_other short, if_neg short]
      exact ⟨forwarded, detail, timer, config, measured, pending⟩

/-! ### The silence of the loop (R163, R175) -/

/-- LOOP_SILENT stands at TRIP under every T10: its floor is TRIP, which also forbids a mask (R152). -/
theorem silent_trips {s : State} (raised : s.alu.raised cLoopSilent = true) : s.alu.tripStanding s.tables.t10 = true := by
  obtain ⟨floor, hard, -⟩ := severityFloors s.tables.t10 cLoopSilent (by decide)
  have trip : effSeverity s.tables.t10 cLoopSilent = .trip := by
    have code : 4 ≤ (effSeverity s.tables.t10 cLoopSilent).code := floor
    cases e : effSeverity s.tables.t10 cLoopSilent
    case trip => rfl
    all_goals exact absurd (e ▸ code) (by decide)
  have level : (condSpec cLoopSilent).event = false := rfl
  have stands : (s.alu.cond cLoopSilent).raised = true := raised
  refine List.any_eq_true.2 ⟨cLoopSilent, by decide, ?_⟩
  simp [Alu.standing, level, stands, hard (by decide), trip]

/-- A running timer's expiry raises LOOP_SILENT, and the TRIP that stands then halts the part. -/
theorem expireTimer_halts {s : State} (ok : AlarmsOk s) (groups : GroupsOk s) (down : s.alu.raised cLoopSilent = false) :
    (expireTimer s).alu.raised cLoopSilent = true
      ∧ ((expireTimer s).alu.cond cLoopSilent).detail = some (flag s.lpu.trafficSeen)
      ∧ (expireTimer s).mgu.mode = .halted ∧ ∀ g, ((expireTimer s).group g).state = .cut ∧ ((expireTimer s).group g).q = 0 := by
  obtain ⟨length, -⟩ := ok
  let v := s.withLpu { s.lpu with timer := .expired }
  have e : expireTimer s = report [.level cLoopSilent true (some (flag s.lpu.trafficSeen))] v := by
    simp only [expireTimer, State.withLpu_alu, down, Bool.false_eq_true, if_false]
    rfl
  obtain ⟨raised, detail⟩ := report_level [.level cLoopSilent true (some (flag s.lpu.trafficSeen))] v cLoopSilent true _
    silent_not_reaction (by rw [State.withLpu_alu, length]; decide) (List.mem_singleton_self _) (by simp)
  obtain ⟨-, standing, halts⟩ := handedOk_report [.level cLoopSilent true (some (flag s.lpu.trafficSeen))] v
  have halted := halts (standing.trans (silent_trips raised))
  rw [← e] at raised detail halted
  obtain ⟨rest, cut, -⟩ := groupsOk_expireTimer groups
  exact ⟨raised, detail rfl, halted, fun g => ⟨cut halted g, rest g (.inr (cut halted g))⟩⟩

/-- Settles O26: the front frame leaves; an expiring timer raises LOOP_SILENT, which halts the part (`expireTimer_halts`). -/
theorem transmissionAndSilence : Obligations.TransmissionAndSilence := by
  refine ⟨fun s => ⟨_, rfl, by rw [List.drop_one]⟩, fun s loop running ok groups down => ?_⟩
  have e : exec .loopSilent s = .next (expireTimer s) := if_pos (by rw [(inLoop_eq s).2 loop, running]; rfl)
  obtain ⟨raised, detail, halted, cut⟩ := expireTimer_halts ok groups down
  have kept : Reacts (s.withLpu { s.lpu with timer := .expired }) (expireTimer s) := by
    simp only [expireTimer]
    split
    · exact .refl _
    · exact reacts_report _ _
  exact ⟨_, e, expireTimer_lpu s, raised, detail, halted, cut, ⟨kept.items, kept.tables⟩, ⟨kept.tru, kept.dgu, kept.env⟩,
    kept.pending⟩

end Sys2Proof.Machine
end

section
/-! The resets (R176, R190, R191): what the owners' reports leave of the blocks as they were put at their reset values, O15 and O18. -/

namespace Sys2Proof.Machine

/-! ### The owners' reports (R149) -/

theorem reacts_ownersReport (s : State) : Reacts s (ownersReport s) := by
  unfold ownersReport
  split <;> exact (reacts_report _ s).trans (reacts_report _ _)

theorem groupWork_ownersReport (s : State) : GroupWork s (ownersReport s) := by
  unfold ownersReport
  split <;> exact groupWork_report _ (groupWork_report _ .none)

/-- While the sequencer is idle the owners' reports reach neither it nor the POS nor the SWU. -/
theorem ownersReport_idle {s : State} (idle : SequencerIdle s) :
    (ownersReport s).pos = s.pos ∧ (ownersReport s).wsq = s.wsq ∧ (ownersReport s).swu = s.swu := by
  have twice (rs rs' : List Report) : (report rs' (report rs s)).pos = s.pos ∧ (report rs' (report rs s)).wsq = s.wsq
      ∧ (report rs' (report rs s)).swu = s.swu := by
    obtain ⟨pos, wsq, swu⟩ := report_sequencerIdle rs idle
    obtain ⟨pos', wsq', swu'⟩ := report_sequencerIdle rs' (s := report rs s) (by rwa [SequencerIdle, wsq])
    exact ⟨pos'.trans pos, wsq'.trans wsq, swu'.trans swu⟩
  unfold ownersReport
  split <;> exact twice _ _

/-- A report of a level condition that raises no TRIP (R163). -/
def Report.mildLevel (t10 : Table) (r : Report) : Prop := r.isLevel = true ∧ r.mild t10

section
variable {t10 : Table} (dead : t10.state ≠ .live)
include dead

/-- While T10 is not LIVE a level condition whose default severity is below TRIP raises none (R151, R166). -/
theorem mildLevel_of_default {r : Report} (level : r.isLevel = true) (mild : (condSpec r.number).default ≠ .trip) : r.mildLevel t10 :=
  ⟨level, level_mild level (by rwa [effSeverity_dead dead])⟩

theorem posReports_mildLevel : ∀ r ∈ posReports, r.mildLevel t10 := by
  refine List.forall_mem_append.2 ⟨List.forall_mem_map.2 fun d _ => mildLevel_of_default dead rfl (by cases d <;> decide), ?_⟩
  simp only [List.forall_mem_cons]
  exact ⟨mildLevel_of_default dead rfl (by decide), mildLevel_of_default dead rfl (by decide),
    mildLevel_of_default dead rfl (by decide), nofun⟩

/-- Of the DGU's conditions CONTACTOR_CONFLICT alone has the default TRIP (R63, R166). -/
theorem driveReports_mildLevel {d : Dgu} (agrees : d.summary ≠ .conflict) : ∀ r ∈ driveReports d, r.mildLevel t10 := by
  refine List.forall_mem_append.2 ⟨List.forall_mem_append.2 ⟨List.forall_mem_append.2 ⟨?_, ?_⟩, ?_⟩, ?_⟩
  · refine List.forall_mem_map.2 fun g _ => ?_
    have mild : (condSpec (cUnresolved g)).default ≠ .trip := by cases g <;> decide
    unfold unresolvedReport
    split <;> exact mildLevel_of_default dead rfl mild
  · refine List.forall_mem_map.2 fun g _ => ?_
    have mild : (condSpec (cMemberLost g)).default ≠ .trip := by cases g <;> decide
    unfold memberLostReport
    split <;> exact mildLevel_of_default dead rfl mild
  · refine List.forall_mem_map.2 fun g _ => ?_
    have mild : (condSpec (cGroupDead g)).default ≠ .trip := by cases g <;> decide
    exact mildLevel_of_default dead rfl mild
  · refine List.forall_mem_singleton.2 ?_
    rw [conflictReport, if_neg agrees]
    exact ⟨rfl, fall_mild _ _⟩

end

/-- While T10 is not LIVE and the contactors agree the owners raise no TRIP, and the part mode stands (R149, R163). -/
theorem ownersReport_mode {s : State} (calm : Calm s) (idle : Unreacting s) (dead : s.tables.t10.state ≠ .live)
    (agrees : s.dgu.summary ≠ .conflict) : (ownersReport s).mgu.mode = s.mgu.mode := by
  have twice {rs rs' : List Report} (told : ∀ r ∈ rs, r.mildLevel s.tables.t10) (told' : ∀ r ∈ rs', r.mildLevel s.tables.t10) :
      (report rs' (report rs s)).mgu.mode = s.mgu.mode := by
    have table : (report rs s).tables = s.tables := (reacts_report rs s).tables
    obtain ⟨first, -⟩ := calmStep_report calm idle (fun r mem => (told r mem).1) fun r mem => (told r mem).2
    obtain ⟨second, -⟩ := calmStep_report (rs := rs') first.calm (first.unreacting idle) (fun r mem => (told' r mem).1)
      fun r mem => by rw [table]; exact (told' r mem).2
    exact second.mode.trans first.mode
  have drives := driveReports_mildLevel dead agrees
  have positions := posReports_mildLevel dead
  unfold ownersReport
  split
  · exact twice drives positions
  · exact twice positions drives

/-! ### Power-on and pin reset (R191) -/

/-- Every block of a power-on or pin reset before the owners report. -/
def freshBlocks (s : State) : State :=
  { State.reset with alu := .reset, dguReportsFirst := s.dguReportsFirst, pending := s.pending }

theorem freshPart_eq (s : State) : freshPart s = ownersReport (freshBlocks s) := rfl

theorem freshBlocks_calm (s : State) : Calm (freshBlocks s) := by
  obtain ⟨severity, trip⟩ : Alu.reset.severity = Alu.reset.groupSeverities Tables.reset.t10
      ∧ Alu.reset.tripStanding Tables.reset.t10 = false := by
    decide +kernel
  exact ⟨severity, fun _ => trip⟩

theorem freshBlocks_idle (s : State) : SequencerIdle (freshBlocks s) := ⟨nofun, rfl⟩

theorem reset_table (i : TableId) : ∃ capacity, Tables.reset.get i = emptyTable capacity := by
  cases i <;> exact ⟨_, rfl⟩

theorem emptyTable_words (capacity : Nat) : ∀ w ∈ (emptyTable capacity).words, w = 0#16 := fun _ mem => List.eq_of_mem_replicate mem

/-- After the owners' reports of a power-on reset the part stands in STANDBY with every group HELD at rest (R86, R191). -/
theorem freshPart_mode (s : State) : (freshPart s).mgu.mode = .standby
    ∧ ∀ g, ((freshPart s).group g).state = .held ∧ ((freshPart s).group g).q = 0 := by
  have mode : (freshPart s).mgu.mode = .standby :=
    ownersReport_mode (freshBlocks_calm s) ⟨nofun, nofun⟩ (emptyTable_dead _) nofun
  refine ⟨mode, fun g => ?_⟩
  have fresh : HeldAtRest (freshBlocks s).mgu.mode ((freshBlocks s).group g) := by
    intro _
    cases g <;> exact ⟨rfl, rfl, rfl, rfl⟩
  obtain ⟨held, q, -, -⟩ := (groupWork_ownersReport (freshBlocks s)).heldAtRest fresh (by rw [← freshPart_eq, mode]; nofun)
  exact ⟨held, q⟩

/-- Settles O15: both resets leave `freshPart`, whose owners' reports reach the alarm unit alone. -/
theorem powerOnAndPinReset : Obligations.PowerOnAndPinReset := by
  intro s
  have kept : Reacts (freshBlocks s) (freshPart s) := reacts_ownersReport _
  obtain ⟨-, wsq, -⟩ := ownersReport_idle (freshBlocks_idle s)
  rw [← freshPart_eq] at wsq
  obtain ⟨mode, groups⟩ := freshPart_mode s
  refine ⟨freshPart s, rfl, rfl, fun i => ?_, kept.items, mode, kept.levers, kept.push, ?_, ?_, ?_, ?_, fun a => ?_, groups, ?_, ?_, ?_,
    ?_, kept.pending⟩
  · obtain ⟨capacity, e⟩ := reset_table i
    rw [State.table, kept.tables, show (freshBlocks s).tables.get i = emptyTable capacity from e]
    exact ⟨rfl, emptyTable_words capacity⟩
  · rw [kept.lpu]; rfl
  · rw [kept.lpu]; rfl
  · rw [kept.lpu]; rfl
  · rw [kept.lpu]; rfl
  · rw [State.chan, kept.tru]
    cases a <;> exact ⟨rfl, rfl⟩
  · rw [wsq]; rfl
  · rw [wsq]; rfl
  · rw [kept.dgu]; rfl
  · rw [kept.env]; rfl

/-! ### The soft reset (R190) -/

theorem softBlocks_table (i : TableId) (s : State) : (softBlocks s).table i = softTable (s.table i) := by cases i <;> rfl

/-- A table that is not LIVE is EMPTY and cleared, at its capacity (R190). -/
theorem softTable_empty {t : Table} (dead : t.state ≠ .live) : softTable t = emptyTable t.words.length := by
  unfold softTable
  split
  · contradiction
  all_goals rfl

/-- The DGU of a soft reset waits for its first DISCRETE frame (R66). -/
theorem softDgu_image (t9 : Table) : (softDgu t9).image.state = .unloaded := by
  unfold softDgu
  split <;> rfl

theorem softBlocks_idle (s : State) : SequencerIdle (softBlocks s) := ⟨nofun, rfl⟩

/-- A group that has not moved since a soft reset: at rest, its neutral lever not yet seen (R86, R90). -/
def Unmoved (_ : Mode) (r : Group) : Prop := (r.state = .held ∨ r.state = .cut) ∧ r.q = 0 ∧ r.neutralSeen = false

theorem GroupWork.unmoved {s t : State} (h : GroupWork s t) {g : Axis} (k : Unmoved s.mgu.mode (s.group g)) :
    Unmoved t.mgu.mode (t.group g) := by
  refine h.keeps (P := Unmoved) (fun {m r} k => ?_) (fun k => ⟨k.1, k.2.1, rfl⟩) (fun _ _ => ⟨.inl rfl, rfl, rfl⟩)
    (fun _ => ⟨.inr rfl, rfl, rfl⟩) g k
  obtain ⟨rest, q, seen⟩ := k
  rcases rest with e | e <;> simp [Unmoved, Group.stop, e, q, seen]

/-- Settles O18: the blocks take their reset values and the owners' reports reach the ALU, the groups and the part mode alone. -/
theorem softResetTaken : Obligations.SoftResetTaken := by
  intro s soft
  have e : exec .softReset s = .next (takeSoftReset s) := by simp only [exec, execSoftReset, soft]
  have kept : Reacts (softBlocks s) (takeSoftReset s) := reacts_ownersReport _
  obtain ⟨pos, wsq, swu⟩ := ownersReport_idle (softBlocks_idle s)
  rw [← takeSoftReset] at pos wsq swu
  refine ⟨_, e, kept.items, fun i => ?_, ?_⟩
  · have table : (takeSoftReset s).table i = softTable (s.table i) :=
      (congrArg (Tables.get · i) kept.tables).trans (softBlocks_table i s)
    rw [table]
    split
    · exact softTable_live ‹_›
    · rw [softTable_empty ‹_›]
      exact ⟨rfl, emptyTable_words _, List.length_replicate⟩
  · have group (g : Axis) : ((takeSoftReset s).group g).q = 0 ∧ ((takeSoftReset s).group g).neutralSeen = false
        ∧ ((takeSoftReset s).group g).lastLever = none := by
      have fresh : (softBlocks s).group g = .reset := PerAxis.get_all _ g
      obtain ⟨-, q, seen⟩ := (groupWork_ownersReport (softBlocks s)).unmoved (g := g) (by rw [fresh]; exact ⟨.inl rfl, rfl, rfl⟩)
      exact ⟨q, seen, ((kept.group g).lastLever).trans (by rw [fresh]; rfl)⟩
    have mode : (takeSoftReset s).mgu.mode ≠ .run := by
      rcases kept.mode with m | m <;> rw [m] <;> nofun
    rw [kept.lpu, pos, wsq, swu, kept.dgu]
    refine ⟨rfl, rfl, rfl, rfl, rfl, rfl, rfl, rfl, mode, kept.levers, kept.push, kept.reset, fun a => ?_, group, rfl, rfl, rfl, rfl, rfl,
      rfl, rfl, rfl, softDgu_image _, kept.pending⟩
    rw [State.chan, kept.tru]
    cases a <;> exact ⟨rfl, rfl, rfl⟩

end Sys2Proof.Machine
end

section
/-! READ and READ_TABLE (R174, R186, R189): how many words an item has, where a range begins, and O27. -/

namespace Sys2Proof.Machine

/-! ### The words of the map (R186, chapter 12.7) -/

theorem itemRow_lt {n : Nat} (named : (itemRow n).isSome = true) : n < 112 := by
  obtain ⟨r, found⟩ := Option.isSome_iff_exists.1 named
  have last : ∀ r ∈ itemRows, r.last < 112 := by decide
  have within := List.find?_some found
  simp only [Bool.and_eq_true, decide_eq_true_eq] at within
  exact lt_of_le_of_lt within.2 (last r (List.mem_of_find?_eq_some found))

theorem mem_itemNumbers {n : Nat} : n ∈ itemNumbers ↔ (itemRow n).isSome = true := by
  rw [itemNumbers, List.mem_filter, List.mem_range]
  exact and_iff_right_of_imp itemRow_lt

/-- The words of an item of the part: how many they are no state decides, so the map's rows are gone through by computation. -/
theorem partWords_length {s : State} {n : Nat} {r : ItemRow} (named : itemRow n = some r) (part : r.scope = .part) :
    (partWords s n).length = itemSize n := by
  have all : ((List.range 112).all fun n => (itemRow n).all fun r => r.scope != .part || (partWords s n).length == itemSize n) = true := by
    rfl
  have here := List.all_eq_true.1 all n (List.mem_range.2 (itemRow_lt (by rw [named]; rfl)))
  simpa [named, part] using here

/-- The words of an item by what its index names (chapter 12.7). -/
def scopeSize (n : Nat) : Scope → Nat
  | .part => itemSize n
  | .channel | .drive => 1
  | .group => if n < 85 then 1 else if n = 90 then 3 else 4
  | .member => 7
  | .condition => 2

theorem itemSize_scope : ∀ n < 112, ∀ r ∈ itemRow n, itemSize n = scopeSize n r.scope := by decide

theorem memberWords_length (m : Option Member) : (memberWords m).length = 7 := by cases m <;> rfl

/-- Every item of the map reads as many words as it occupies, whatever its index (R186). -/
theorem itemWords_length {n : Nat} (named : (itemRow n).isSome = true) (index : Nat) (s : State) :
    (itemWords n index s).length = itemSize n := by
  obtain ⟨r, row⟩ := Option.isSome_iff_exists.1 named
  have size := itemSize_scope n (itemRow_lt named) r row
  simp only [itemWords, row]
  split
  · exact partWords_length row ‹_›
  all_goals rw [‹r.scope = _›, scopeSize] at size
  case h_2 =>
    split
    · split <;> exact size.symm
    · exact List.length_replicate
  case h_3 =>
    split
    · rw [size]
      split
      · rfl
      · unfold shaperItemWords
        split <;> rfl
    · exact List.length_replicate
  case h_4 =>
    split
    · exact size.symm
    · exact List.length_replicate
  case h_5 =>
    split
    · rw [memberWords_length, size]
    · exact List.length_replicate
  case h_6 =>
    split
    · exact size.symm
    · exact List.length_replicate

theorem itemSize_pos (n : Nat) : 0 < itemSize n := by
  unfold itemSize
  split <;> decide

/-! ### The words of a range (R186) -/

/-- The words from item `n` to the end of the map. -/
theorem flatMap_itemWords_length (n index : Nat) (s : State) :
    ((itemsFrom n).flatMap (fun k => itemWords k index s)).length = wordsFrom n := by
  rw [List.length_flatMap, wordsFrom]
  refine congrArg List.sum (List.map_congr_left fun k mem => ?_)
  obtain ⟨number, -⟩ := List.mem_filter.1 mem
  exact itemWords_length (mem_itemNumbers.1 number) index s

/-- A range begins with the item named. -/
theorem itemsFrom_head : ∀ n < 112, (itemRow n).isSome = true → (itemsFrom n).head? = some n := by decide

theorem range_head {n index c : Nat} (s : State) (named : (itemRow n).isSome = true) (least : 1 ≤ c) :
    (((itemsFrom n).flatMap (fun k => itemWords k index s)).take c).head? = (itemWords n index s).head? := by
  obtain ⟨rest, order⟩ : ∃ rest, itemsFrom n = n :: rest := List.head?_eq_some_iff.1 (itemsFrom_head n (itemRow_lt named) named)
  have words : 0 < (itemWords n index s).length := by
    rw [itemWords_length named]
    exact itemSize_pos n
  obtain ⟨w, ws, e⟩ := List.exists_cons_of_length_pos words
  obtain ⟨m, rfl⟩ := Nat.exists_eq_add_of_le' least
  simp [order, e]

theorem isSome_of_named {n index : Nat} (named : (namedItem n index).isSome = true) : (itemRow n).isSome = true := by
  unfold namedItem at named
  split at named
  · simp [*]
  · cases named

/-! ### The requests -/

theorem readCount_eq (count : Byte) : readCount count = max 1 (min 16 count.toNat) := rfl

/-- The status of an answer whose count was clamped or not (R186). -/
theorem okIf_count (c n : Nat) : (okIf (c != n)).code = if c = n then 0 else 1 := by
  rw [okIf_code]
  by_cases e : c = n <;> simp [e]

/-- A request served on a port whose discard count alone it has replaced (R174). -/
theorem answeredFrom_respond (r : Req) (code d : Nat) {p : Reply} {s : State}
    (state : p.state = (goodFrameSeen s).withLpu { (goodFrameSeen s).lpu with discard := d }) (v : p.values.length ≤ 20) :
    AnsweredFrom d r code p.status.code p.values s (respond r code p) ∧ NothingElse s (respond r code p) := by
  have own : p.state.ownByte = s.ownByte := by rw [state]; rfl
  obtain ⟨q, e, port⟩ := respond_port r code p
  have kept : PortKept s (respond r code p) := by simp [PortKept, port, state, goodFrameSeen_eq]
  refine ⟨⟨?_, ?_, kept, ?_⟩, ⟨(respond r code p).lpu, ?_⟩, kept⟩
  · rw [respond_queue r code p v, own, state]; rfl
  · rw [respond_discard, state]; rfl
  · simp [Restarted, port, state, goodFrameSeen_eq]
  · rw [respond_lpu r code p, state]; rfl

section
variable {item index : Word} {count : Byte} {s : State}

/-- A served READ: the words of its range, and DISCARD_COUNT cleared where the range includes it (R174, R186). -/
theorem serveRead_within (named : (namedItem item.toNat index.toNat).isSome = true)
    (within : readCount count ≤ wordsFrom item.toNat) : serveRead item index count s
      = ⟨s.withLpu { s.lpu with discard := if coversDiscard item.toNat (readCount count) then 0 else s.lpu.discard },
          okIf (readCount count != count.toNat),
          ((itemsFrom item.toNat).flatMap (fun k => itemWords k index.toNat s)).take (readCount count)⟩ := by
  obtain ⟨r, row⟩ := Option.isSome_iff_exists.1 named
  simp only [serveRead, row, if_neg (Nat.not_lt.2 within)]
  split <;> rfl

theorem serveRead_noItem (unnamed : namedItem item.toNat index.toNat = none) : serveRead item index count s = refuse s .noItem := by
  simp only [serveRead, unnamed]

theorem serveRead_beyond (named : (namedItem item.toNat index.toNat).isSome = true) (beyond : wordsFrom item.toNat < readCount count) :
    serveRead item index count s = refuse s .outOfRange := by
  obtain ⟨r, row⟩ := Option.isSome_iff_exists.1 named
  simp only [serveRead, row, if_pos beyond]

theorem tableOfCode (i : TableId) {n : Nat} (code : n = i.code) : TableId.ofCode n = some i := by
  subst code
  cases i <;> rfl

theorem serveReadTable_within {table first : Word} {i : TableId} (code : table.toNat = i.code)
    (within : first.toNat + readCount count ≤ (s.table i).words.length) : serveReadTable table first count s
      = ⟨s, okIf (readCount count != count.toNat), ((s.table i).words.drop first.toNat).take (readCount count)⟩ := by
  simp only [serveReadTable, tableOfCode i code, if_neg (Nat.not_lt.2 within)]

theorem serveReadTable_beyond {table first : Word} {i : TableId} (code : table.toNat = i.code)
    (beyond : (s.table i).words.length < first.toNat + readCount count) :
    serveReadTable table first count s = refuse s .outOfRange := by
  simp only [serveReadTable, tableOfCode i code, if_pos beyond]

end

theorem readCount_le (count : Byte) : 1 ≤ readCount count ∧ readCount count ≤ 16 := by
  rw [readCount_eq]
  omega

/-- Settles O27: a READ within the map and one beyond it, a READ_TABLE within its table and beyond it, and the two coded items. -/
theorem readRequests : Obligations.ReadRequests := by
  refine ⟨fun r item index count s loop => ?_, fun r table first count i s loop code => ?_, fun index s => ⟨?_, ?_⟩⟩
  · rw [← readCount_eq]
    obtain ⟨least, most⟩ := readCount_le count
    refine ⟨fun named within => ?_, fun unnamed => ?_, fun named beyond => ?_⟩
    · have size : (((itemsFrom item.toNat).flatMap (fun k => itemWords k index.toNat s)).take (readCount count)).length
          = readCount count := by
        rw [List.length_take, flatMap_itemWords_length]
        exact min_eq_left within
      have served := serveRead_within (count := count) (s := goodFrameSeen s) named within
      obtain ⟨answer, rest⟩ := answeredFrom_respond r 1 _ (s := s) (congrArg Reply.state served)
        (by rw [served]; exact (size.trans_le most).trans (by decide))
      have e := serve_in r 1 (serveRead item index count) s loop
      refine ⟨_, e, e, size, range_head s (isSome_of_named named) least, ?_, rest⟩
      rw [← okIf_count]
      rw [served] at answer ⊢
      exact answer
    · exact serve_nothingElse (x := .noItem) loop (serveRead_noItem unnamed)
    · exact serve_nothingElse (x := .outOfRange) loop (serveRead_beyond named beyond)
  · rw [← readCount_eq]
    obtain ⟨-, most⟩ := readCount_le count
    refine ⟨fun within => ?_, fun beyond => ?_⟩
    · have served := serveReadTable_within (count := count) (s := goodFrameSeen s) code within
      have e := serve_in r 7 (serveReadTable table first count) s loop
      rw [served] at e
      refine ⟨_, e, nothingElse_respond r 7 rfl, ?_⟩
      rw [← okIf_count]
      exact answered_respond r 7 (p := ⟨goodFrameSeen s, _, _⟩) rfl
        ((List.length_take_le _ _).trans (most.trans (by decide)))
    · exact serve_nothingElse (x := .outOfRange) loop (serveReadTable_beyond code beyond)
  · show [natWord s.env.selection.itemCode] = _
    cases s.env.selection <;> rfl
  · show [natWord s.dgu.summary.itemCode] = _
    cases s.dgu.summary <;> rfl

end Sys2Proof.Machine
end

section
/-! The bytes of a command and how port A classifies them (R168, R169, R184): frames by kind, requests by code, and O13. -/

namespace Sys2Proof.Machine

section
variable {own : Byte}

/-! ### Frames by kind (R169) -/

/-- A frame with its kind's payload and a surplus within 48 bytes is good and not short (R168). -/
theorem classify_received {kind : Byte} {l : Link} {ws : List Word} (size : payloadSize kind = some (2 * ws.length))
    (f : fits l (2 * ws.length) = true) : classify own (received kind l ws) = classifyGood own (received kind l ws) := by
  have most : (wordsToBytes ws ++ l.surplus).length ≤ 48 := by
    rw [List.length_append, wordsToBytes_length]
    exact of_decide_eq_true f
  have long : shortFrame (received kind l ws) = false := by
    simp [shortFrame, received, frame_len _ _ _ _ most, size]
  rw [classify, received, frame_badReason _ _ _ _ most, ← received, long]
  rfl

theorem fits_of_wellFormed {l : Link} {size : Nat} (ok : l.wellFormed size = true) : fits l size = true := by
  unfold Link.wellFormed at ok
  rw [Bool.and_eq_true] at ok
  exact ok.2

theorem classify_cycle {l : Link} (n : Word) (f : fits l 2 = true) : classify own (received kindCycle l [n]) = .cycle l n := by
  rw [classify_received rfl f]
  simp [classifyGood, received, wordsToBytes, bytesToWords, payloadWord]

theorem classify_cab {l : Link} (a b : Word) (f : fits l 4 = true) : classify own (received kindCab l [a, b]) = .cab l a b := by
  rw [classify_received rfl f]
  simp [classifyGood, received, wordsToBytes, bytesToWords, payloadWord, kindCab, kindCycle]

theorem classify_command {l : Link} (a b : Word) (f : fits l 4 = true) :
    classify own (received kindCommand l [a, b]) = .command l a b := by
  rw [classify_received rfl f]
  simp [classifyGood, received, wordsToBytes, bytesToWords, payloadWord, kindCommand, kindCab, kindCycle]

theorem classify_sample {l : Link} (d : SampleData) (f : fits l 8 = true) :
    classify own (received kindSample l (sampleWords d)) = .sample l d := by
  rw [classify_received rfl f]
  simp [classifyGood, received, sampleWords, wordsToBytes, bytesToWords, payloadWord, kindSample, kindCommand, kindCab, kindCycle]

theorem classify_discrete {l : Link} (a b : Word) (f : fits l 4 = true) :
    classify own (received kindDiscrete l [a, b]) = .discrete l a b := by
  rw [classify_received rfl f]
  simp [classifyGood, received, wordsToBytes, bytesToWords, payloadWord, kindDiscrete, kindSample, kindCommand, kindCab, kindCycle]

theorem classify_driveStatus {l : Link} (d : DriveData) (f : fits l 12 = true) :
    classify own (received kindDriveStatus l (driveWords d)) = .driveStatus l d := by
  rw [classify_received rfl f]
  simp [classifyGood, received, driveWords, wordsToBytes, bytesToWords, payloadWord, kindDriveStatus, kindDiscrete, kindSample,
    kindCommand, kindCab, kindCycle]

/-- A good frame of a kind that is delivered to no block is removed, served or forwarded (R169). -/
theorem classifyGood_undelivered {bs : Bytes} (kind : deliveredKind (frameKind bs) = false) : classifyGood own bs
    = if returnsOwn own bs then .ownFrameRemoval bs
      else if frameKind bs = kindRequest ∧ frameDest bs = own then
        classifyRequest (frameSrc bs) (highByte (payloadWord (bytesToWords (framePayload bs)) 0))
          (lowByte (payloadWord (bytesToWords (framePayload bs)) 0)) (payloadWord (bytesToWords (framePayload bs)) 1)
          (payloadWord (bytesToWords (framePayload bs)) 2) (payloadWord (bytesToWords (framePayload bs)) 3)
          ((bytesToWords (framePayload bs)).drop 4)
      else .forwardedFrame bs := by
  simp only [deliveredKind, Bool.or_eq_false_iff, beq_eq_false_iff_ne] at kind
  obtain ⟨⟨⟨⟨⟨cycle, cab⟩, command⟩, sample⟩, discrete⟩, status⟩ := kind
  simp only [classifyGood, cycle, cab, command, sample, discrete, status, if_false]

theorem classify_good {bs : Bytes} (good : badReason bs = none) : classify own bs = classifyGood own bs := by
  simp only [classify, good]

/-- The kinds this device sends are none of those delivered to it (R169). -/
theorem undelivered_of_own {k : Byte} (sent : ownKind k = true) : deliveredKind k = false := by
  simp only [ownKind, Bool.or_eq_true, beq_iff_eq] at sent
  rcases sent with (rfl | rfl) | rfl <;> decide

theorem classify_forwarded {bs : Bytes} (only : onlyForwarded own bs = true) : classify own bs = .forwardedFrame bs := by
  simp only [onlyForwarded, Bool.and_eq_true, Bool.not_eq_true', beq_iff_eq, Bool.and_eq_false_iff, beq_eq_false_iff_ne] at only
  obtain ⟨⟨⟨good, kind⟩, foreign⟩, elsewhere⟩ := only
  have other : ¬ (frameKind bs = kindRequest ∧ frameDest bs = own) := fun h => elsewhere.elim (absurd h.1) (absurd h.2)
  rw [classify_good good, classifyGood_undelivered kind, foreign, if_neg Bool.false_ne_true, if_neg other]

theorem classify_own {bs : Bytes} (good : badReason bs = none) (back : returnsOwn own bs = true) :
    classify own bs = .ownFrameRemoval bs := by
  have sent : ownKind (frameKind bs) = true := (Bool.and_eq_true _ _ ▸ back).1
  rw [classify_good good, classifyGood_undelivered (undelivered_of_own sent), if_pos back]

theorem classify_bad {bs : Bytes} (bad : (badReason bs).isSome = true) : classify own bs = .badFrame bs := by
  obtain ⟨k, e⟩ := Option.isSome_iff_exists.1 bad
  simp only [classify, e]

/-! ### Requests by code (R184) -/

/-- A request of up to 20 values is good, not short, and read back field by field. -/
theorem classify_request (r : Req) (code low : Byte) (target index : Word) {vs : List Word} (fit : vs.length ≤ 20) :
    classify own (requestBytes own r code low target index vs) = classifyRequest r.src code low r.tag target index vs := by
  have most : (wordsToBytes (joinBytes code low :: r.tag :: target :: index :: vs)).length ≤ 48 := by
    simp only [wordsToBytes_length, List.length_cons]
    omega
  have long : shortFrame (requestBytes own r code low target index vs) = false := by
    have size : payloadSize kindRequest = some 8 := rfl
    simp only [shortFrame, requestBytes, frame_kind, size, frame_len _ _ _ _ most, decide_eq_false_iff_not]
    simp only [wordsToBytes_length, List.length_cons]
    omega
  have good : badReason (requestBytes own r code low target index vs) = none := by
    rw [requestBytes, frame_badReason _ _ _ _ most, ← requestBytes, long]
    rfl
  rw [classify_good good, classifyGood_undelivered rfl]
  simp [requestBytes, returnsOwn, payloadWord, ownKind, kindRequest, kindReference, kindState, kindResponse]

theorem valuesFit_iff (vs : List Word) : valuesFit vs = true ↔ vs.length ≤ 20 := decide_eq_true_iff

/-- A WRITE of an item without a row of its own is WRITE (R186). -/
theorem classifyWrite_plain (r : Req) {item : Word} (index : Word) (vs : List Word) (plain : specialItems.contains item.toNat = false) :
    classifyWrite r item index vs = .write r item index vs := by
  unfold classifyWrite
  split
  case h_17 => rfl
  all_goals
    rename_i number
    rw [number] at plain
    exact absurd plain (by decide)

theorem classifyRequest_unknown (src : Byte) {code : Byte} (low : Byte) (tag target index : Word) (vs : List Word)
    (unknown : code.toNat = 0 ∨ 15 < code.toNat) :
    classifyRequest src code low tag target index vs = .unknownCode ⟨src, tag⟩ code := by
  unfold classifyRequest
  simp only
  split
  case h_16 => rfl
  all_goals omega

end

/-- Settles O13: frames by kind, requests by `classify_request`; rows without bytes give none. -/
theorem frameBytesClassify : Obligations.FrameBytesClassify := by
  intro own c bs ok e
  cases c
  case powerOnReset | pinReset | resetComplete | bypassStart | softReset | frameTransmitted | loopSilent | channelStale | memberAbsent
      | discreteStale | cmdLost | transferTimeout | shoeMismatch | shoeDisagree | brakeDelayExpiry | stuck | settled => cases e
  all_goals
    obtain rfl := Option.some.inj e
    simp only [Instr.wellFormed, Bool.and_eq_true, Bool.not_eq_true', valuesFit_iff] at ok
  case cycle l n => exact classify_cycle n (fits_of_wellFormed ok)
  case cab l a b => exact classify_cab a b (fits_of_wellFormed ok)
  case command l a b => exact classify_command a b (fits_of_wellFormed ok)
  case sample l d => exact classify_sample d (fits_of_wellFormed ok)
  case discrete l a b => exact classify_discrete a b (fits_of_wellFormed ok)
  case driveStatus l d => exact classify_driveStatus d (fits_of_wellFormed ok)
  case forwardedFrame => exact classify_forwarded ok
  case ownFrameRemoval => exact classify_own (beq_iff_eq.1 ok.1) ok.2
  case badFrame => exact classify_bad ok
  case read r item index count =>
    rw [classify_request _ _ _ _ _ (Nat.zero_le _)]
    exact if_neg (by rw [ok.2]; decide)
  case discardCountRead r item index count =>
    rw [classify_request _ _ _ _ _ (Nat.zero_le _)]
    exact if_pos ok.2
  case write r item index vs =>
    obtain ⟨⟨-, fit⟩, plain⟩ := ok
    rw [classify_request _ _ _ _ _ fit]
    exact classifyWrite_plain r index vs plain
  case unknownCode r code =>
    rw [classify_request _ _ _ _ _ (Nat.zero_le _)]
    exact classifyRequest_unknown _ _ _ _ _ _ (by simpa using ok.2)
  case loadTable | zero | crossingFlags | pitHeading | swingGear | hoistRopeK | dragRopeK | camZero | correctionMode | speedLimit
      | offsetLimit | gainLimit | gainMode | gainLow | gainHigh =>
    rw [classify_request _ _ _ _ _ ok.2]
    rfl
  case fixedItems r item ch vs =>
    rw [classify_request _ _ _ _ _ ok.2]
    cases item <;> rfl
  case openTable | closeTable | abandonTable | readTable | start | stop | learn | force | ack | readAlarms | reset =>
    rw [classify_request _ _ _ _ _ (Nat.zero_le _)]
    rfl

end Sys2Proof.Machine
end

section
/-! The STATE frame word by word (chapter 12.4) and how a marker and its STATE frame enter the queue (R123, R171, R173, R174). -/

namespace Sys2Proof.Machine

/-! ### The STATE frame -/

theorem pageWords_length (u : State) (page : Nat) : (pageWords u page).length = 8 := by
  unfold pageWords
  split <;> rfl

theorem fixedWords_length (u : State) : (fixedWords u).length = 16 := rfl

theorem stateWords_length (u : State) : (stateWords u).length = 24 := by
  rw [stateWords, List.length_append, fixedWords_length, pageWords_length]

theorem stateWords_take (u : State) : (stateWords u).take 16 = fixedWords u := List.take_left' (fixedWords_length u)

theorem stateWords_drop (u : State) : (stateWords u).drop 16 = pageWords u (pageNumber u) := List.drop_left' (fixedWords_length u)

/-- A word of the fixed part. -/
theorem stateWords_fixed (u : State) {k : Nat} (fixed : k < 16) : (stateWords u).getD k 0 = (fixedWords u).getD k 0 :=
  List.getD_append _ _ _ _ (fixed.trans_eq (fixedWords_length u).symm)

/-- A word of the page. -/
theorem stateWords_page (u : State) (k : Nat) : (stateWords u).getD (16 + k) 0 = (pageWords u (pageNumber u)).getD k 0 := by
  have beyond : (fixedWords u).length ≤ 16 + k := by rw [fixedWords_length]; omega
  rw [stateWords, List.getD_append_right _ _ _ _ beyond, fixedWords_length, Nat.add_sub_cancel_left]

theorem packBytes_low (h l : Nat) : (packBytes h l).toNat % 256 = l % 256 := by
  simp only [packBytes, BitVec.toNat_ofNat]
  omega

/-- Word 1: the part mode, the sequencer's state and the contactor command in its upper byte. -/
theorem stateWord1 (u : State) : ((stateWords u).getD 1 0).toNat / 16384 = u.mgu.mode.code
    ∧ ((stateWords u).getD 1 0).toNat / 1024 % 16 = u.wsq.state.code ∧ ((stateWords u).getD 1 0).toNat / 256 % 4 = u.wsq.command.code := by
  have mode : u.mgu.mode.code < 4 := by cases u.mgu.mode <;> decide
  have state : u.wsq.state.code < 16 := by cases u.wsq.state <;> decide
  have command : u.wsq.command.code < 4 := by cases u.wsq.command <;> decide
  rw [stateWords_fixed u (by decide), fixedWords]
  simp only [List.cons_append, List.getD_cons_succ, List.getD_cons_zero, packFields, List.foldl_cons, List.foldl_nil, natWord,
    BitVec.toNat_ofNat, Nat.reducePow]
  omega

theorem shaperWord_state (g : Axis) (u : State) : (shaperWord g u).toNat / 16384 = (u.group g).state.code := by
  have state : (u.group g).state.code < 4 := by cases (u.group g).state <;> decide
  simp only [shaperWord, packFields, List.foldl_cons, List.foldl_nil, natWord, BitVec.toNat_ofNat, Nat.reducePow]
  omega

theorem inputWord_low (u : State) : inputWord u 0 = u.dgu.image.inputs.setWidth 16 := by
  apply BitVec.eq_of_toNat_eq
  simp [inputWord]

theorem inputWord_high (u : State) : inputWord u 1 = (u.dgu.image.inputs >>> 16).setWidth 16 := by
  apply BitVec.eq_of_toNat_eq
  simp [inputWord]

/-- A group's page begins with its shaper's words. -/
theorem pageWords_group (g : Axis) (u : State) : ∃ rest, pageWords u (3 + g.code) = shaperWords g u ++ rest := by
  cases g <;> exact ⟨_, rfl⟩

/-! ### The queue (R173, R174) -/

/-- What a marker's frame `bs` and the STATE frame behind it leave of the port and of the marks: both enter, the marker alone, or
neither (R123, R173, R174). -/
structure MarkerOffered (bs : Bytes) (u t : State) : Prop where
  rest : t = (u.withLpu t.lpu).withSwu { u.swu with marks := t.swu.marks }
  port : t.lpu = { u.lpu with queue := t.lpu.queue, discard := t.lpu.discard }
  both : u.lpu.queue.length ≤ 5 →
    t.lpu.queue = u.lpu.queue ++ [bs, stateFrame u] ∧ t.lpu.discard = u.lpu.discard
  cleared : u.lpu.queue.length ≤ 5 → ∀ m ∈ t.swu.marks, m.pulse = false
  alone : u.lpu.queue.length = 6 ∨ u.lpu.queue.length = 7 →
    t.lpu.queue = u.lpu.queue ++ [bs] ∧ t.lpu.discard = min 65535 (u.lpu.discard + 1)
  neither : 8 ≤ u.lpu.queue.length → t.lpu.queue = u.lpu.queue ∧ t.lpu.discard = min 65535 (u.lpu.discard + 2)
  stand : 6 ≤ u.lpu.queue.length → t.swu.marks = u.swu.marks

theorem clearPulses_pulse (x : Swu) : ∀ m ∈ (clearPulses x).marks, m.pulse = false := by
  intro m mem
  obtain ⟨_, -, rfl⟩ := List.mem_map.1 mem
  rfl

theorem offerState_enters {v : State} (short : v.lpu.queue.length ≤ 6) : offerState v
    = (v.withLpu { v.lpu with queue := v.lpu.queue ++ [stateFrame v] }).withSwu (clearPulses v.swu) := by
  have enters : insertedEnters v = true := decide_eq_true (Nat.lt_succ_of_le short)
  simp only [offerState, offerInserted, enters, if_true]
  rfl

theorem offerState_dropped {v : State} (long : 7 ≤ v.lpu.queue.length) : offerState v = v.withLpu (discardOne v.lpu) := by
  have out : insertedEnters v = false := decide_eq_false (Nat.not_lt.2 long)
  simp only [offerState, offerInserted, out, Bool.false_eq_true, if_false]

theorem markerOffered (bs : Bytes) (u : State) : MarkerOffered bs u (offerState (offerForwarded bs u)) := by
  rcases offerForwarded_spec bs u with ⟨room, e⟩ | ⟨full, e⟩
  · have more : (offerForwarded bs u).lpu.queue.length = u.lpu.queue.length + 1 := by
      rw [e]
      exact List.length_append
    by_cases five : u.lpu.queue.length ≤ 5
    · rw [offerState_enters (by omega), e]
      refine ⟨rfl, rfl, fun _ => ⟨?_, rfl⟩, fun _ => clearPulses_pulse _, fun _ => by omega, fun _ => by omega, fun _ => by omega⟩
      exact List.append_assoc _ [bs] [_]
    · rw [offerState_dropped (by omega), e]
      exact ⟨rfl, rfl, fun _ => by omega, fun _ => by omega, fun _ => ⟨rfl, satInc_eq_min _ _⟩, fun _ => by omega, fun _ => rfl⟩
  · rw [offerState_dropped (by rw [e]; exact (by omega : 7 ≤ u.lpu.queue.length)), e]
    refine ⟨rfl, rfl, fun _ => by omega, fun _ => by omega, fun _ => by omega, fun _ => ⟨rfl, ?_⟩, fun _ => rfl⟩
    show satInc 65535 (satInc 65535 u.lpu.discard) = min 65535 (u.lpu.discard + 2)
    rw [satInc_eq_min, satInc_eq_min]
    omega

end Sys2Proof.Machine
end

section
/-! A CYCLE marker (R123, R124, R171): the notes it clears, what the blocks' marker work leaves for the STATE frame, and O19. -/

namespace Sys2Proof.Machine

/-! ### The arrival notes -/

theorem markChannel_note (ctx : ChanCtx) (c : Channel) : (markChannel ctx c).chan.note = false := by
  simp only [markChannel]
  split
  · obtain ⟨acc, chan⟩ := enterFault_chan ctx .stale ⟨{ c with stale := staleNext c, note := false }, []⟩
    rw [chan]
  · rfl

theorem channelMarker_chan (a : Axis) (s : State) :
    (channelMarker s a).chan a = (markChannel (s.chanCtx a) (s.chan a)).chan := by
  have set := State.setChan_same s a (markChannel (s.chanCtx a) (s.chan a)).chan
  have reported := ((reacts_report (markChannel (s.chanCtx a) (s.chan a)).reports _).configKept.chan a).trans set
  simp only [channelMarker]
  split
  · split
    · exact reported
    · exact ((handsOff_handOff a false _).configKept.chan a).trans reported
  · exact set

theorem lossMarker_note (g : Axis) (s : State) : ((lossMarker g s).group g).note = false := by
  by_cases due : lossDue g s = true
  · rw [lossMarker_eq due, ((reacts_report _ _).group g).note, commandLostAt_group]
    exact (reacts_stop _).note
  · simp only [lossMarker, if_neg due, State.setGroup_same]

theorem image_mark_note (limit : Nat) (i : Image) : (i.mark limit).note = false := by
  simp only [Image.mark]
  split <;> rfl

theorem member_mark_note (limit : Nat) (m : Member) : (m.mark limit).note = false := by
  simp only [Member.mark]
  split
  · rfl
  · split <;> rfl

/-- A marker clears every arrival note (R29, R56, R67, R89). -/
theorem takeCycle_notes (l : Link) (n : Word) (s : State) : let t := takeCycle l n s
    (∀ a, (t.chan a).note = false) ∧ (∀ g, (t.group g).note = false) ∧ t.dgu.image.note = false
      ∧ ∀ d, ∀ m ∈ t.dgu.members.get d, m.note = false := by
  obtain ⟨u, -, drives⟩ := takeCycle_dguStands l n s
  have dgu : (takeCycle l n s).dgu = (markedDgu u.items u.dgu).recompute := drives.dgu.trans (driveMarker_dgu u)
  refine ⟨fun a => ?_, fun g => ?_, ?_, fun d m mem => ?_⟩
  · obtain ⟨v, -, stands⟩ := takeCycle_stands l n a s
    rw [stands.chan, channelMarker_chan]
    exact markChannel_note _ _
  · obtain ⟨v, -, stands⟩ := takeCycle_lossStands l n g s
    rw [stands.group.note]
    exact lossMarker_note g v
  · rw [dgu]
    exact image_mark_note _ _
  · rw [dgu, recompute_members, markedDgu_members] at mem
    obtain ⟨m', -, rfl⟩ := List.mem_map.1 mem
    exact member_mark_note _ m'

/-! ### The blocks' marker work -/

/-- Beside its number a marker's arrival lowers LOOP_SILENT alone (R171, R175). -/
theorem takeNumber_reacts (n : Word) (s : State) : Reacts (s.withLpu { s.lpu with lastCycle := n.toNat }) (takeNumber n s) := by
  simp only [takeNumber]
  split
  · exact reacts_report _ _
  · exact .refl _

theorem takeNumber_silent (n : Word) (s : State) : (takeNumber n s).alu.raised cLoopSilent = false := by
  by_cases stands : s.alu.raised cLoopSilent = true
  · have e : takeNumber n s = report [.level cLoopSilent false none] (s.withLpu { s.lpu with lastCycle := n.toNat }) := if_pos stands
    have within : cLoopSilent < s.alu.conds.length := by
      by_contra beyond
      have none : s.alu.conds[cLoopSilent]? = none := List.getElem?_eq_none (Nat.not_lt.1 beyond)
      simp [Alu.raised, Alu.cond, none, Cond.reset] at stands
    obtain ⟨fallen, -⟩ := report_level [.level cLoopSilent false none] (s.withLpu { s.lpu with lastCycle := n.toNat }) cLoopSilent false
      none silent_not_reaction within (List.mem_singleton_self _) (by simp)
    rw [e]
    exact fallen
  · have e : takeNumber n s = s.withLpu { s.lpu with lastCycle := n.toNat } := if_neg stands
    rw [e]
    exact Bool.eq_false_iff.2 stands

/-- What the blocks' marker work leaves (R171): the number is the port's, LOOP_SILENT is down, the hoist torque that the DGU handed on
is pushed (R124), and no PULSE flag has fallen (R123). -/
structure Marked (n : Word) (s u : State) : Prop where
  lpu : u.lpu = { s.lpu with lastCycle := n.toNat }
  pending : u.pending = s.pending
  silent : u.alu.raised cLoopSilent = false
  fifo : u.swu.fifo = (s.swu.fifo ++ [u.dgu.values.hoist.torque]).drop (s.swu.fifo.length + 1 - 8)
  pulse : ∀ k, (s.swu.marks.getD k .reset).pulse = true → (u.swu.marks.getD k .reset).pulse = true

theorem marked_seqMarker (n : Word) (s : State) : Marked n s (seqMarker (markBeforeSeq n s)) := by
  have arrived := takeNumber_reacts n s
  have load : LoadStands s.swu (takeNumber n s).swu := arrived.loadStands
  obtain ⟨v, kept, torque, pushed⟩ := markBeforeSeq_eq n s
  have seq := reacts_seqMarker (markBeforeSeq n s)
  have dgu : (seqMarker (markBeforeSeq n s)).dgu = v.dgu := seq.dgu.trans (by rw [pushed]; rfl)
  refine ⟨seqMarker_lpu n s, ?_, ?_, ?_, fun k set => ?_⟩
  · rw [seq.pending, pushed]
    exact kept.pending.trans arrived.pending
  · rw [(markerKept_seqMarker (.refl _)).silent, pushed]
    exact kept.silent.trans (takeNumber_silent n s)
  · rw [seq.loadStands.fifo, dgu, pushed]
    show (v.swu.fifo ++ [v.swu.heldTorque]).drop ((v.swu.fifo ++ [v.swu.heldTorque]).length - 8) = _
    rw [kept.fifo, load.fifo, torque, List.length_append, List.length_singleton]
  · refine seq.loadStands.pulse k ?_
    rw [pushed]
    exact kept.pulse k (load.pulse k set)

theorem Marked.page {n : Word} {s u : State} (marked : Marked n s u) : pageNumber u = n.toNat % 7 := by
  rw [pageNumber, marked.lpu]

/-- The words of the STATE frame that the marker's number and the port give (chapter 12.4). -/
theorem Marked.words {n : Word} {s u : State} (marked : Marked n s u) :
    (stateWords u).getD 0 0 = n ∧ (stateWords u).getD 2 0 = natWord s.lpu.discard
      ∧ ((stateWords u).getD 13 0).toNat % 256 = n.toNat % 7 := by
  have port := marked.lpu
  refine ⟨?_, ?_, ?_⟩ <;> rw [stateWords_fixed u (by decide)]
  · show natWord u.lpu.lastCycle = n
    rw [port]
    exact BitVec.ofNat_toNat 16 n |>.trans (BitVec.setWidth_eq n)
  · show natWord u.lpu.discard = _
    rw [port]
  · show (packBytes (severityByte u .walk) (pageNumber u)).toNat % 256 = _
    rw [packBytes_low, marked.page]
    omega

/-! ### The pages -/

section
variable {u : State}

theorem page_positions (page : pageNumber u = 0) :
    (stateWords u).getD 16 0 = wordOf u.pos.payout.hoist ∧ (stateWords u).getD 17 0 = wordOf u.pos.payout.drag
      ∧ (stateWords u).getD 18 0 = wordOf u.pos.house ∧ (stateWords u).getD 19 0 = wordOf u.pos.relative
      ∧ (stateWords u).getD 20 0 = wordOf u.pos.cam := by
  rw [stateWords, page]
  exact ⟨rfl, rfl, rfl, rfl, rfl⟩

theorem page_drives (page : pageNumber u = 1) :
    (stateWords u).getD 17 0 = wordOf u.dgu.values.hoist.torque ∧ (stateWords u).getD 18 0 = wordOf u.dgu.values.hoist.speed
      ∧ (stateWords u).getD 20 0 = wordOf u.dgu.values.drag.torque ∧ (stateWords u).getD 21 0 = wordOf u.dgu.values.drag.speed
      ∧ (stateWords u).getD 23 0 = wordOf u.dgu.values.swing.torque := by
  rw [stateWords, page]
  exact ⟨rfl, rfl, rfl, rfl, rfl⟩

theorem page_inputs (page : pageNumber u = 2) :
    (stateWords u).getD 16 0 = wordOf u.dgu.values.swing.speed ∧ (stateWords u).getD 17 0 = u.dgu.image.inputs.setWidth 16
      ∧ (stateWords u).getD 18 0 = (u.dgu.image.inputs >>> 16).setWidth 16 ∧ (stateWords u).getD 21 0 = wordOf u.wsq.steps
      ∧ (stateWords u).getD 23 0 = packBytes u.wsq.mismatch u.wsq.disagree := by
  rw [stateWords, page, ← inputWord_low, ← inputWord_high]
  exact ⟨rfl, rfl, rfl, rfl, rfl⟩

theorem page_group (g : Axis) (page : pageNumber u = 3 + g.code) :
    (stateWords u).getD 17 0 = wordOf (u.group g).q ∧ (stateWords u).getD 18 0 = wordOf (u.group g).lastRef.speed
      ∧ (stateWords u).getD 19 0 = wordOf (u.group g).lastRef.motoring ∧ (stateWords u).getD 20 0 = wordOf (u.group g).lastRef.regen
      ∧ ((stateWords u).getD 16 0).toNat / 16384 = (u.group g).state.code := by
  obtain ⟨rest, words⟩ := pageWords_group g u
  rw [stateWords, page, words, ← shaperWord_state]
  exact ⟨rfl, rfl, rfl, rfl, rfl⟩

end

/-! ### O19 -/

/-- Settles O19: the marker's work is `marked_seqMarker`, its notes `takeCycle_notes`, its frames `markerOffered`. -/
theorem cycleMarker : Obligations.CycleMarker := by
  intro l n s loop f
  have e : exec (.cycle l n) s = .next (takeCycle l n (goodFrameSeen s)) := by
    rw [← arrival_in l 2 (takeCycle l n) s loop f]
    rfl
  obtain ⟨channels, groups, image, members⟩ := takeCycle_notes l n (goodFrameSeen s)
  have config := takeCycle_config l n (goodFrameSeen s)
  have marked := marked_seqMarker n (goodFrameSeen s)
  have offered : MarkerOffered (received kindCycle l [n]) (seqMarker (markBeforeSeq n (goodFrameSeen s)))
      (takeCycle l n (goodFrameSeen s)) := markerOffered _ _
  refine ⟨takeCycle l n (goodFrameSeen s), e, ?_⟩
  generalize seqMarker (markBeforeSeq n (goodFrameSeen s)) = u at marked offered ⊢
  generalize takeCycle l n (goodFrameSeen s) = t at channels groups image members config offered ⊢
  have queue : u.lpu.queue = s.lpu.queue := by rw [marked.lpu]; rfl
  have discard : u.lpu.discard = s.lpu.discard := by rw [marked.lpu]; rfl
  have own : u.ownByte = s.ownByte := by rw [State.ownByte, marked.lpu]; rfl
  have port : t.lpu = { (goodFrameSeen s).lpu with lastCycle := n.toNat, queue := t.lpu.queue, discard := t.lpu.discard } :=
    offered.port.trans (by rw [marked.lpu])
  have alu : t.alu = u.alu := by rw [offered.rest]; rfl
  have dgu : t.dgu = u.dgu := by rw [offered.rest]; rfl
  have fifo : t.swu.fifo = u.swu.fifo := by rw [offered.rest]; rfl
  have both := offered.both
  have alone := offered.alone
  have neither := offered.neither
  have stand := offered.stand
  rw [queue] at both alone neither stand
  rw [discard] at both alone neither
  rw [stateFrame, own] at both
  obtain ⟨word0, word2, word13⟩ := marked.words
  obtain ⟨mode, state, command⟩ := stateWord1 u
  have page := marked.page
  have digest : (stateWords u).getD 4 0 = packBytes u.alu.list.length u.alu.newCount := rfl
  refine ⟨congrArg Lpu.lastCycle port, congrArg Lpu.timer port, congrArg Lpu.timerLength port, congrArg Lpu.trafficSeen port,
    (congrArg Lpu.ownAddress port).trans rfl, (congrArg Lpu.bypass port).trans loop, by rw [alu]; exact marked.silent, channels, groups, image,
    members, by rw [fifo, dgu]; exact marked.fifo, ?_, by rw [← queue]; exact offered.cleared, fun six k set => ?_, config, ?_⟩
  · refine ⟨offered.rest, both, alone, neither, stateWords_length u, word0, word2, word13, mode,
      state, command, digest, stateWords_take u, ?_, ?_, ?_, ?_, ?_⟩
    · rw [stateWords_drop, page]
    · exact fun zero => page_positions (page.trans zero)
    · exact fun one => page_drives (page.trans one)
    · exact fun two => page_inputs (page.trans two)
    · exact fun g own => page_group g (page.trans own)
  · rw [stand six]
    exact marked.pulse k set
  · exact (congrArg State.pending offered.rest).trans marked.pending

end Sys2Proof.Machine
end

section
/-! START, STOP, RESET and unknown codes (R180, R181, R184, R190): O32 and O37. -/

namespace Sys2Proof.Machine

/-! ### The checks of START (R180) -/

/-- A search ends at the first member that meets its test. -/
theorem find_first {α : Type} {p : α → Bool} {xs pre post : List α} {x : α} (order : xs = pre ++ x :: post)
    (before : ∀ y ∈ pre, p y = false) (here : p x = true) : xs.find? p = some x :=
  List.find?_eq_some_iff_append.2 ⟨here, pre, post, order, fun y mem => by rw [before y mem]; rfl⟩

section
variable {s : State}

theorem startFailure_table {pre post : List TableId} {i : TableId} (order : startTables = pre ++ i :: post)
    (before : ∀ j ∈ pre, (s.table j).state = .live) (here : (s.table i).state ≠ .live) : startFailure s = some (1, i.code) := by
  have found := find_first (p := fun i => !(s.table i).isLive) order
    (fun j mem => by simp [Table.isLive, before j mem]) (by simpa [Table.isLive] using here)
  simp only [startFailure, found]

theorem tables_pass (tables : ∀ i ∈ startTables, (s.table i).state = .live) :
    startTables.find? (fun i => !(s.table i).isLive) = none :=
  List.find?_eq_none.2 fun i mem => by simp [Table.isLive, tables i mem]

theorem channels_pass (channels : ∀ a, (s.chan a).state = .tracking) :
    Axis.all.find? (fun a => (s.chan a).state != .tracking) = none :=
  List.find?_eq_none.2 fun a _ => by simp [channels a]

theorem forms_pass (forms : ∀ d, (s.dgu.values.get d).form ≠ .unresolved) :
    Drive.all.find? (fun d => (s.dgu.values.get d).form == .unresolved) = none :=
  List.find?_eq_none.2 fun d _ => by simp [forms d]

variable (tables : ∀ i ∈ startTables, (s.table i).state = .live)
include tables

theorem startFailure_channel {pre post : List Axis} {a : Axis} (order : Axis.all = pre ++ a :: post)
    (before : ∀ b ∈ pre, (s.chan b).state = .tracking) (here : (s.chan a).state ≠ .tracking) :
    startFailure s = some (2, a.code) := by
  have found := find_first (p := fun a => (s.chan a).state != .tracking) order
    (fun b mem => by simp [before b mem]) (by simpa using here)
  simp only [startFailure, tables_pass tables, found]

variable (channels : ∀ a, (s.chan a).state = .tracking)
include channels

theorem startFailure_form {pre post : List Drive} {d : Drive} (order : Drive.all = pre ++ d :: post)
    (before : ∀ e ∈ pre, (s.dgu.values.get e).form ≠ .unresolved) (here : (s.dgu.values.get d).form = .unresolved) :
    startFailure s = some (3, d.code) := by
  have found := find_first (p := fun d => (s.dgu.values.get d).form == .unresolved) order
    (fun e mem => by simpa using before e mem) (by simpa using here)
  simp only [startFailure, tables_pass tables, channels_pass channels, found]

variable (forms : ∀ d, (s.dgu.values.get d).form ≠ .unresolved)
include forms

theorem startFailure_unsettled (unsettled : s.wsq.state = .unsettled) : startFailure s = some (4, 0) := by
  simp only [startFailure, tables_pass tables, channels_pass channels, forms_pass forms, if_pos unsettled]

/-- With the sequencer settled the input image alone decides. -/
theorem startFailure_image (settled : s.wsq.state ≠ .unsettled) :
    (s.dgu.image.state = .unloaded → startFailure s = some (5, 0))
      ∧ (s.dgu.image.state = .stale → startFailure s = some (5, 1))
      ∧ (s.dgu.image.state = .fresh → startFailure s = none) := by
  simp only [startFailure, tables_pass tables, channels_pass channels, forms_pass forms, if_neg settled]
  exact ⟨fun unloaded => by rw [unloaded], fun stale => by rw [stale], fun fresh => by rw [fresh]⟩

end

theorem startFailure_ready {s : State} (ready : ReadyToRun s) : startFailure s = none := by
  obtain ⟨tables, channels, forms, settled, fresh⟩ := ready
  obtain ⟨-, -, passed⟩ := startFailure_image tables channels forms settled
  exact passed fresh

/-! ### START and STOP -/

theorem serveStart_refused {s : State} (mode : s.mgu.mode ≠ .standby) : serveStart s = refuse s .refusedMode := by
  cases e : s.mgu.mode with
  | standby => exact absurd e mode
  | run | halted => simp only [serveStart, e]

/-- A failing check is answered NOT_READY with its reason and index, and nothing changes (R180). -/
theorem start_fails (r : Req) {s : State} {reason index : Nat} (h : s.lpu.bypass = .off) (mode : s.mgu.mode = .standby)
    (failure : startFailure s = some (reason, index)) :
    ∃ t, exec (.start r) s = .next t ∧ NothingElse s t ∧ Answered r 8 8 [natWord reason, natWord index] s t := by
  have served : serveStart (goodFrameSeen s) = ⟨goodFrameSeen s, .notReady, [natWord reason, natWord index]⟩ := by
    have : startFailure (goodFrameSeen s) = some (reason, index) := failure
    simp only [serveStart, goodFrameSeen_mgu, mode, this]
  refine ⟨_, serve_in r 8 serveStart s h, ?_⟩
  rw [served]
  exact ⟨nothingElse_respond r 8 rfl,
    answered_respond r 8 (p := ⟨goodFrameSeen s, .notReady, [natWord reason, natWord index]⟩) rfl (by simp)⟩

/-- With every check passed START takes the part to RUN (R180). -/
theorem start_runs (r : Req) {s : State} (h : s.lpu.bypass = .off) (mode : s.mgu.mode = .standby) (ready : ReadyToRun s) :
    ∃ t, exec (.start r) s = .next t ∧ t = (s.withLpu t.lpu).withMgu { s.mgu with mode := .run } ∧ Answered r 8 0 [] s t := by
  have passed : startFailure (goodFrameSeen s) = none := startFailure_ready ready
  exact serve_answered (p := ⟨(goodFrameSeen s).withMgu { s.mgu with mode := .run }, .ok, []⟩) h
    (by simp only [serveStart, goodFrameSeen_mgu, mode, passed]) rfl (Nat.zero_le _)

theorem Group.stop_active {r : Group} (active : r.state = .active) : r.stop = { r with state := .stopping, idle := 0 } := by
  simp only [Group.stop, active]

theorem Group.stop_other {r : Group} (other : r.state ≠ .active) : r.stop = r := by
  unfold Group.stop
  split
  · contradiction
  · rfl

/-- STANDBY is entered by a change of the part mode and a stop of every group (R93, R181). -/
theorem enterStandby_spec (s : State) : ∃ p, enterStandby s = (s.withMgu { s.mgu with mode := .standby }).withGroups p
    ∧ ∀ g, p.get g = (s.group g).stop := by
  obtain ⟨p, e⟩ := stopGroups_eq Axis.all (s.withMgu { s.mgu with mode := .standby })
  refine ⟨p, e, fun g => ?_⟩
  have stopped := (stopGroups_group Axis.all (s.withMgu { s.mgu with mode := .standby }) g).trans (if_pos (Axis.mem_all g))
  rwa [e] at stopped

/-- In RUN STOP takes the part to STANDBY (R181). -/
theorem stop_runs (r : Req) {s : State} (h : s.lpu.bypass = .off) (mode : s.mgu.mode = .run) :
    ∃ t, exec (.stop r) s = .next t ∧ t = ((s.withLpu t.lpu).withMgu { s.mgu with mode := .standby }).withGroups t.groups
      ∧ (∀ g, (s.group g).state = .active → t.group g = { s.group g with state := .stopping, idle := 0 })
      ∧ (∀ g, (s.group g).state ≠ .active → t.group g = s.group g) ∧ Answered r 9 0 [] s t := by
  obtain ⟨p, standby, stopped⟩ := enterStandby_spec (goodFrameSeen s)
  obtain ⟨t, e, rest, answer⟩ := serve_answered (r := r) (code := 9) (body := serveStop)
    (p := ⟨((goodFrameSeen s).withMgu { s.mgu with mode := .standby }).withGroups p, .ok, []⟩) h
    (by simp only [serveStop, goodFrameSeen_mgu, mode, standby]) rfl (Nat.zero_le _)
  have groups : t.groups = p := congrArg State.groups rest
  have group (g : Axis) : t.group g = (s.group g).stop := by rw [State.group, groups]; exact stopped g
  refine ⟨t, e, ?_, fun g active => ?_, fun g other => ?_, answer⟩
  · rw [groups]; exact rest
  · rw [group, Group.stop_active active]
  · rw [group, Group.stop_other other]

/-- Settles O32: the checks of START by `startFailure`, STOP by the part mode. -/
theorem startAndStopRequests : Obligations.StartAndStopRequests := by
  intro r s h
  refine ⟨fun mode => ⟨start_runs r h mode, ?table, ?channel, ?form, ?unsettled, ?image⟩, fun other => ?refused, stop_runs r h,
    fun standby => ?standby, fun halted => ?halted⟩
  case table => exact fun pre i post order before here => start_fails r h mode (startFailure_table order before here)
  case channel =>
    exact fun pre a post tables order before here => start_fails r h mode (startFailure_channel tables order before here)
  case form =>
    exact fun pre d post tables channels order before here =>
      start_fails r h mode (startFailure_form tables channels order before here)
  case unsettled =>
    exact fun tables channels forms unsettled => start_fails r h mode (startFailure_unsettled tables channels forms unsettled)
  case image =>
    intro tables channels forms settled
    obtain ⟨unloaded, stale, -⟩ := startFailure_image tables channels forms settled
    exact ⟨fun x => start_fails r h mode (unloaded x), fun x => start_fails r h mode (stale x)⟩
  case refused => exact serve_nothingElse (x := .refusedMode) h (serveStart_refused (s := goodFrameSeen s) other)
  case standby => exact serve_nothingElse (x := .ok) h (by simp only [serveStop, goodFrameSeen_mgu, standby])
  case halted => exact serve_nothingElse (x := .refusedMode) h (by simp only [serveStop, goodFrameSeen_mgu, halted, refuse])

/-! ### RESET and unknown codes -/

theorem knownCode_false {code : Byte} (unknown : code.toNat = 0 ∨ 15 < code.toNat) : knownCode code = false := by
  simp only [knownCode, Bool.and_eq_false_iff, decide_eq_false_iff_not]
  omega

/-- Settles O37: RESET sets the pending flag alone; a code that names no request is refused. -/
theorem resetAndUnknownCode : Obligations.ResetAndUnknownCode := by
  refine fun r s h => ⟨?_, fun code unknown => ?_⟩
  · exact serve_answered (p := serveReset (goodFrameSeen s)) h rfl rfl (Nat.zero_le _)
  · have e : exec (.unknownCode r code) s = serve r code.toNat (fun s => refuse s .invalid) s := by
      simp only [exec, execUnknownCode, knownCode_false unknown, Bool.false_eq_true, if_false]
    rw [e]
    exact serve_nothingElse (x := .invalid) h rfl

end Sys2Proof.Machine
end

section
/-! The invariants in the state after power-on reset (R191): O2. -/

namespace Sys2Proof.Machine

theorem reset_group (g : Axis) : State.reset.group g = .reset := PerAxis.get_all _ g

/-- The ten conditions the owners raise are listed in the order of their reports, and no mask or UNLISTED condition stands. -/
theorem reset_listingOk : ListingOk State.reset := by
  unfold ListingOk
  decide +kernel

/-- Every group is handed the severity of UNRESOLVED_x and GROUP_DEAD_x, and no TRIP stands. -/
theorem reset_handedOk : HandedOk State.reset := by
  unfold HandedOk
  decide +kernel

theorem reset_notActive (g : Axis) : (State.reset.group g).state ≠ .active := by
  rw [reset_group]
  nofun

theorem reset_groupsOk : GroupsOk State.reset :=
  ⟨fun g _ => by rw [reset_group]; rfl, nofun, fun g active => absurd active (reset_notActive g)⟩

theorem reset_correctionOk : CorrectionOk State.reset := by
  intro a
  unfold InCorrectionRange
  cases a <;> decide

/-- No table is LIVE after power-on. -/
theorem reset_notLive (i : TableId) : (State.reset.table i).state ≠ .live := by cases i <;> nofun

/-- Settles O2: no group is ACTIVE, no table LIVE, and the ALU holds what the owners report. -/
theorem resetStateIsSafe : Obligations.ResetStateIsSafe := by
  refine ⟨?queue, ?alarms, reset_listingOk, reset_groupsOk, ?severity, reset_handedOk, ?digging, ?command, ?gain,
    reset_correctionOk, ?tables, ?envelope, ?caps⟩
  case queue => exact Nat.zero_le _
  case alarms => exact ⟨rfl, by decide⟩
  case severity => exact fun g active => absurd active (reset_notActive g)
  case digging => exact fun g _ active => absurd active (reset_notActive g)
  case command => exact nofun
  case gain => intro a; cases a <;> decide
  case tables => exact ⟨fun live => absurd live (reset_notLive .t0), nofun⟩
  case envelope => exact ⟨fun live => absurd live (reset_notLive .t0), fun _ => ⟨rfl, rfl, rfl⟩⟩
  case caps => unfold CapItemsOk; decide

end Sys2Proof.Machine
end

section
/-! WRITE (R186): its tests in their order, what an accepted write of a stored item leaves, and O28. -/

namespace Sys2Proof.Machine

/-! ### The tests -/

section
variable {item index : Word} {vs : List Word} {s : State}

theorem serveWrite_noItem (unnamed : namedItem item.toNat index.toNat = none) : serveWrite item index vs s = refuse s .noItem := by
  simp only [serveWrite, unnamed]

variable {row : ItemRow} (named : namedItem item.toNat index.toNat = some row)
include named

theorem serveWrite_readOnly (cls : row.cls = .readOnly) : serveWrite item index vs s = refuse s .readOnly := by
  simp only [serveWrite, named, if_pos cls]

theorem serveWrite_count (cls : row.cls ≠ .readOnly) (count : vs.length ≠ 1) : serveWrite item index vs s = refuse s .outOfRange := by
  simp only [serveWrite, named, if_neg cls]
  split
  · exact absurd rfl count
  · rfl

/-- Past the three tests on the request the part mode decides (R185, R186). -/
theorem serveWrite_word (w : Word) (cls : row.cls ≠ .readOnly) : serveWrite item index [w] s
    = if writeRefused item.toNat row.cls s then refuse s .refusedMode
      else ⟨(writeItem row.scope item.toNat index.toNat w s).1, okIf (writeItem row.scope item.toNat index.toNat w s).2, []⟩ := by
  simp only [serveWrite, named, if_neg cls]

end

@[simp] theorem writeRefused_goodFrameSeen (n : Nat) (cls : ItemClass) (s : State) :
    writeRefused n cls (goodFrameSeen s) = writeRefused n cls s := rfl

theorem writeRefused_setup (n : Nat) {s : State} (mode : s.mgu.mode = .run) : writeRefused n .setup s = true := by
  simp [writeRefused, mode]

/-- Outside RUN the part mode refuses no write (R185). -/
theorem writeRefused_outsideRun (n : Nat) (cls : ItemClass) {s : State} (mode : s.mgu.mode ≠ .run) : writeRefused n cls s = false := by
  simp [writeRefused, mode]

/-- Of the run items PIT_HEADING alone can be refused (R48, R185). -/
theorem writeRefused_run {n : Nat} (s : State) (other : n ≠ 46) : writeRefused n .run s = false := by
  simp [writeRefused, other]

/-! ### What a stored item comes to -/

/-- A write is answered, and changes no block but the items, which it leaves as given. -/
def Stores (r : Req) (item index w : Word) (s : State) (it' : Items) (status : Nat) : Prop :=
  ∃ t, exec (.write r item index [w]) s = .next t ∧ t = (s.withLpu t.lpu).withItems it' ∧ Answered r 2 status [] s t

section
variable {r : Req} {item index w : Word} {s : State} {it' : Items} {status : Nat} {adjusted : Bool}

/-- An allowed write whose effect is on the items alone stores them. -/
theorem stores_of_write {row : ItemRow} (h : s.lpu.bypass = .off) (named : namedItem item.toNat index.toNat = some row)
    (cls : row.cls ≠ .readOnly) (allowed : writeRefused item.toNat row.cls s = false)
    (written : writeItem row.scope item.toNat index.toNat w (goodFrameSeen s) = ((goodFrameSeen s).withItems it', adjusted))
    (st : (if adjusted then 1 else 0) = status) : Stores r item index w s it' status := by
  subst st
  have served : serveWrite item index [w] (goodFrameSeen s) = ⟨(goodFrameSeen s).withItems it', okIf adjusted, []⟩ := by
    rw [serveWrite_word named w cls, writeRefused_goodFrameSeen, if_neg (Bool.eq_false_iff.1 allowed), written]
  obtain ⟨t, e, rest, answer⟩ := serve_answered (r := r) (code := 2) h served rfl (Nat.zero_le _)
  exact ⟨t, e, rest, okIf_code adjusted ▸ answer⟩

theorem namedItem_part {n : Nat} {row : ItemRow} (known : itemRow n = some row) (part : row.scope = .part) (index : Nat) :
    namedItem n index = some row := by
  simp [namedItem, known, hasInstance, part]

/-- A run item of the part, in every part mode (R185). -/
theorem stores_runItem {first last : Nat} (h : s.lpu.bypass = .off) (known : itemRow item.toNat = some ⟨first, last, .part, .run⟩)
    (other : item.toNat ≠ 46) (written : writePart item.toNat w (goodFrameSeen s) = ((goodFrameSeen s).withItems it', adjusted))
    (st : (if adjusted then 1 else 0) = status) : Stores r item index w s it' status :=
  stores_of_write h (namedItem_part known rfl _) nofun (writeRefused_run s other) written st

/-- An item of a channel, outside RUN. -/
theorem stores_channelItem {a : Axis} {ch : ChannelItems} (h : s.lpu.bypass = .off) (mode : s.mgu.mode ≠ .run)
    (named : namedItem item.toNat (natWord a.code).toNat = some ⟨10, 27, .channel, .setup⟩)
    (written : writeChannel item.toNat a w (goodFrameSeen s) = (setChannelItems a ch (goodFrameSeen s), adjusted))
    (st : (if adjusted then 1 else 0) = status) :
    Stores r item (natWord a.code) w s { s.items with channels := s.items.channels.set a ch } status := by
  refine stores_of_write h named nofun (writeRefused_outsideRun _ _ mode) ?_ st
  simp only [writeItem, axisOfCode_natWord, written]
  rfl

/-- An item of a group, outside RUN. -/
theorem stores_groupItem {g : Axis} {gr : GroupItems} (h : s.lpu.bypass = .off) (mode : s.mgu.mode ≠ .run)
    (named : namedItem item.toNat (natWord g.code).toNat = some ⟨80, 84, .group, .setup⟩)
    (written : writeGroup item.toNat g w (goodFrameSeen s) = (setGroupItems g gr (goodFrameSeen s), adjusted))
    (st : (if adjusted then 1 else 0) = status) :
    Stores r item (natWord g.code) w s { s.items with groups := s.items.groups.set g gr } status := by
  refine stores_of_write h named nofun (writeRefused_outsideRun _ _ mode) ?_ st
  simp only [writeItem, axisOfCode_natWord, written]
  rfl

end

/-! ### Ranges, codes and the set of thresholds -/

/-- A word is stored as sent exactly within its item's range (R186). -/
theorem range_exact {lo hi : Int} (range : lo ≤ hi) (w : Word) : (if clamp lo hi (unsigned w) != unsigned w then 1 else 0)
    = if lo ≤ (w.toNat : Int) ∧ (w.toNat : Int) ≤ hi then 0 else (1 : Nat) := by
  have asSent : clamp lo hi (unsigned w) = unsigned w ↔ lo ≤ (w.toNat : Int) ∧ (w.toNat : Int) ≤ hi := by
    simp only [clamp, unsigned]; omega
  simp only [notExact, beq_iff_eq, asSent]

/-- A code is stored as sent exactly up to the highest (R186). -/
theorem code_exact (top : Nat) (w : Word) : (if decide (top < w.toNat) then 1 else 0) = if w.toNat ≤ top then 0 else (1 : Nat) := by
  simp only [decide_eq_true_eq, ← not_le]
  split <;> simp_all

theorem clampCode_le (top : Nat) (w : Word) : clampCode top w ≤ top := min_le_left _ _

theorem ackMethod_code_ofCode {k : Nat} (code : k ≤ 2) : (AckMethod.ofCode k).code = k := by interval_cases k <;> rfl

theorem adaptMode_code_ofCode {k : Nat} (code : k ≤ 3) : (AdaptMode.ofCode k).code = k := by interval_cases k <;> rfl

/-- Of two codes any but 0 is the second. -/
theorem clampCode_one (w : Word) : clampCode 1 w = if w.toNat = 0 then 0 else 1 := by
  unfold clampCode
  split <;> omega

theorem noiseMode_ofCode (w : Word) : NoiseMode.ofCode (clampCode 1 w) = if w.toNat = 0 then .one else .two := by
  rw [clampCode_one]
  split <;> rfl

theorem recoveryGain_ofCode (w : Word) : RecoveryGain.ofCode (clampCode 1 w) = if w.toNat = 0 then .high else .keep := by
  rw [clampCode_one]
  split <;> rfl

/-- `v` is at least as near to `u` as `m`, and nearer if it is the smaller (R3). -/
def Nearer (u v m : Int) : Prop := |v - u| < |m - u| ∨ (|v - u| = |m - u| ∧ m ≤ v)

theorem Nearer.refl (u v : Int) : Nearer u v v := .inr ⟨rfl, le_rfl⟩

theorem Nearer.trans {u v m k : Int} (h : Nearer u v m) (i : Nearer u m k) : Nearer u v k := by
  unfold Nearer at *
  omega

/-- One step of the search for the nearest member. -/
def nearerOf (u best m : Int) : Int := if mag (m - u) ≤ mag (best - u) then m else best

theorem nearerOf_spec {u best m : Int} (order : best ≤ m) :
    (nearerOf u best m = m ∧ Nearer u m best) ∨ (nearerOf u best m = best ∧ Nearer u best m) := by
  simp only [nearerOf, Nearer, mag_eq_abs]
  split
  · exact .inl ⟨rfl, by omega⟩
  · exact .inr ⟨rfl, by omega⟩

/-- The search through an ascending list finds the member nearest to `u`, ties to the larger (R3). -/
theorem foldl_nearerOf (u best : Int) (ms : List Int) (ascending : (best :: ms).Pairwise (· ≤ ·)) :
    ms.foldl (nearerOf u) best ∈ best :: ms ∧ ∀ m ∈ best :: ms, Nearer u (ms.foldl (nearerOf u) best) m := by
  induction ms generalizing best with
  | nil => exact ⟨List.mem_cons_self, fun m mem => List.mem_singleton.1 mem ▸ .refl u best⟩
  | cons x xs ih =>
    obtain ⟨above, tail⟩ := List.pairwise_cons.1 ascending
    obtain ⟨-, rest⟩ := List.pairwise_cons.1 tail
    simp only [List.foldl_cons, List.forall_mem_cons] at above ⊢
    rcases nearerOf_spec (u := u) above.1 with ⟨e, near⟩ | ⟨e, near⟩
    · obtain ⟨member, nearest⟩ := ih x tail
      rw [List.forall_mem_cons] at nearest
      rw [e]
      exact ⟨List.mem_cons_of_mem _ member, nearest.1.trans near, nearest⟩
    · obtain ⟨member, nearest⟩ := ih best (List.pairwise_cons.2 ⟨above.2, rest⟩)
      rw [List.forall_mem_cons] at nearest
      rw [e]
      exact ⟨List.mem_cons.2 ((List.mem_cons.1 member).imp_right (List.mem_cons_of_mem _)), nearest.1, nearest.1.trans near,
        nearest.2⟩

/-- The nearest threshold is a member of the set, and no member is nearer (R3). -/
theorem nearestThreshold_spec (u : Int) :
    nearestThreshold u ∈ noiseThresholds ∧ ∀ m ∈ noiseThresholds, Nearer u (nearestThreshold u) m := by
  obtain ⟨member, nearest⟩ := foldl_nearerOf u 32 noiseThresholds (by decide)
  rw [List.forall_mem_cons] at nearest
  refine ⟨?_, nearest.2⟩
  rcases List.mem_cons.1 member with least | mem
  · rw [show nearestThreshold u = 32 from least]
    decide
  · exact mem

/-! ### The items whose value only is stored -/

/-- A plain item of the part names a writable row of the map, and the six run items among them one that RUN does not refuse. -/
theorem plainItems_named : ∀ e ∈ plainItems, ∃ row, itemRow (natWord e.number).toNat = some row ∧ row.scope = .part
    ∧ row.cls ≠ .readOnly ∧ (e.number ∈ [47, 48, 86, 93, 94, 95] → row.cls = .run ∧ (natWord e.number).toNat ≠ 46) := by
  intro e mem
  fin_cases mem <;> exact ⟨_, rfl, rfl, by decide, by decide⟩

/-- A write of a plain item stores the clamped value and does nothing else. -/
theorem writePart_plain (w : Word) (s : State) : ∀ e ∈ plainItems, writePart (natWord e.number).toNat w s
    = (s.withItems (e.put (clamp e.lo e.hi (unsigned w)) s.items), clamp e.lo e.hi (unsigned w) != unsigned w) := by
  intro e mem
  fin_cases mem <;> rfl

theorem plainItems_range : ∀ e ∈ plainItems, e.lo ≤ e.hi := by decide

theorem plainGroupItems_named (g : Axis) : ∀ e ∈ plainGroupItems,
    namedItem (natWord e.number).toNat (natWord g.code).toNat = some ⟨80, 84, .group, .setup⟩ := by
  cases g <;> decide

theorem writeGroup_plain (g : Axis) (w : Word) (s : State) : ∀ e ∈ plainGroupItems, writeGroup (natWord e.number).toNat g w s
    = (setGroupItems g (e.put (clamp e.lo e.hi (unsigned w)) (s.items.groups.get g)) s,
        clamp e.lo e.hi (unsigned w) != unsigned w) := by
  intro e mem
  fin_cases mem <;> rfl

theorem plainGroupItems_range : ∀ e ∈ plainGroupItems, e.lo ≤ e.hi := by decide

theorem plainChannelItems_named (a : Axis) : ∀ e ∈ plainChannelItems,
    namedItem (natWord e.number).toNat (natWord a.code).toNat = some ⟨10, 27, .channel, .setup⟩ := by
  cases a <;> decide

theorem writeChannel_plain (a : Axis) (w : Word) (s : State) : ∀ e ∈ plainChannelItems, writeChannel (natWord e.number).toNat a w s
    = (setChannelItems a (e.put (clamp e.lo e.hi (unsigned w)) (s.items.channels.get a)) s,
        clamp e.lo e.hi (unsigned w) != unsigned w) := by
  intro e mem
  fin_cases mem <;> rfl

theorem plainChannelItems_range : ∀ e ∈ plainChannelItems, e.lo ≤ e.hi := by decide

/-! ### O28 -/

section
variable (r : Req) (w : Word) {s : State} (h : s.lpu.bypass = .off)
include h

/-- A write of DISCARD_COUNT sets the count, from which its own answer then goes on (R174). -/
theorem write_discardCount (index : Word) :
    ∃ t, exec (.write r 6 index [w]) s = .next t ∧ NothingElse s t ∧ AnsweredFrom w.toNat r 2 0 [] s t := by
  have served : serveWrite 6 index [w] (goodFrameSeen s)
      = ⟨(goodFrameSeen s).withLpu { (goodFrameSeen s).lpu with discard := w.toNat }, .ok, []⟩ := by
    rw [serveWrite_word (item := 6) (row := ⟨6, 6, .part, .run⟩) (namedItem_part rfl rfl _) w nofun,
      if_neg (Bool.eq_false_iff.1 (writeRefused_run _ (by decide)))]
    rfl
  obtain ⟨answer, nothing⟩ := answeredFrom_respond r 2 w.toNat (s := s) (congrArg Reply.state served)
    (by rw [served]; exact Nat.zero_le _)
  rw [served] at answer nothing
  exact ⟨_, (serve_in r 2 (serveWrite 6 index [w]) s h).trans (by rw [served]), nothing, answer⟩

theorem write_ackMethod (index : Word) : ∃ t, exec (.write r 8 index [w]) s = .next t ∧ t.items.ackMethod.code = min 2 w.toNat
    ∧ t = (s.withLpu t.lpu).withItems { s.items with ackMethod := t.items.ackMethod }
    ∧ Answered r 2 (if w.toNat ≤ 2 then 0 else 1) [] s t := by
  obtain ⟨t, e, rest, answer⟩ : Stores r 8 index w s { s.items with ackMethod := .ofCode (clampCode 2 w) } _ :=
    stores_runItem (item := 8) h rfl (by decide) rfl (code_exact 2 w)
  have stored : t.items.ackMethod = .ofCode (clampCode 2 w) := congrArg (·.items.ackMethod) rest
  refine ⟨t, e, ?_, ?_, answer⟩
  · rw [stored, ackMethod_code_ofCode (clampCode_le 2 w), clampCode]
  · rw [stored]; exact rest

theorem write_adaptMode (index : Word) : ∃ t, exec (.write r 92 index [w]) s = .next t ∧ t.items.adaptMode.code = min 3 w.toNat
    ∧ t = (s.withLpu t.lpu).withItems { s.items with adaptMode := t.items.adaptMode }
    ∧ Answered r 2 (if w.toNat ≤ 3 then 0 else 1) [] s t := by
  obtain ⟨t, e, rest, answer⟩ : Stores r 92 index w s { s.items with adaptMode := .ofCode (clampCode 3 w) } _ :=
    stores_runItem (item := 92) h rfl (by decide) rfl (code_exact 3 w)
  have stored : t.items.adaptMode = .ofCode (clampCode 3 w) := congrArg (·.items.adaptMode) rest
  refine ⟨t, e, ?_, ?_, answer⟩
  · rw [stored, adaptMode_code_ofCode (clampCode_le 3 w), clampCode]
  · rw [stored]; exact rest

/-- A plain item of the part outside RUN, and the run items among them in every part mode (R185). -/
theorem write_plainItem (index : Word) {e : StoredItem Items} (mem : e ∈ plainItems)
    (mode : s.mgu.mode ≠ .run ∨ e.number ∈ [47, 48, 86, 93, 94, 95]) :
    Stores r (natWord e.number) index w s (e.put (max e.lo (min e.hi (w.toNat : Int))) s.items)
      (if e.lo ≤ (w.toNat : Int) ∧ (w.toNat : Int) ≤ e.hi then 0 else 1) := by
  obtain ⟨row, known, part, cls, run⟩ := plainItems_named e mem
  have allowed : writeRefused (natWord e.number).toNat row.cls s = false := by
    rcases mode with outside | always
    · exact writeRefused_outsideRun _ _ outside
    · obtain ⟨runs, other⟩ := run always
      rw [runs]
      exact writeRefused_run s other
  refine stores_of_write h (namedItem_part known part _) cls allowed ?_ (range_exact (plainItems_range e mem) w)
  rw [part]
  exact writePart_plain w (goodFrameSeen s) e mem

variable (mode : s.mgu.mode ≠ .run)
include mode

theorem write_plainGroupItem (g : Axis) {e : StoredItem GroupItems} (mem : e ∈ plainGroupItems) :
    ∃ t, exec (.write r (natWord e.number) (natWord g.code) [w]) s = .next t
      ∧ t.items.groups = s.items.groups.set g (e.put (max e.lo (min e.hi (w.toNat : Int))) (s.items.groups.get g))
      ∧ t = (s.withLpu t.lpu).withItems { s.items with groups := t.items.groups }
      ∧ Answered r 2 (if e.lo ≤ (w.toNat : Int) ∧ (w.toNat : Int) ≤ e.hi then 0 else 1) [] s t := by
  obtain ⟨t, run, rest, answer⟩ := stores_groupItem (r := r) h mode (plainGroupItems_named g e mem)
    (writeGroup_plain g w (goodFrameSeen s) e mem) (range_exact (plainGroupItems_range e mem) w)
  have stored := congrArg (·.items.groups) rest
  exact ⟨t, run, stored, stored ▸ rest, answer⟩

theorem write_plainChannelItem (a : Axis) {e : StoredItem ChannelItems} (mem : e ∈ plainChannelItems) :
    ∃ t, exec (.write r (natWord e.number) (natWord a.code) [w]) s = .next t
      ∧ t.items.channels = s.items.channels.set a (e.put (max e.lo (min e.hi (w.toNat : Int))) (s.items.channels.get a))
      ∧ t = (s.withLpu t.lpu).withItems { s.items with channels := t.items.channels }
      ∧ Answered r 2 (if e.lo ≤ (w.toNat : Int) ∧ (w.toNat : Int) ≤ e.hi then 0 else 1) [] s t := by
  obtain ⟨t, run, rest, answer⟩ := stores_channelItem (r := r) h mode (plainChannelItems_named a e mem)
    (writeChannel_plain a w (goodFrameSeen s) e mem) (range_exact (plainChannelItems_range e mem) w)
  have stored := congrArg (·.items.channels) rest
  exact ⟨t, run, stored, stored ▸ rest, answer⟩

/-- A channel item whose stored value is a number of its own range or set: adjusted exactly if it is not the one sent. -/
theorem stores_channelNumber {n : Word} {a : Axis} {ch : ChannelItems} {v : Int}
    (named : namedItem n.toNat (natWord a.code).toNat = some ⟨10, 27, .channel, .setup⟩)
    (written : writeChannel n.toNat a w (goodFrameSeen s) = (setChannelItems a ch (goodFrameSeen s), v != unsigned w)) :
    Stores r n (natWord a.code) w s { s.items with channels := s.items.channels.set a ch } (if v = (w.toNat : Int) then 0 else 1) :=
  stores_channelItem h mode named written (notExact.trans (by simp only [beq_iff_eq, unsigned]))

end

/-- Settles O28: the tests by `serveWrite`, each stored item by what its write comes to (`stores_of_write`). -/
theorem writeRequests : Obligations.WriteRequests := by
  intro r item index vs s h
  refine ⟨fun unnamed => ?noItem, fun row named => ⟨fun cls => ?readOnly, fun cls count => ?count, fun cls one mode => ?mode⟩,
    fun w => ?creep, fun w => write_discardCount r w h index, fun w => write_ackMethod r w h index,
    fun w => write_adaptMode r w h index, fun w a mode => ⟨?threshold, ?noiseMode, ?bandUp, ?bandDown, ?recovery⟩,
    fun w e mem mode => write_plainItem r w h index mem mode, fun w g e mem mode => write_plainGroupItem r w h mode g mem,
    fun w a e mem mode => write_plainChannelItem r w h mode a mem⟩
  case noItem => exact serve_nothingElse (x := .noItem) h (serveWrite_noItem unnamed)
  case readOnly => exact serve_nothingElse (x := .readOnly) h (serveWrite_readOnly named cls)
  case count => exact serve_nothingElse (x := .outOfRange) h (serveWrite_count named cls count)
  case mode =>
    obtain ⟨w, rfl⟩ := List.length_eq_one_iff.1 one
    refine serve_nothingElse (x := .refusedMode) h ?_
    rw [serveWrite_word named w (by rw [cls]; nofun), cls]
    exact if_pos (writeRefused_setup item.toNat mode)
  case creep =>
    exact stores_runItem (item := 86) h rfl (by decide)
      (congrArg (fun v => (State.withItems _ { s.items with limitCreep := v }, _)) (clamp_unsigned 1000 w (by decide)))
      (clamp_exact (top := 1000) (n := 1000) rfl w)
  case threshold =>
    obtain ⟨member, nearest⟩ := nearestThreshold_spec (w.toNat : Int)
    exact ⟨_, member, nearest, stores_channelNumber r w h mode (n := 11) (by cases a <;> rfl) rfl⟩
  case noiseMode =>
    exact stores_channelItem (item := 12) h mode (by cases a <;> rfl) (by rw [← noiseMode_ofCode]; rfl) (code_exact 1 w)
  case bandUp => exact stores_channelNumber r w h mode (n := 24) (by cases a <;> rfl) rfl
  case bandDown => exact stores_channelNumber r w h mode (n := 25) (by cases a <;> rfl) rfl
  case recovery =>
    exact stores_channelItem (item := 26) h mode (by cases a <;> rfl) (by rw [← recoveryGain_ofCode]; rfl) (code_exact 1 w)

end Sys2Proof.Machine
end

section
/-! What a step comes to, by the queue of waiting commands. -/

namespace Sys2Proof.Machine

variable {s : State} {c : Instr} {rest : List Instr}

/-- The front command leaves the queue before it runs. -/
theorem step_front (front : s.pending = c :: rest) : step s = exec c (s.withPending rest) := by
  rw [step, front]

/-- With no command waiting the block idles (assumption 3). -/
theorem step_empty (empty : s.pending = []) : step s = .next s := by
  rw [step, empty]

/-- Settles O1: a queue with a command in front by `step_front`, the empty queue by `step_empty`. -/
theorem stepRunsFrontCommand : Obligations.StepRunsFrontCommand :=
  fun _ => ⟨fun _ _ => step_front, step_empty⟩

end Sys2Proof.Machine
end
